-- ==== Sys2Proof/Word.lean ====
section
/-!
DEFINITION. The words that cross the EV480's ports: bytes of a lane link, 16-bit words of the host
channel, and the 32-bit numbers (serials, ordinals, tags, the timebase) that both carry.
-/
namespace Sys2Proof

/-- A byte of a lane link, and of a key. -/
abbrev Byte := BitVec 8

/-- A word of the host channel (section 1.1: "16-bit words over a parallel handshake"). -/
abbrev Word := BitVec 16

/-- A 32-bit quantity: a serial, an ordinal, a host tag, a reading of the timebase. -/
abbrev Word32 := BitVec 32

/-- The key of an item: its bytes, first byte first (R6 says which are valid). -/
abbrev Key := List Byte

end Sys2Proof
end

