-- ==== Sys2Proof/Config.lean ====
section
/-!
DEFINITION. The numbers the specification fixes for every EV480, and the free values: what the
specification leaves open, as constants without a body, of which nothing can be proved.
-/
namespace Sys2Proof

/-- The number of slots (R1, R3). -/
def Config.slotCount : Nat := 8192
/-- The most outstanding requests of one lane (R101). -/
def Config.outstandingLimit : Nat := 8
/-- The most pending revisions of one lane, and of its WAITING entries and revise items (R87). -/
def Config.reviseLimit : Nat := 8
/-- The header of a frame is acknowledged while the response queue holds at most this many (R126). -/
def Config.headerRoom : Nat := 2
/-- The most body words of a host frame (R124). -/
def Config.bodyLimit : Nat := 255
/-- At this host wait count the host engine is granted before any lane (R121). -/
def Config.hostShare : Nat := 4
/-- The value at which a foreign count stays (R28, R79). -/
def Config.foreignMax : Nat := 4095
/-- The value at which a lap count stays (R83). -/
def Config.lapsMax : Nat := 7
/-- The shortest assertion of power-on reset that takes effect, in microseconds (R168). -/
def Config.powerOnMicros : Nat := 10
/-- The part code that READ STATUS reports (R135). -/
def Config.partCode : Word := 0x0480
/-- The largest ordinal and serial (R4, R31, R61). -/
def Config.lastOrdinal : Word32 := 0xFFFFFFFF

/-- FREE VALUE (log entry 6). The step letter of the silicon is "a capital letter" (R135), counted
from `A`; the specification says no more of it. -/
opaque Config.stepLetterIndex : Fin 26

/-- FREE VALUE (log entry 6). R165 gives a presence word the values 0 and 1 and does not say how a
body with another value there is refused: whether it draws BAD_FRAME rather than BAD_ARGUMENT. -/
opaque Config.unlistedPresenceIsBadFrame : Word → Bool

/-- FREE VALUE (log entry 6). Whether a command of this code that names one of its changes
(AMEND ITEM) or parameters (SET LANE PARAMETERS) twice is refused with BAD_ARGUMENT; if it is not,
the later naming is applied after the earlier. R128 lists no such refusal and no rule excludes it. -/
opaque Config.repeatedNameRefused : Byte → Bool

/-- FREE VALUE (log entry 22). "A key of odd length leaves the lower half of its last word unused" (R164): what
the part sends in that half of a response that carries this key. -/
opaque Config.unusedKeyHalf : Key → Byte

end Sys2Proof
end

