-- ==== Sys2Proof/Syntax.lean ====
section
/-!
DEFINITION. The events that reach the EV480: one constructor of `Instr` for each row of
spec/opcode_table.json, with the numbers by which the specification names things.
-/
namespace Sys2Proof

/-- A lane 0..3, and the bin at its end. -/
abbrev Lane := Fin 4
/-- An outlet: number n of 1..48 is the index n - 1. -/
abbrev OutletId := Fin 48
/-- A group with an entry: number n of 1..15 is the index n - 1. -/
abbrev GroupId := Fin 15
/-- A destination, hold group or rule group: 0..15, where 0 is the fixed reject group (R34). -/
abbrev Destination := Fin 16
/-- A rule 0..127. -/
abbrev RuleId := Fin 128
/-- A cursor 0..7. -/
abbrev CursorId := Fin 8

/-- The part of a host frame that an event carries (R124): its header word, with the body length the
header declares, or the whole frame at the moment its last word is acknowledged. -/
inductive FramePart where
  /-- The frame's header word arrives; the host engine acknowledges it when it has room (R126). With a body
  length of 0 this is the whole frame, received when its header is acknowledged. -/
  | header (length : Byte)
  /-- The frame is received, with this body. Its header is acknowledged in the same event, unless a
  `header` event of the same code and length came before. -/
  | received (body : List Word)
  deriving DecidableEq, Repr

/-- The moments of a single-step host command (R119, R127), which the table gives one row: its frame,
and the completion of its one store step. -/
inductive CommandPart where
  /-- The frame's header word arrives, which is the whole frame when its body length is 0. -/
  | header (length : Byte)
  /-- The frame is received: it is judged, and becomes the command in flight or is answered. -/
  | received (body : List Word)
  /-- The store step that was granted to the command completes. -/
  | step
  deriving DecidableEq, Repr

/-- The two moments of power-on reset (R168). -/
inductive PowerOnPart where
  /-- The pin is asserted. -/
  | asserted
  /-- The pin is released, after it was held asserted for this many microseconds. Where no `asserted` event
  came before, the assertion is part of this event. -/
  | released (heldMicros : Nat)
  deriving DecidableEq, Repr

/-- What makes a received host frame a bad one (R125, first stage). -/
inductive BadFramePart where
  /-- A header word whose command code names no command arrives. -/
  | header (code : Byte) (length : Byte)
  /-- A whole frame whose command code names no command is received. -/
  | received (code : Byte) (body : List Word)
  /-- The reception of a frame is cut short (R124). `code` is the header's when no `header` event has
  put the frame in reception; otherwise the code of the frame in reception counts. -/
  | truncated (code : Byte)
  deriving DecidableEq, Repr

/-- The answer a REVISE ANSWER carries (R99 test 4). -/
inductive ReviseReply where
  | taken
  | tooLate
  deriving DecidableEq, Repr

/-- The events of the EV480, one constructor for each row of the table.

`takeUp` of a lane step says whether the lane unit takes up what comes next (R103) at the very
completion of the step, before the arbiter's next grant (as in the example of chapter 7), or leaves
it to a later SERVICE_START (log entry 11). -/
inductive Instr where
  | powerOnReset (part : PowerOnPart)
  | hostChannelReset
  | badFrame (part : BadFramePart)
  | readResponse (words : Nat)
  | createItem (part : CommandPart)
  | loadManifest (part : FramePart)
  | loadManifestItemStep
  | readItem (part : CommandPart)
  | readItemByCursor (part : CommandPart)
  | amendItem (part : CommandPart)
  | restoreItem (part : CommandPart)
  | retireItem (part : CommandPart)
  | defineOutlet (part : CommandPart)
  | undefineOutlet (part : CommandPart)
  | setCapacity (part : CommandPart)
  | closeOutlet (part : CommandPart)
  | openOutlet (part : CommandPart)
  | readOutlet (part : CommandPart)
  | clearOutlet (part : FramePart)
  | clearOutletStartStep
  | clearOutletRetiringStep
  | clearOutletFinishStep
  | clearOutletEndingStep
  | defineGroup (part : CommandPart)
  | readGroup (part : CommandPart)
  | writeRule (part : CommandPart)
  | readRule (part : CommandPart)
  | startLane (part : CommandPart)
  | stopLane (part : CommandPart)
  | setLaneParameters (part : CommandPart)
  | readLane (part : CommandPart)
  | setCursor (part : CommandPart)
  | search (part : FramePart)
  | searchStep
  | takeAttention (part : CommandPart)
  | peekAttention (part : CommandPart)
  | readStatus (part : FramePart)
  | resetDirectory (part : FramePart)
  | resetDirectoryRetiringStep
  | resetDirectoryFinishStep
  | abort (part : FramePart)
  | lookup (lane : Lane) (key : Key) (scanTag : Word)
  | confirm (lane : Lane) (key : Key) (outlet : Byte)
  | miss (lane : Lane) (key : Key)
  | reviseAnswer (lane : Lane) (ordinal : Word32) (reply : ReviseReply)
  | restart (lane : Lane)
  | discardedFrame (lane : Lane) (bytes : List Byte)
  | serviceStart (lane : Lane)
  | lookupStep (lane : Lane) (takeUp : Bool)
  | confirmStep (lane : Lane) (takeUp : Bool)
  | missStep (lane : Lane) (takeUp : Bool)
  | restartStep (lane : Lane) (takeUp : Bool)
  | decisionWindowExpiry (lane : Lane) (position : Nat)
  | reviseTimerExpiry (lane : Lane) (ordinal : Word32)
  | lateNoticeStep (lane : Lane) (takeUp : Bool)
  | linkFaultNoticeStep (lane : Lane) (takeUp : Bool)
  | answeredTakenStep (lane : Lane) (takeUp : Bool)
  | answeredTooLateStep (lane : Lane) (takeUp : Bool)
  | expiredStep (lane : Lane) (takeUp : Bool)
  | messageSent (lane : Lane)
  | hostChannelResetRelease
  deriving DecidableEq, Repr

end Sys2Proof
end

