-- ==== Sys2Proof/Decode.lean ====
section
/-!
DEFINITION. How the bytes of a lane link and the words of the host channel spell an event: the key
rule (R6), the lane frame and its check (R99, R166, R167), the header of a host frame (R164).

The rows of spec/opcode_table.json give no bits, so `decodeTableWord` spells no command.
-/
namespace Sys2Proof

/-- R6: a key is 4 to 20 bytes, each in 33..126. -/
def keyValid (key : Key) : Bool :=
  decide (4 ≤ key.length ∧ key.length ≤ 20) &&
    key.all fun b => decide (33 ≤ b.toNat ∧ b.toNat ≤ 126)

/-! ### The lane frame check (R167) -/

/-- One bit of the check: the register's top bit is combined with the incoming bit, the register is
shifted toward its top, and combined with 0x1021 when the combined bit was 1. -/
def crcBit (reg : BitVec 16) (bit : Bool) : BitVec 16 :=
  if reg.msb != bit then (reg <<< 1) ^^^ 0x1021 else reg <<< 1

/-- One byte of the check, its most significant bit first. -/
def crcByte (reg : BitVec 16) (b : Byte) : BitVec 16 :=
  [7, 6, 5, 4, 3, 2, 1, 0].foldl (fun r i => crcBit r (b.getLsbD i)) reg

/-- R167: the check over bytes, from 0xFFFF, with no final inversion. -/
def crc16 (bytes : List Byte) : BitVec 16 :=
  bytes.foldl crcByte 0xFFFF

/-- The upper and the lower byte of a 16-bit number, as a link sends it. -/
def bytes16 (v : BitVec 16) : List Byte := [v.extractLsb' 8 8, v.extractLsb' 0 8]

/-- The four bytes of a 32-bit number, most significant first (section 5.5). -/
def bytes32 (v : Word32) : List Byte :=
  [v.extractLsb' 24 8, v.extractLsb' 16 8, v.extractLsb' 8 8, v.extractLsb' 0 8]

/-- R166: a whole lane frame of this kind and body, from its start delimiter to its check. -/
def laneFrame (kind : Byte) (body : List Byte) : List Byte :=
  let checked := kind :: BitVec.ofNat 8 body.length :: body
  0xA5 :: checked ++ bytes16 (crc16 checked)

/-! ### Judging a received lane frame (R99, R166) -/

/-- What a lane frame that passes R99 asks for. -/
inductive LaneRequest where
  | lookup (key : Key) (scanTag : Word)
  | confirm (key : Key) (outlet : Byte)
  | miss (key : Key)
  | reviseAnswer (ordinal : Word32) (reply : ReviseReply)
  | restart
  deriving DecidableEq, Repr

/-- A key-length byte and that many key bytes, and nothing more (R166). -/
def keyAlone : List Byte → Option Key
  | [] => none
  | n :: bytes => if bytes.length = n.toNat then some bytes else none

/-- R99 tests 2 to 4 on a frame whose check is right: the form its kind requires (R166), a valid key,
and an answer byte 1 or 2. -/
def judgeLaneBody (kind : Byte) (body : List Byte) : Option LaneRequest :=
  match kind.toNat, body with
  | 0x11, hi :: lo :: rest =>
    match keyAlone rest with
    | some key => if keyValid key then some (.lookup key (hi ++ lo)) else none
    | none => none
  | 0x12, outlet :: rest =>
    match keyAlone rest with
    | some key => if keyValid key then some (.confirm key outlet) else none
    | none => none
  | 0x13, rest =>
    match keyAlone rest with
    | some key => if keyValid key then some (.miss key) else none
    | none => none
  | 0x14, [a, b, c, d, answer] =>
    match answer.toNat with
    | 1 => some (.reviseAnswer (a ++ b ++ c ++ d) .taken)
    | 2 => some (.reviseAnswer (a ++ b ++ c ++ d) .tooLate)
    | _ => none
  | 0x15, [] => some .restart
  | _, _ => none

/-- R99: the judging of a received frame, given from its start delimiter to the last byte of its
check. A frame that fails a test is discarded (`none`). -/
def judgeLaneFrame : List Byte → Option LaneRequest
  | delimiter :: kind :: length :: rest =>
    let body := rest.take length.toNat
    if delimiter = 0xA5 ∧ rest.length = length.toNat + 2 ∧
        rest.drop length.toNat = bytes16 (crc16 (kind :: length :: body)) then
      judgeLaneBody kind body
    else none
  | _ => none

/-- R99, R166: whether these bytes are one whole frame: a start delimiter, a kind, a length, and as many
bytes as the length says and the two of the check. -/
def wholeLaneFrame : List Byte → Bool
  | delimiter :: _ :: length :: rest => decide (delimiter = 0xA5 ∧ rest.length = length.toNat + 2)
  | _ => false

/-- The event that a frame received on a lane link is: the request of its kind, or a frame that R99
discards. -/
def laneFrameEvent (lane : Lane) (bytes : List Byte) : Instr :=
  match judgeLaneFrame bytes with
  | some (.lookup key tag) => .lookup lane key tag
  | some (.confirm key outlet) => .confirm lane key outlet
  | some (.miss key) => .miss lane key
  | some (.reviseAnswer ordinal reply) => .reviseAnswer lane ordinal reply
  | some .restart => .restart lane
  | none => .discardedFrame lane bytes

/-! ### The bytes of a lane link (R99) -/

/-- R99: one byte arrives, `frame` being what has arrived of the frame being received (nothing while none
is). A start delimiter begins a frame, and any other byte outside a frame is skipped; inside a frame its own
length decides where it ends, whatever the bytes. The answer is what is being received after the byte, and
the frame that it completes. -/
def takeLinkByte (frame : List Byte) (b : Byte) : List Byte × Option (List Byte) :=
  if frame = [] then (if b = 0xA5 then [b] else [], none)
  else if wholeLaneFrame (frame ++ [b]) then ([], some (frame ++ [b]))
  else (frame ++ [b], none)

/-- R99: the frames that bytes complete, one after another. A frame that they leave unfinished is none. -/
def linkFrames (frame : List Byte) : List Byte → List (List Byte)
  | [] => []
  | b :: rest =>
    let next := takeLinkByte frame b
    next.2.toList ++ linkFrames next.1 rest

/-- R99: the events that bytes arriving on a lane link are, the first of them outside any frame. -/
def linkEvents (lane : Lane) (bytes : List Byte) : List Instr := (linkFrames [] bytes).map (laneFrameEvent lane)

/-! ### Host frames (R164) -/

/-- The event that a received host frame with this command code and body is. Code 0x03 is READ ITEM, whose
designation kind 3 is the cursor (R15, R139). A code that names no command is a bad frame (R125). -/
def hostFrameEvent (code : Byte) (body : List Word) : Instr :=
  match code.toNat with
  | 0x01 => .createItem (.received body)
  | 0x02 => .loadManifest (.received body)
  | 0x03 => if body.head? = some 3 then .readItemByCursor (.received body) else .readItem (.received body)
  | 0x04 => .amendItem (.received body)
  | 0x05 => .restoreItem (.received body)
  | 0x06 => .retireItem (.received body)
  | 0x07 => .defineOutlet (.received body)
  | 0x08 => .undefineOutlet (.received body)
  | 0x09 => .setCapacity (.received body)
  | 0x0A => .closeOutlet (.received body)
  | 0x0B => .openOutlet (.received body)
  | 0x0C => .readOutlet (.received body)
  | 0x0D => .clearOutlet (.received body)
  | 0x0F => .defineGroup (.received body)
  | 0x10 => .readGroup (.received body)
  | 0x11 => .writeRule (.received body)
  | 0x12 => .readRule (.received body)
  | 0x13 => .startLane (.received body)
  | 0x14 => .stopLane (.received body)
  | 0x15 => .setLaneParameters (.received body)
  | 0x16 => .setCursor (.received body)
  | 0x17 => .search (.received body)
  | 0x18 => .takeAttention (.received body)
  | 0x19 => .peekAttention (.received body)
  | 0x1A => .readStatus (.received body)
  | 0x1B => .resetDirectory (.received body)
  | 0x1C => .abort (.received body)
  | 0x1D => .readLane (.received body)
  | _ => .badFrame (.received code body)

/-- R164: the codes that name a command, 0x01 to 0x1D without 0x0E. -/
def codeAssigned (code : Byte) : Bool :=
  decide (1 ≤ code.toNat ∧ code.toNat ≤ 0x1D ∧ code.toNat ≠ 0x0E)

/-- R164: the event that the words of a whole host frame are. `none` when the words are not as many as
the header's length byte says, so that they are not one frame. -/
def hostWordsEvent : List Word → Option Instr
  | [] => none
  | header :: body =>
    if body.length = (header.extractLsb' 0 8).toNat then
      some (hostFrameEvent (header.extractLsb' 8 8) body)
    else none

/-- No row of spec/opcode_table.json gives bits, so no word of the table spells a command. -/
def decodeTableWord (_nbits _w : Nat) : Option Instr := none

end Sys2Proof
end

