-- ==== Sys2Proof/Machine/State.lean ====
section
/-!
DEFINITION. The state of the EV480 as plain data, and its value after power-on reset. INVENTORY.md
lists every piece with the rule that names it.
-/
namespace Sys2Proof.Machine

/-! ### Item records (chapter 1) -/

/-- The slot and serial that together designate one record (R5). -/
structure Ref where
  slot : Nat
  serial : Word32
  deriving DecidableEq, Repr, Inhabited

/-- R1: the origin of a record; the rule number is present when the origin is RULE. -/
inductive Origin where
  | manifest
  | rule (number : RuleId)
  deriving DecidableEq, Repr, Inhabited

/-- A place on a lane: its reject bin (outlet 0 on its own link) or an outlet (R1, R32). -/
inductive Place where
  | bin
  | outlet (k : OutletId)
  deriving DecidableEq, Repr, Inhabited

/-- The five states of a record (R10), without the fields tied to them. -/
inductive StateKind where
  | expected
  | routed
  | sorted
  | recirculating
  | rejected
  deriving DecidableEq, Repr, Inhabited

/-- R1, R2: the state of a record with the fields that are present in that state only. -/
inductive ItemState where
  | expected
  | routed (assigned : Place) (ordinal : Word32) (pending : Option Place)
  | sorted (outlet : OutletId) (arrival : Word32) (stray : Bool)
  | recirculating
  | rejected
  deriving DecidableEq, Repr, Inhabited

/-- An item record (R1). Its slot and serial are `ref`. -/
structure ItemRecord where
  ref : Ref
  key : Key
  origin : Origin
  state : ItemState
  destination : Destination
  hold : Option Nat
  hostTag : Option Word32
  laps : Nat
  lane : Option Lane
  revision : BitVec 16
  deriving DecidableEq, Repr, Inhabited

/-- An entry of the key index: a key in use and the record that has it (R7). -/
structure IndexEntry where
  key : Key
  ref : Ref
  deriving DecidableEq, Repr, Inhabited

/-- R11: the count of records in use and the five per-state counts. -/
structure Counts where
  inUse : Nat
  expected : Nat
  routed : Nat
  sorted : Nat
  recirculating : Nat
  rejected : Nat
  deriving DecidableEq, Repr, Inhabited

/-! ### Outlets, bins and groups (chapter 2) -/

/-- The lane and capacity that a defined outlet has (R24). -/
structure OutletDefinition where
  lane : Lane
  capacity : Nat
  deriving DecidableEq, Repr, Inhabited

/-- An outlet entry (R24). `definition` is absent while the outlet is not defined; `clearing` holds the
clearing boundary while the clearing flag is set, and is absent while it is clear (R148). -/
structure OutletEntry where
  definition : Option OutletDefinition
  closed : Bool
  clearing : Option Word32
  reserved : Nat
  held : Nat
  foreign : Nat
  arrivalCounter : Word32
  expected : List Ref
  content : List Ref
  deriving DecidableEq, Repr, Inhabited

/-- The derived states of an outlet (R25), in the order of the rule's table. -/
inductive OutletState where
  | notDefined
  | clearing
  | closed
  | full
  | opened
  deriving DecidableEq, Repr, Inhabited

/-- A lane's reject bin (R32). -/
structure Bin where
  reserved : Nat
  expected : List Ref
  deriving DecidableEq, Repr, Inhabited

/-- The selection policy of a group (R34). -/
inductive Policy where
  | first
  | rotate
  | least
  deriving DecidableEq, Repr, Inhabited

/-- A group entry (R34). The members stand in ascending outlet number; a rotation pointer is the number
of an outlet, or 0 for none yet. -/
structure GroupEntry where
  members : List OutletId
  policy : Policy
  overflow : Option GroupId
  pointers : Vector Nat 4
  deriving DecidableEq, Repr, Inhabited

/-! ### The rule table (chapter 3) -/

/-- A key pattern (R67): for each position its pattern byte, or `none` for ANY, and the key lengths. -/
structure KeyPattern where
  positions : List (Option Byte)
  minLength : Nat
  maxLength : Nat
  deriving DecidableEq, Repr, Inhabited

/-- A rule entry (R66). -/
structure RuleEntry where
  enabled : Bool
  pattern : KeyPattern
  priority : Nat
  group : Destination
  deriving DecidableEq, Repr, Inhabited

/-! ### The attention list (chapter 11) -/

/-- The subject of an attention entry (R156). -/
inductive Subject where
  | item (ref : Ref)
  | outlet (k : OutletId)
  | lane (l : Lane)
  | directory
  deriving DecidableEq, Repr, Inhabited

/-- The reasons of R157, in the order of their bits (section 12.1.2). -/
inductive Reason where
  | late
  | stray
  | reviseUnanswered
  | reviseRefused
  | rejected
  | lapLimit
  | full
  | foreign
  | clearDone
  | restarted
  | linkFault
  | ordinalExhausted
  | drained
  | directoryFull
  deriving DecidableEq, Repr, Inhabited

/-- An attention entry (R156). The reasons stand in the order of their bits, each at most once. -/
structure AttentionEntry where
  subject : Subject
  reasons : List Reason
  deriving DecidableEq, Repr, Inhabited

/-! ### Cursors (chapter 9) -/

/-- The views of R137. -/
inductive View where
  | key
  | state (s : StateKind)
  | expected (k : OutletId)
  | expectedBin (l : Lane)
  | content (k : OutletId)
  deriving DecidableEq, Repr, Inhabited

/-- The position of a cursor (R136). -/
inductive Position where
  | beforeFirst
  | record (ref : Ref)
  | afterLast
  deriving DecidableEq, Repr, Inhabited

/-- A cursor (R136). -/
structure Cursor where
  view : View
  position : Position
  slipped : Bool
  deriving DecidableEq, Repr, Inhabited

/-- The record store (section 2 of the introduction). -/
structure Store where
  records : List ItemRecord
  keyIndex : List IndexEntry
  serialCounter : Word32
  counts : Counts
  outlets : Vector OutletEntry 48
  bins : Vector Bin 4
  groups : Vector GroupEntry 15
  rules : Vector RuleEntry 128
  attention : List AttentionEntry
  cursors : Vector Cursor 8
  deriving DecidableEq, Repr, Inhabited

/-! ### Lane units (chapters 5 and 6) -/

/-- The state of a lane (R108). -/
inductive LaneState where
  | stopped
  | running
  | draining
  deriving DecidableEq, Repr, Inhabited

/-- A request of the request queue (R102). A LOOKUP carries its expiry, and the lap limit and hold group
that stood at its arrival. -/
inductive Request where
  | lookup (key : Key) (scanTag : Word) (expiry : Word32) (lapLimit : Nat) (holdGroup : Destination)
  | confirm (key : Key) (outlet : Byte)
  | miss (key : Key)
  deriving DecidableEq, Repr, Inhabited

/-- What a lane unit has in hand (R103): a request in service, or the head of its internal work list,
whose step it has requested. -/
inductive InHand where
  | request (r : Request)
  | restart
  | workItem
  deriving DecidableEq, Repr, Inhabited

/-- The condition of a revise entry (R88). -/
inductive ReviseCondition where
  | waiting
  | answeredTaken
  | answeredTooLate
  | expired
  deriving DecidableEq, Repr, Inhabited

/-- A revise entry (R88). -/
structure ReviseEntry where
  ref : Ref
  ordinal : Word32
  target : Place
  expiry : Word32
  condition : ReviseCondition
  deriving DecidableEq, Repr, Inhabited

/-- An item of the internal work list (R103). A late notice holds the ticket of its ANSWER LATE for as
long as that ANSWER stands in the outbound queue (log entry 5). A revise item holds what its entry
held when the item joined the list, since the entry may be closed before the item's step (R88). -/
inductive WorkItem where
  | lateNotice (key : Key) (ticket : Option Nat)
  | revise (entry : ReviseEntry)
  | linkFault
  deriving DecidableEq, Repr, Inhabited

/-- The reasons of an ANSWER (R63), in the order of their numbers (section 12.2). -/
inductive AnswerReason where
  | direct
  | rule
  | repeated
  | held
  | overflow
  | lapLimit
  | noOutlet
  | unknown
  | directoryFull
  | late
  | stopped
  | draining
  deriving DecidableEq, Repr, Inhabited

/-- The outcomes of a NOTE (R71), in the order of their numbers (section 12.2). -/
inductive NoteOutcome where
  | sorted
  | sortedOutOfOrder
  | sortedRevised
  | stray
  | duplicate
  | rejected
  | foreign
  | recirculating
  | ignored
  | unknown
  | badOutlet
  deriving DecidableEq, Repr, Inhabited

/-- A message of the outbound queue (R104). An ANSWER LATE carries the ticket it shares with its late
notice (log entry 5), which is not sent. -/
inductive Message where
  | answer (scanTag : Word) (place : Place) (reason : AnswerReason) (ticket : Option Nat)
  | note (digest : List Byte) (outcome : NoteOutcome)
  | revise (ordinal : Word32) (target : Place)
  | restartDone
  deriving DecidableEq, Repr, Inhabited

/-- A lane unit (section 2 of the introduction, chapter 6). `sending` says that the message at the head
of the outbound queue has begun to be sent; `finishing` is a REVISE that is being sent and has given up its place in
the queue to a ninth (R87, R101, log entry 18); `restartWaiting` that a RESTART waits for the completion of a granted
step (R111 step 6); `discardReply` that the reply of the granted step is to be discarded (R111 step 2). -/
structure LaneUnit where
  state : LaneState
  decisionWindow : Nat
  reviseWindow : Nat
  lapLimit : Nat
  holdGroup : Destination
  ordinalCounter : Word32
  exhausted : Bool
  requests : List Request
  inHand : Option InHand
  restartWaiting : Bool
  discardReply : Bool
  outbound : List Message
  sending : Bool
  finishing : Option Message
  workList : List WorkItem
  reviseEntries : List ReviseEntry
  pendingCount : Nat
  lateTickets : Nat
  deriving DecidableEq, Repr, Inhabited

/-! ### The store arbiter (chapter 7) -/

/-- The five requesters of the store arbiter. -/
inductive Requester where
  | lane (l : Lane)
  | host
  deriving DecidableEq, Repr, Inhabited

/-- The store arbiter (R120), and the requester whose step is in progress (R117). -/
structure Arbiter where
  laneRequests : Vector Bool 4
  hostRequest : Bool
  lastLane : Lane
  hostWait : Nat
  busy : Option Requester
  deriving DecidableEq, Repr, Inhabited

/-! ### The host engine (chapters 8 to 10) -/

/-- The designation of a record by slot and serial or by key (R15). -/
inductive Designation where
  | ref (r : Ref)
  | key (k : Key)
  deriving DecidableEq, Repr, Inhabited

/-- An item to be created (R12, R132). -/
structure ItemDefinition where
  key : Key
  destination : Destination
  hold : Option Nat
  hostTag : Option Word32
  deriving DecidableEq, Repr, Inhabited

/-- One change of AMEND ITEM (R16). -/
inductive Change where
  | destination (g : Destination)
  | setHold (reason : Nat)
  | clearHold
  | setTag (tag : Word32)
  | clearTag
  deriving DecidableEq, Repr, Inhabited

/-- AMEND ITEM (R16): the guard is absent for ANY. -/
structure Amendment where
  designation : Designation
  guardRevision : Option (BitVec 16)
  changes : List Change
  deriving DecidableEq, Repr, Inhabited

/-- The steps of READ ITEM by cursor (R139). -/
inductive CursorStep where
  | next
  | prev
  | hold
  deriving DecidableEq, Repr, Inhabited

/-- The accesses of READ ITEM by cursor (R140). -/
inductive CursorAccess where
  | read
  | skip
  deriving DecidableEq, Repr, Inhabited

/-- READ OUTLET designates an outlet or the bin of a lane (R45). -/
inductive OutletOrBin where
  | outlet (k : OutletId)
  | bin (l : Lane)
  deriving DecidableEq, Repr, Inhabited

/-- The placements of SET CURSOR (R138). -/
inductive Placement where
  | first
  | last
  | atRecord (d : Designation)
  | atKey (k : Key)
  deriving DecidableEq, Repr, Inhabited

/-- One parameter of SET LANE PARAMETERS (R114). -/
inductive Parameter where
  | decisionWindow (micros : Nat)
  | reviseWindow (micros : Nat)
  | lapLimit (laps : Nat)
  | holdGroup (g : Destination)
  deriving DecidableEq, Repr, Inhabited

/-- A test of an optional field in SEARCH (R143): absent, present, or present with a value. -/
inductive FieldTest (α : Type) where
  | absent
  | present
  | value (v : α)
  deriving DecidableEq, Repr, Inhabited

/-- The conditions of SEARCH (R143). -/
inductive Condition where
  | key (p : KeyPattern)
  | state (states : List StateKind)
  | origin (fromRule : Bool)
  | ruleNumber (n : RuleId)
  | destination (g : Destination)
  | hold (t : FieldTest Nat)
  | hostTag (t : FieldTest Word32)
  | lane (l : Lane)
  | laps (n : Nat)
  | stray
  | pending
  deriving DecidableEq, Repr, Inhabited

/-- SEARCH (R143). -/
structure SearchQuery where
  cursor : CursorId
  startNext : Bool
  limit : Nat
  conditions : List Condition
  deriving DecidableEq, Repr, Inhabited

/-- A host command that takes store steps, with the arguments that passed R128. -/
inductive HostCommand where
  | createItem (d : ItemDefinition)
  | loadManifest (items : List ItemDefinition)
  | readItem (d : Designation)
  | readItemByCursor (c : CursorId) (step : CursorStep) (access : CursorAccess)
  | amendItem (a : Amendment)
  | restoreItem (d : Designation)
  | retireItem (d : Designation) (force : Bool)
  | defineOutlet (k : OutletId) (lane : Lane) (capacity : Nat)
  | undefineOutlet (k : OutletId)
  | setCapacity (k : OutletId) (capacity : Nat)
  | closeOutlet (k : OutletId)
  | openOutlet (k : OutletId)
  | readOutlet (which : OutletOrBin)
  | clearOutlet (k : OutletId)
  | defineGroup (g : GroupId) (members : List OutletId) (policy : Policy) (overflow : Option GroupId)
  | readGroup (g : GroupId)
  | writeRule (n : RuleId) (entry : RuleEntry)
  | readRule (n : RuleId)
  | startLane (l : Lane)
  | stopLane (l : Lane)
  | setLaneParameters (l : Lane) (parameters : List Parameter)
  | readLane (l : Lane)
  | setCursor (c : CursorId) (view : View) (placement : Placement)
  | search (q : SearchQuery)
  | takeAttention (urgentOnly : Bool)
  | peekAttention (urgentOnly : Bool)
  | resetDirectory
  deriving DecidableEq, Repr, Inhabited

/-- The condition of the command in flight (R127). -/
inductive FlightCondition where
  | waiting
  | stepping
  | ending
  deriving DecidableEq, Repr, Inhabited

/-- The outcome of one item of LOAD MANIFEST (R133). -/
inductive ManifestOutcome where
  | created (ref : Ref)
  | existing
  | full
  deriving DecidableEq, Repr, Inhabited

/-- What the host engine carries from one step of a long command to the next (R119): the outcomes of the
items of LOAD MANIFEST, the count SEARCH has examined, the count CLEAR OUTLET or RESET DIRECTORY has
retired, and the foreign count CLEAR OUTLET set aside. -/
structure Progress where
  outcomes : List ManifestOutcome
  examined : Nat
  retired : Nat
  foreignAside : Nat
  deriving DecidableEq, Repr, Inhabited

/-- The command in flight (R127, R135). `silent` says that a host-channel reset has discarded the
response it will have (R131 step 3). -/
structure InFlight where
  command : HostCommand
  condition : FlightCondition
  stepsDone : Nat
  abortMark : Bool
  silent : Bool
  progress : Progress
  deriving DecidableEq, Repr, Inhabited

/-- A response frame (R126): the command code it answers, and its body, whose word 0 is the status. -/
structure Response where
  code : Byte
  body : List Word
  deriving DecidableEq, Repr, Inhabited

/-- The header of the frame in reception (R124). -/
structure Reception where
  code : Byte
  length : Byte
  deriving DecidableEq, Repr, Inhabited

/-- The host engine (chapter 8). `lineHeld` is the host-channel reset line, asserted (R131). -/
structure HostEngine where
  inFlight : Option InFlight
  responses : List Response
  reception : Option Reception
  lineHeld : Bool
  deriving DecidableEq, Repr, Inhabited

/-- The state of the EV480, and the queue of the events that wait for it. `resetHeld` is the power-on reset
pin, asserted (R168). -/
structure State where
  store : Store
  lanes : Vector LaneUnit 4
  host : HostEngine
  arbiter : Arbiter
  timebase : Word32
  urgentLine : Bool
  routineLine : Bool
  resetHeld : Bool
  pending : List Instr
  deriving DecidableEq, Repr, Inhabited

/-- Why the EV480 stops. It never does: "A step never meets a condition it cannot settle" (R117). -/
inductive Fault where
  deriving DecidableEq, Repr

/-- Why an event has no meaning in this model. -/
inductive Refusal where
  /-- An event whose arm of `exec` has no meaning yet; raised by `exec` alone. Safe: nothing is claimed
  of what follows. -/
  | notModelled (mnemonic : String)
  deriving DecidableEq, Repr

/-! ### Reset (R168 and the reset section of each chapter) -/

/-- An outlet after power-on reset (R24, R48). -/
def OutletEntry.reset : OutletEntry :=
  { definition := none, closed := false, clearing := none, reserved := 0, held := 0, foreign := 0,
    arrivalCounter := 0, expected := [], content := [] }

/-- A group after power-on reset (R34, R48). -/
def GroupEntry.reset : GroupEntry :=
  { members := [], policy := .first, overflow := none, pointers := Vector.replicate 4 0 }

/-- A rule after power-on reset (R66). -/
def RuleEntry.reset : RuleEntry :=
  { enabled := false, pattern := { positions := [], minLength := 4, maxLength := 20 },
    priority := 0, group := 0 }

/-- A cursor after power-on reset (R136, R147). -/
def Cursor.reset : Cursor := { view := .key, position := .beforeFirst, slipped := false }

/-- The record store after power-on reset (R22, R48, R66, R147, R163). -/
def Store.reset : Store :=
  { records := [], keyIndex := [], serialCounter := 1,
    counts := { inUse := 0, expected := 0, routed := 0, sorted := 0, recirculating := 0, rejected := 0 },
    outlets := Vector.replicate 48 OutletEntry.reset
    bins := Vector.replicate 4 { reserved := 0, expected := [] }
    groups := Vector.replicate 15 GroupEntry.reset
    rules := Vector.replicate 128 RuleEntry.reset
    attention := []
    cursors := Vector.replicate 8 Cursor.reset }

/-- A lane unit after power-on reset (R98, R114, R116). -/
def LaneUnit.reset : LaneUnit :=
  { state := .stopped, decisionWindow := 2000, reviseWindow := 5000, lapLimit := 3, holdGroup := 0,
    ordinalCounter := 0, exhausted := false, requests := [], inHand := none, restartWaiting := false,
    discardReply := false, outbound := [], sending := false, finishing := none, workList := [],
    reviseEntries := [], pendingCount := 0, lateTickets := 0 }

/-- The host engine after power-on reset (R131). -/
def HostEngine.reset : HostEngine :=
  { inFlight := none, responses := [], reception := none, lineHeld := false }

/-- The arbiter after power-on reset (R120). -/
def Arbiter.reset : Arbiter :=
  { laneRequests := Vector.replicate 4 false, hostRequest := false, lastLane := 3, hostWait := 0,
    busy := none }

/-- The EV480 right after power-on reset (R168), with no event waiting. -/
def State.reset : State :=
  { store := Store.reset, lanes := Vector.replicate 4 LaneUnit.reset, host := HostEngine.reset,
    arbiter := Arbiter.reset, timebase := 0, urgentLine := false, routineLine := false, resetHeld := false,
    pending := [] }

end Sys2Proof.Machine
end

