-- ==== Sys2Proof/Machine/Ops.lean ====
section
/-!
DEFINITION. The named operations over the state: reading and writing one outlet, bin, group, rule,
cursor or lane unit; records, the key index and the counts; joining and leaving lists.
-/
namespace Sys2Proof.Machine

/-! ### Numbers of outlets and groups -/

/-- The number 1..48 of an outlet. -/
def outletNumber (k : OutletId) : Nat := k.val + 1

/-- The number 1..15 of a group that has an entry. -/
def groupNumber (g : GroupId) : Nat := g.val + 1

/-- The outlet value of a place: 0 for the bin (R1). -/
def placeNumber : Place → Nat
  | .bin => 0
  | .outlet k => outletNumber k

/-- The outlet of a number, when it lies in 1..48. -/
def outletOf (n : Nat) : Option OutletId :=
  if h : 1 ≤ n ∧ n ≤ 48 then some ⟨n - 1, by omega⟩ else none

/-- The group of a number, when it lies in 1..15. -/
def groupOf (n : Nat) : Option GroupId :=
  if h : 1 ≤ n ∧ n ≤ 15 then some ⟨n - 1, by omega⟩ else none

/-- The group entry that a destination names; group 0 has none (R34). -/
def destinationGroup (g : Destination) : Option GroupId := groupOf g.val

/-! ### Accessors: one home for each part of the state -/

/-- The entry of an outlet. -/
def State.outlet (s : State) (k : OutletId) : OutletEntry := s.store.outlets[k]
/-- The bin of a lane. -/
def State.bin (s : State) (l : Lane) : Bin := s.store.bins[l]
/-- The entry of a group. -/
def State.group (s : State) (g : GroupId) : GroupEntry := s.store.groups[g]
/-- The entry of a rule. -/
def State.rule (s : State) (n : RuleId) : RuleEntry := s.store.rules[n]
/-- A cursor. -/
def State.cursor (s : State) (c : CursorId) : Cursor := s.store.cursors[c]
/-- A lane unit. -/
def State.lane (s : State) (l : Lane) : LaneUnit := s.lanes[l]

/-- The state with another record store. -/
def State.setStore (s : State) (t : Store) : State := { s with store := t }
/-- The state with another entry for an outlet. -/
def State.setOutlet (s : State) (k : OutletId) (o : OutletEntry) : State :=
  s.setStore { s.store with outlets := s.store.outlets.set k.val o k.isLt }
/-- The state with another bin for a lane. -/
def State.setBin (s : State) (l : Lane) (b : Bin) : State :=
  s.setStore { s.store with bins := s.store.bins.set l.val b l.isLt }
/-- The state with another entry for a group. -/
def State.setGroup (s : State) (g : GroupId) (e : GroupEntry) : State :=
  s.setStore { s.store with groups := s.store.groups.set g.val e g.isLt }
/-- The state with another entry for a rule. -/
def State.setRule (s : State) (n : RuleId) (e : RuleEntry) : State :=
  s.setStore { s.store with rules := s.store.rules.set n.val e n.isLt }
/-- The state with another cursor. -/
def State.setCursor (s : State) (c : CursorId) (v : Cursor) : State :=
  s.setStore { s.store with cursors := s.store.cursors.set c.val v c.isLt }
/-- The state with another lane unit. -/
def State.setLane (s : State) (l : Lane) (u : LaneUnit) : State :=
  { s with lanes := s.lanes.set l.val u l.isLt }
/-- The state with another host engine. -/
def State.setHost (s : State) (h : HostEngine) : State := { s with host := h }
/-- The state with another arbiter. -/
def State.setArbiter (s : State) (a : Arbiter) : State := { s with arbiter := a }
/-- The state with other item records. -/
def State.setRecords (s : State) (rs : List ItemRecord) : State :=
  s.setStore { s.store with records := rs }
/-- The state with another key index. -/
def State.setKeyIndex (s : State) (es : List IndexEntry) : State :=
  s.setStore { s.store with keyIndex := es }
/-- The state with other counts. -/
def State.setCounts (s : State) (c : Counts) : State := s.setStore { s.store with counts := c }
/-- The state with another attention list. -/
def State.setAttention (s : State) (es : List AttentionEntry) : State :=
  s.setStore { s.store with attention := es }

/-! ### Records (R3 to R8) -/

/-- R5: the record in use that a slot and serial designate. -/
def State.record? (s : State) (ref : Ref) : Option ItemRecord :=
  s.store.records.find? fun r => decide (r.ref = ref)

/-- R7: the record of a key, found through the key index. -/
def State.recordOfKey? (s : State) (key : Key) : Option ItemRecord :=
  match s.store.keyIndex.find? fun e => decide (e.key = key) with
  | some e => s.record? e.ref
  | none => none

/-- The record that a designation names, if any (R5, R7). -/
def State.designated? (s : State) : Designation → Option ItemRecord
  | .ref r => s.record? r
  | .key k => s.recordOfKey? k

/-- R8: key order, byte by byte, a proper prefix first. -/
def keyBefore : Key → Key → Bool
  | [], [] => false
  | [], _ :: _ => true
  | _ :: _, [] => false
  | a :: as, b :: bs => decide (a.toNat < b.toNat) || (decide (a = b) && keyBefore as bs)

/-- Whether a slot holds a record. -/
def State.slotInUse (s : State) (n : Nat) : Bool := s.store.records.any fun r => decide (r.ref.slot = n)

/-- The first of `fuel` numbers from `n` on that is no slot in use. -/
def State.freeFrom (s : State) (n : Nat) : Nat → Option Nat
  | 0 => none
  | fuel + 1 => if s.slotInUse n then s.freeFrom (n + 1) fuel else some n

/-- R3: the lowest-numbered free slot, if one is free. Among the first numbers, one more than the
records in use, one is always free. -/
def State.lowestFreeSlot (s : State) : Option Nat :=
  match s.freeFrom 0 (s.store.records.length + 1) with
  | some n => if n < Config.slotCount then some n else none
  | none => none

/-- The records with another one put at its place in ascending slot. -/
def insertRecord (r : ItemRecord) : List ItemRecord → List ItemRecord
  | [] => [r]
  | q :: qs => if r.ref.slot < q.ref.slot then r :: q :: qs else q :: insertRecord r qs

/-- The key index with another entry put at its place in key order. -/
def insertIndex (e : IndexEntry) : List IndexEntry → List IndexEntry
  | [] => [e]
  | q :: qs => if keyBefore e.key q.key then e :: q :: qs else q :: insertIndex e qs

/-- The state with every record of this slot and serial changed. -/
def State.updateRecord (s : State) (ref : Ref) (f : ItemRecord → ItemRecord) : State :=
  s.setRecords (s.store.records.map fun r => if r.ref = ref then f r else r)

/-- R4: the serial after this one; 4,294,967,295 is followed by 1. -/
def nextSerial (n : Word32) : Word32 := if n = Config.lastOrdinal then 1 else n + 1

/-- The kind of a record's state. -/
def stateKind : ItemState → StateKind
  | .expected => .expected
  | .routed _ _ _ => .routed
  | .sorted _ _ _ => .sorted
  | .recirculating => .recirculating
  | .rejected => .rejected

/-- The counts with `f` applied to the count of one state. -/
def Counts.at (c : Counts) (k : StateKind) (f : Nat → Nat) : Counts :=
  match k with
  | .expected => { c with expected := f c.expected }
  | .routed => { c with routed := f c.routed }
  | .sorted => { c with sorted := f c.sorted }
  | .recirculating => { c with recirculating := f c.recirculating }
  | .rejected => { c with rejected := f c.rejected }

/-- The count of one state (R11). -/
def Counts.of (c : Counts) : StateKind → Nat
  | .expected => c.expected
  | .routed => c.routed
  | .sorted => c.sorted
  | .recirculating => c.recirculating
  | .rejected => c.rejected

/-- R11: one record more in use, in this state. -/
def Counts.add (c : Counts) (k : StateKind) : Counts := { c.at k (· + 1) with inUse := c.inUse + 1 }

/-- R11: one record fewer in use, from this state. -/
def Counts.remove (c : Counts) (k : StateKind) : Counts := { c.at k (· - 1) with inUse := c.inUse - 1 }

/-- R11: one record moves from a state to a state. -/
def Counts.move (c : Counts) (a b : StateKind) : Counts :=
  if a = b then c else (c.at a (· - 1)).at b (· + 1)

/-- R2, R11: the record's state is replaced with the fields tied to it, and the per-state counts follow.
A record that is not in use is not changed. -/
def State.changeState (s : State) (ref : Ref) (new : ItemState) : State :=
  match s.record? ref with
  | none => s
  | some r =>
    (s.updateRecord ref fun q => { q with state := new }).setCounts
      (s.store.counts.move (stateKind r.state) (stateKind new))

/-- R3, R4, R7, R11, R13: a record in EXPECTED is created in this slot, with the next serial. -/
def State.createRecord (s : State) (slot : Nat) (origin : Origin) (d : ItemDefinition) : State :=
  let ref : Ref := { slot := slot, serial := s.store.serialCounter }
  s.setStore
    { s.store with
      records := insertRecord
        { ref := ref, key := d.key, origin := origin, state := .expected, destination := d.destination,
          hold := d.hold, hostTag := d.hostTag, laps := 0, lane := none, revision := 0 }
        s.store.records
      keyIndex := insertIndex { key := d.key, ref := ref } s.store.keyIndex
      serialCounter := nextSerial s.store.serialCounter
      counts := s.store.counts.add .expected }

/-! ### Expected lists (R28, R29, R32) -/

/-- Whether an outlet is defined on a lane. -/
def OutletEntry.definedOn (o : OutletEntry) (l : Lane) : Bool :=
  match o.definition with
  | some d => decide (d.lane = l)
  | none => false

/-- The induction ordinal of a ROUTED record. -/
def State.ordinalOf (s : State) (ref : Ref) : Word32 :=
  match s.record? ref with
  | some r => match r.state with
    | .routed _ ordinal _ => ordinal
    | _ => 0
  | none => 0

/-- A list of records with one put after every member of a lower number and before every higher one. -/
def insertByOrdinal (number : Ref → Word32) (ref : Ref) (n : Word32) : List Ref → List Ref
  | [] => [ref]
  | q :: qs => if n.toNat < (number q).toNat then ref :: q :: qs else q :: insertByOrdinal number ref n qs

/-- The expected list of a place on a lane. -/
def State.expectedList (s : State) (l : Lane) : Place → List Ref
  | .bin => (s.bin l).expected
  | .outlet k => (s.outlet k).expected

/-- The state with another expected list and reserved count at a place on a lane. -/
def State.setExpected (s : State) (l : Lane) (p : Place) (refs : List Ref) (reserved : Nat) : State :=
  match p with
  | .bin => s.setBin l { reserved := reserved, expected := refs }
  | .outlet k => s.setOutlet k { s.outlet k with reserved := reserved, expected := refs }

/-- The reserved count of a place on a lane. -/
def State.reserved (s : State) (l : Lane) : Place → Nat
  | .bin => (s.bin l).reserved
  | .outlet k => (s.outlet k).reserved

/-- R29, R60: a routed record joins an expected list at its tail, and the reserved count rises. -/
def State.appendExpected (s : State) (l : Lane) (p : Place) (ref : Ref) : State :=
  s.setExpected l p (s.expectedList l p ++ [ref]) (s.reserved l p + 1)

/-- R29, R90: a record joins an expected list at its place in ascending induction ordinal, and the
reserved count rises. -/
def State.insertExpected (s : State) (l : Lane) (p : Place) (ref : Ref) (ordinal : Word32) : State :=
  s.setExpected l p (insertByOrdinal s.ordinalOf ref ordinal (s.expectedList l p)) (s.reserved l p + 1)

/-- R28, R72: a member leaves an expected list from wherever it stands, and the reserved count falls. -/
def State.removeExpected (s : State) (l : Lane) (p : Place) (ref : Ref) : State :=
  if ref ∈ s.expectedList l p then
    s.setExpected l p ((s.expectedList l p).erase ref) (s.reserved l p - 1)
  else s

/-! ### Content lists (R30, R31) -/

/-- R28, R30: a member leaves a content list from wherever it stands, and the held count falls. -/
def State.removeContent (s : State) (k : OutletId) (ref : Ref) : State :=
  let o := s.outlet k
  if ref ∈ o.content then s.setOutlet k { o with content := o.content.erase ref, held := o.held - 1 }
  else s

/-- The arrival ordinal of a SORTED record. -/
def State.arrivalOf (s : State) (ref : Ref) : Word32 :=
  match s.record? ref with
  | some r => match r.state with
    | .sorted _ arrival _ => arrival
    | _ => 0
  | none => 0

/-- R31: a member of the list being renumbered takes its position in it as its arrival ordinal. -/
def renumbered (content : List Ref) (r : ItemRecord) : ItemRecord :=
  match r.state, content.findIdx? (fun q => decide (q = r.ref)) with
  | .sorted k _ stray, some i => { r with state := .sorted k (BitVec.ofNat 32 i) stray }
  | _, _ => r

/-- R31: the content list of an outlet is renumbered from 0, its counter set to the number of members,
and the boundary of a clearing to the number of members that lay below it. -/
def State.renumberContent (s : State) (k : OutletId) : State :=
  let o := s.outlet k
  let below := fun b : Word32 => o.content.countP fun q => decide ((s.arrivalOf q).toNat < b.toNat)
  (s.setRecords (s.store.records.map (renumbered o.content))).setOutlet k
    { o with
      arrivalCounter := BitVec.ofNat 32 o.content.length
      clearing := o.clearing.map fun b => BitVec.ofNat 32 (below b) }

/-- R31: renumbering takes place only when the counter stands at its last value. -/
def State.renumberIfDue (s : State) (k : OutletId) : State :=
  if (s.outlet k).arrivalCounter = Config.lastOrdinal then s.renumberContent k else s

/-- R30, R75: a record arrives at an outlet: it takes the counter's value as its arrival ordinal, joins
the content list at the tail and becomes SORTED there. -/
def State.arrive (s : State) (k : OutletId) (ref : Ref) (stray : Bool) : State :=
  let s1 := s.renumberIfDue k
  let o := s1.outlet k
  (s1.setOutlet k
    { o with content := o.content ++ [ref], held := o.held + 1, arrivalCounter := o.arrivalCounter + 1 }).changeState
    ref (.sorted k o.arrivalCounter stray)

/-! ### Pending revisions (R88, R94) -/

/-- The induction ordinal of a REVISE (R104). -/
def Message.reviseOrdinal : Message → Option Word32
  | .revise ordinal _ => some ordinal
  | .answer _ _ _ _ | .note _ _ | .restartDone => none

/-- R104: the message of the outbound queue that is being sent, if one is. -/
def LaneUnit.beingSent (u : LaneUnit) : List Message := if u.sending then u.outbound.take 1 else []

/-- R104: the messages of the outbound queue that have not begun to be sent. -/
def LaneUnit.unsent (u : LaneUnit) : List Message := if u.sending then u.outbound.drop 1 else u.outbound

/-- R93, R94, R104: the unsent messages that `p` picks leave the outbound queue, and the others keep their order. One
that is being sent is finished. -/
def LaneUnit.withdraw (p : Message → Bool) (u : LaneUnit) : LaneUnit :=
  { u with outbound := u.beingSent ++ u.unsent.filter fun m => !p m }

/-- R94, R97: the REVISE of a revision is withdrawn. Its induction ordinal tells it among the lane's (DEDUCED,
log entry 15). -/
def LaneUnit.withdrawRevise (u : LaneUnit) (ordinal : Word32) : LaneUnit :=
  u.withdraw fun m => decide (m.reviseOrdinal = some ordinal)

/-- R88: the entry of a record's revision is closed, its timer with it, and the pending-revision count
falls by one. -/
def LaneUnit.closeRevise (u : LaneUnit) (ref : Ref) : LaneUnit :=
  { u with
    reviseEntries := u.reviseEntries.filter fun e => decide (e.ref ≠ ref)
    pendingCount := u.pendingCount - 1 }

/-- R90 to R94, R97: what a step that removes a record's pending revision does to the record's lane: the entry is
closed, and the REVISE leaves the outbound queue if it still stands there unsent. -/
def LaneUnit.dropRevision (u : LaneUnit) (ref : Ref) (ordinal : Word32) : LaneUnit :=
  (u.closeRevise ref).withdrawRevise ordinal

/-- R94: what a step that clears a record's pending revision other than by its answer or its expiry does
to the record's lane. -/
def State.clearPending (s : State) (l : Lane) (ref : Ref) (ordinal : Word32) : Option Place → State
  | none => s
  | some _ => s.setLane l ((s.lane l).dropRevision ref ordinal)

/-! ### Leaving a list (R20, R72) -/

/-- R20, R56, R57, R72: a record leaves the list it belongs to, if any, and a pending revision it carries
is cleared. The record itself is changed by the caller. -/
def State.leaveLists (s : State) (r : ItemRecord) : State :=
  match r.state, r.lane with
  | .routed assigned ordinal pending, some l =>
    (s.removeExpected l assigned r.ref).clearPending l r.ref ordinal pending
  | .sorted k _ _, _ => s.removeContent k r.ref
  | _, _ => s

/-- R20: a record is retired, with everything that refers to it: it leaves its list, its pending revision
is cleared, its attention entry and its key leave, the counts fall and its slot becomes free. The slip
of the cursors on it and a drain it completes come with the step's completion (`State.commit`). -/
def State.retireRecord (s : State) (r : ItemRecord) : State :=
  let s1 := s.leaveLists r
  s1.setStore
    { s1.store with
      records := s1.store.records.filter fun q => decide (q.ref ≠ r.ref)
      keyIndex := s1.store.keyIndex.filter fun e => decide (e.ref ≠ r.ref)
      counts := s1.store.counts.remove (stateKind r.state)
      attention := s1.store.attention.filter fun e => decide (e.subject ≠ .item r.ref) }

end Sys2Proof.Machine
end

