-- ==== Sys2Proof/Machine/Flags.lean ====
section
/-!
DEFINITION. What is derived, not stored: an outlet's load and state (R25, R26), a lane's routed count
(R33), urgency (R157), the outstanding requests of a lane (R101), the two alert lines (R162), and the
running out of a timer (R105).
-/
namespace Sys2Proof.Machine

/-- R26: reserved plus held plus foreign. -/
def OutletEntry.load (o : OutletEntry) : Nat := o.reserved + o.held + o.foreign

/-- R25: the derived state, with the load taken as given (R86 judges one outlet by another load). -/
def OutletEntry.stateWithLoad (o : OutletEntry) (load : Nat) : OutletState :=
  match o.definition with
  | none => .notDefined
  | some d =>
    if o.clearing.isSome then .clearing
    else if o.closed then .closed
    else if d.capacity ≤ load then .full
    else .opened

/-- R25: the derived state of an outlet. -/
def OutletEntry.state (o : OutletEntry) : OutletState := o.stateWithLoad o.load

/-- R40, R41: an outlet is empty when neither list holds a record and its foreign count is 0. -/
def OutletEntry.isEmpty (o : OutletEntry) : Bool :=
  o.expected.isEmpty && o.content.isEmpty && decide (o.foreign = 0)

/-- R33: the routed count of a lane, the sum of the reserved counts of the outlets defined on it and of
its bin. -/
def State.routedCount (s : State) (l : Lane) : Nat :=
  (s.store.outlets.toList.map fun o => if o.definedOn l then o.reserved else 0).sum + (s.bin l).reserved

/-- R157: the urgent reasons. -/
def reasonUrgent : Reason → Bool
  | .late | .stray | .reviseUnanswered | .restarted | .linkFault | .ordinalExhausted
  | .directoryFull => true
  | .reviseRefused | .rejected | .lapLimit | .full | .foreign | .clearDone | .drained => false

/-- R157: an entry is urgent while its set holds an urgent reason. -/
def AttentionEntry.urgent (e : AttentionEntry) : Bool := e.reasons.any reasonUrgent

/-- R162: the two lines follow the attention list. -/
def State.refreshLines (s : State) : State :=
  { s with
    urgentLine := s.store.attention.any AttentionEntry.urgent
    routineLine := s.store.attention.any fun e => !e.urgent }

/-- R101: a message that is the reply to a request. -/
def isReply : Message → Bool
  | .revise _ _ => false
  | _ => true

/-- R101: a late notice whose ANSWER has left the outbound queue still counts as outstanding. -/
def noticeOutstanding : WorkItem → Bool
  | .lateNotice _ none => true
  | _ => false

/-- R101: the number of outstanding requests of a lane. -/
def LaneUnit.outstanding (u : LaneUnit) : Nat :=
  u.requests.length
    + (match u.inHand with
      | some (.request _) => 1
      | some .restart => 1
      | _ => 0)
    + (if u.restartWaiting then 1 else 0)
    + u.outbound.countP isReply
    + u.workList.countP noticeOutstanding

/-- R105: whether a timer with this expiry has run out: the timebase has come to the expiry, measured
across the wrap. -/
def runOut (timebase expiry : Word32) : Bool := !(timebase - expiry).msb

/-- R105: the reading of the timebase at which a timer started now, with this duration, runs out. -/
def expiryAfter (timebase : Word32) (micros : Nat) : Word32 := timebase + BitVec.ofNat 32 micros

end Sys2Proof.Machine
end

