-- ==== Sys2Proof/Machine/Arbitration.lean ====
section
/-!
DEFINITION. The store arbiter (R120, R121). A grant is made within the event that makes it due: the
arrival of a request while the store is free, or the completion of a step.
-/
namespace Sys2Proof.Machine

/-- R121 step 2: the lanes in the order that begins after the last lane granted. -/
def lanesAfter (l : Lane) : List Lane := [l + 1, l + 2, l + 3, l]

/-- R121: the requester that the arbiter chooses among the standing requests. -/
def Arbiter.choice (a : Arbiter) : Option Requester :=
  if a.hostRequest ∧ a.hostWait = Config.hostShare then some .host
  else
    match (lanesAfter a.lastLane).find? fun l => a.laneRequests[l] with
    | some l => some (.lane l)
    | none => if a.hostRequest then some .host else none

/-- R120: the arbiter after a grant to a lane. -/
def Arbiter.grantLane (a : Arbiter) (l : Lane) : Arbiter :=
  { a with
    laneRequests := a.laneRequests.set l.val false l.isLt
    lastLane := l
    hostWait := if a.hostRequest then a.hostWait + 1 else a.hostWait
    busy := some (.lane l) }

/-- R120: the arbiter after a grant to the host engine. -/
def Arbiter.grantHost (a : Arbiter) : Arbiter :=
  { a with hostRequest := false, hostWait := 0, busy := some .host }

/-- R127: at the grant of a step the command in flight enters STEPPING; one that is ENDING stays so. -/
def InFlight.granted (f : InFlight) : InFlight :=
  match f.condition with
  | .waiting => { f with condition := .stepping }
  | .stepping | .ending => f

/-- R121: the arbiter makes a grant when the store is free and a request stands. -/
def State.arbitrate (s : State) : State :=
  match s.arbiter.busy with
  | some _ => s
  | none =>
    match s.arbiter.choice with
    | none => s
    | some (.lane l) => s.setArbiter (s.arbiter.grantLane l)
    | some .host =>
      (s.setArbiter s.arbiter.grantHost).setHost
        { s.host with inFlight := s.host.inFlight.map InFlight.granted }

/-- R120: a lane unit asks for a step. -/
def State.requestLaneStep (s : State) (l : Lane) : State :=
  s.setArbiter { s.arbiter with laneRequests := s.arbiter.laneRequests.set l.val true l.isLt }

/-- R120: a lane unit withdraws its request. -/
def State.withdrawLaneStep (s : State) (l : Lane) : State :=
  s.setArbiter { s.arbiter with laneRequests := s.arbiter.laneRequests.set l.val false l.isLt }

/-- R120: the host engine asks for a step. -/
def State.requestHostStep (s : State) : State :=
  s.setArbiter { s.arbiter with hostRequest := true }

/-- R120: the host engine's request is withdrawn, and the host wait count becomes 0. -/
def State.withdrawHostStep (s : State) : State :=
  s.setArbiter { s.arbiter with hostRequest := false, hostWait := 0 }

/-- R117: the step in progress is over, and the store is free. -/
def State.freeStore (s : State) : State := s.setArbiter { s.arbiter with busy := none }

end Sys2Proof.Machine
end

