-- ==== Sys2Proof/Machine/Views.lean ====
section
/-!
DEFINITION. The views of the cursors and the moves within them (chapter 9).
-/
namespace Sys2Proof.Machine

/-- Whether the record that this slot and serial designate is in this state. -/
def State.isInState (s : State) (k : StateKind) (ref : Ref) : Bool :=
  match s.record? ref with
  | some r => decide (stateKind r.state = k)
  | none => false

/-- R137: the members of a view, in its order. The key index stands in key order (R8). -/
def State.members (s : State) : View → List Ref
  | .key => s.store.keyIndex.map (·.ref)
  | .state k => (s.store.keyIndex.map (·.ref)).filter (s.isInState k)
  | .expected k => (s.outlet k).expected
  | .expectedBin l => (s.bin l).expected
  | .content k => (s.outlet k).content

/-- The members that stand after a record in a list. -/
def following (ref : Ref) (refs : List Ref) : List Ref := (refs.dropWhile fun q => decide (q ≠ ref)).tail

/-- The position on the first of these members, or AFTER_LAST when there is none. -/
def positionAtHead : List Ref → Position
  | [] => .afterLast
  | r :: _ => .record r

/-- The position on the first of these members, or BEFORE_FIRST when there is none. -/
def positionAtHeadBack : List Ref → Position
  | [] => .beforeFirst
  | r :: _ => .record r

/-- R139: where NEXT takes a cursor. -/
def State.nextPosition (s : State) (c : Cursor) : Position :=
  match c.position with
  | .beforeFirst => positionAtHead (s.members c.view)
  | .record ref => if c.slipped then .record ref else positionAtHead (following ref (s.members c.view))
  | .afterLast => .afterLast

/-- R139: where PREV takes a cursor. -/
def State.prevPosition (s : State) (c : Cursor) : Position :=
  match c.position with
  | .beforeFirst => .beforeFirst
  | .record ref => positionAtHeadBack (following ref (s.members c.view).reverse)
  | .afterLast => positionAtHeadBack (s.members c.view).reverse

/-- R141: a cursor on a record that a step removes from its view slips to the first member that followed
the record at the start of the step and is still a member at its completion, or to AFTER_LAST; its
slipped flag is set. `before` and `after` are the state at the two moments. -/
def slipCursor (before after : State) (c : Cursor) : Cursor :=
  match c.position with
  | .record ref =>
    if ref ∈ before.members c.view ∧ ref ∉ after.members c.view then
      { c with
        position := positionAtHead
          ((following ref (before.members c.view)).filter fun q => decide (q ∈ after.members c.view))
        slipped := true }
    else c
  | _ => c

/-- R141: every cursor slips that the step between the two moments makes slip. -/
def State.slipCursors (before after : State) : State :=
  after.setStore { after.store with cursors := after.store.cursors.map (slipCursor before after) }

/-- R136, R140: a cursor's position moved, and its slipped flag cleared. -/
def State.placeCursor (s : State) (c : CursorId) (p : Position) : State :=
  s.setCursor c { s.cursor c with position := p, slipped := false }

/-- A cursor moved, its flag left as it is (the moves of SEARCH, R144). -/
def State.moveCursor (s : State) (c : CursorId) (p : Position) : State :=
  s.setCursor c { s.cursor c with position := p }

end Sys2Proof.Machine
end

