-- ==== Sys2Proof/Machine/Completion.lean ====
section
/-!
DEFINITION. What the completion of every changing store step brings with it, whatever its kind: the
revisions (R9), the slips (R141), a completed drain (R110), the FULL reasons (R27), the attention
entries in their order (R158) and the alert lines (R162). Each is judged, as its rule says, on the
state at the start of the step and at its completion.
-/
namespace Sys2Proof.Machine

/-! ### Attention (R158) -/

/-- The bit of a reason in a reason set (section 12.1.2). -/
def reasonBit : Reason → Nat
  | .late => 0
  | .stray => 1
  | .reviseUnanswered => 2
  | .reviseRefused => 3
  | .rejected => 4
  | .lapLimit => 5
  | .full => 6
  | .foreign => 7
  | .clearDone => 8
  | .restarted => 9
  | .linkFault => 10
  | .ordinalExhausted => 11
  | .drained => 12
  | .directoryFull => 13

/-- A reason set with one reason more, in the order of the bits and without repetition. -/
def insertReason (r : Reason) : List Reason → List Reason
  | [] => [r]
  | q :: qs =>
    if reasonBit r < reasonBit q then r :: q :: qs
    else if r = q then q :: qs
    else q :: insertReason r qs

/-- R158: a reason added for a subject: a new entry at the tail, or the reason joins the entry. -/
def addReason (x : Subject × Reason) : List AttentionEntry → List AttentionEntry
  | [] => [{ subject := x.1, reasons := [x.2] }]
  | e :: es =>
    if e.subject = x.1 then { e with reasons := insertReason x.2 e.reasons } :: es
    else e :: addReason x es

/-- R158: the order in which one step's new entries join the tail: ITEM, OUTLET, LANE, DIRECTORY, and
within a kind by slot, outlet or lane number. -/
def subjectRank : Subject → Nat
  | .item ref => ref.slot
  | .outlet k => Config.slotCount + k.val
  | .lane l => Config.slotCount + 48 + l.val
  | .directory => Config.slotCount + 52

/-- One reason put into a list that is in the order of R158. -/
def insertBySubject (x : Subject × Reason) : List (Subject × Reason) → List (Subject × Reason)
  | [] => [x]
  | y :: ys => if subjectRank x.1 < subjectRank y.1 then x :: y :: ys else y :: insertBySubject x ys

/-- The reasons of one step in the order of R158. -/
def inSubjectOrder (xs : List (Subject × Reason)) : List (Subject × Reason) :=
  xs.foldl (fun acc x => insertBySubject x acc) []

/-- R158: every reason of one step is added. -/
def State.addReasons (s : State) (xs : List (Subject × Reason)) : State :=
  s.setAttention ((inSubjectOrder xs).foldl (fun es x => addReason x es) s.store.attention)

/-- A step whose only effect is on the attention list (R100, R107, R73, R53). -/
def State.noteReasons (s : State) (xs : List (Subject × Reason)) : State :=
  (s.addReasons xs).refreshLines

/-! ### Revisions (R9) -/

/-- R9: a record whose other fields the step has changed advances its revision by one, from 65535 to 0;
a record created in the step stays at revision 0. -/
def revised (before : State) (r : ItemRecord) : ItemRecord :=
  match before.record? r.ref with
  | none => r
  | some old =>
    if { r with revision := old.revision } = old then r else { r with revision := old.revision + 1 }

/-- R9 for every record in use. -/
def State.advanceRevisions (before after : State) : State :=
  after.setRecords (after.store.records.map (revised before))

/-! ### Reaching STOPPED (R109, R110) -/

/-- R110: the lane unit of a lane that reaches STOPPED. -/
def LaneUnit.reachStopped (u : LaneUnit) : LaneUnit :=
  { u with state := .stopped, ordinalCounter := 0, exhausted := false }

/-- R110: a DRAINING lane whose routed count is 0 at the completion of a step. -/
def State.drainComplete (s : State) (l : Lane) : Bool :=
  decide ((s.lane l).state = .draining ∧ s.routedCount l = 0)

/-- R110: the lane is stopped if the step leaves it DRAINING with a routed count of 0. -/
def State.completeDrain (s : State) (l : Lane) : State :=
  if s.drainComplete l then s.setLane l (s.lane l).reachStopped else s

/-- The four lanes. -/
def allLanes : List Lane := [0, 1, 2, 3]

/-- R110 for the four lanes. -/
def State.completeDrains (s : State) : State := allLanes.foldl State.completeDrain s

/-- R110: the DRAINED reasons of a step that leaves this state. -/
def State.drainReasons (s : State) : List (Subject × Reason) :=
  (allLanes.filter s.drainComplete).map fun l => (.lane l, .drained)

/-! ### FULL (R27) -/

/-- The 48 outlets in ascending number. -/
def allOutlets : List OutletId := List.finRange 48

/-- R27: the outlets that the step has moved from OPEN to FULL. -/
def fullReasons (before after : State) : List (Subject × Reason) :=
  (allOutlets.filter fun k =>
    decide ((before.outlet k).state = .opened ∧ (after.outlet k).state = .full)).map
      fun k => (.outlet k, .full)

/-! ### The completion of a changing step -/

/-- R117: the completion of a step that began in `before` and whose own work left `after`, adding the
reasons `xs`. -/
def commit (before after : State) (xs : List (Subject × Reason)) : State :=
  let s := State.slipCursors before (State.advanceRevisions before after)
  (s.completeDrains.addReasons (xs ++ fullReasons before s ++ s.drainReasons)).refreshLines

end Sys2Proof.Machine
end

