-- ==== Sys2Proof/Machine/Responses.lean ====
section
/-!
DEFINITION. The words of the host channel's responses (R164, R165, sections 12.1.1 and 12.1.2) and the
bytes of the messages the lane units send (R166).
-/
namespace Sys2Proof.Machine

/-- The status codes (section 8.4). -/
inductive Status where
  | ok
  | busy
  | badFrame
  | badArgument
  | badKey
  | existing
  | full
  | stale
  | wrongState
  | inTransit
  | revisePending
  | laneNotStopped
  | outletNotEmpty
  | notMember
  | notFound
  | endOfView
  | empty
  | limit
  | aborted
  | nothingToAbort
  deriving DecidableEq, Repr

/-- The value of a status code in body word 0 (R164). -/
def Status.word : Status → Word
  | .ok => 0
  | .busy => 1
  | .badFrame => 2
  | .badArgument => 3
  | .badKey => 4
  | .existing => 5
  | .full => 6
  | .stale => 7
  | .wrongState => 8
  | .inTransit => 9
  | .revisePending => 10
  | .laneNotStopped => 11
  | .outletNotEmpty => 12
  | .notMember => 13
  | .notFound => 14
  | .endOfView => 15
  | .empty => 16
  | .limit => 17
  | .aborted => 18
  | .nothingToAbort => 19

/-! ### Fields (R165) -/

/-- A number of one word. -/
def word (n : Nat) : Word := BitVec.ofNat 16 n

/-- A number of two words, most significant first. -/
def words32 (v : Word32) : List Word := [v.extractLsb' 16 16, v.extractLsb' 0 16]

/-- A yes-or-no field: 1 for yes and 0 for no. -/
def flagWord (b : Bool) : Word := if b then 1 else 0

/-- An optional field: 0, or 1 followed by its value. -/
def optionalWords (f : α → List Word) : Option α → List Word
  | none => [0]
  | some a => 1 :: f a

/-- Two bytes in one word, the first in the upper half. -/
def packWord (hi lo : Nat) : Word := BitVec.ofNat 16 (hi * 256 + lo)

/-- Key bytes two to a word, the earlier in the upper half, with `unused` in the half that a key of odd
length leaves (R164). -/
def packBytes (unused : Byte) : List Byte → List Word
  | [] => []
  | [a] => [packWord a.toNat unused.toNat]
  | a :: b :: rest => packWord a.toNat b.toNat :: packBytes unused rest

/-- A key in a response: its length word and its packed bytes (R164). What the unused half of its last word
holds is not stated (log entry 22). -/
def keyWords (k : Key) : List Word := word k.length :: packBytes (Config.unusedKeyHalf k) k

/-- A slot and a serial. -/
def refWords (r : Ref) : List Word := word r.slot :: words32 r.serial

/-- A cursor position: 0 and the record, 1 for BEFORE_FIRST, 2 for AFTER_LAST. -/
def positionWords : Position → List Word
  | .record r => 0 :: refWords r
  | .beforeFirst => [1]
  | .afterLast => [2]

/-- The number of a record state, from 1 in the order of R1 (section 12.1.1). -/
def stateNumber : StateKind → Nat
  | .expected => 1
  | .routed => 2
  | .sorted => 3
  | .recirculating => 4
  | .rejected => 5

/-- The number of an outlet's derived state, from 1 in the order of R25. -/
def outletStateNumber : OutletState → Nat
  | .notDefined => 1
  | .clearing => 2
  | .closed => 3
  | .full => 4
  | .opened => 5

/-- The number of a lane state, from 1 in the order of R108. -/
def laneStateNumber : LaneState → Nat
  | .stopped => 1
  | .running => 2
  | .draining => 3

/-- The number of a policy, from 1 in the order of R34. -/
def policyNumber : Policy → Nat
  | .first => 1
  | .rotate => 2
  | .least => 3

/-- The number of the condition of the command in flight, from 1 in the order of R127. -/
def flightConditionNumber : FlightCondition → Nat
  | .waiting => 1
  | .stepping => 2
  | .ending => 3

/-! ### The item record as READ ITEM returns it (section 12.1.1) -/

/-- Word 6: the origin and the rule number. -/
def originWord : Origin → Word
  | .manifest => packWord 0 0
  | .rule n => packWord 1 n.val

/-- The outlet of word 12. -/
def outletField : ItemState → Nat
  | .routed p _ _ => placeNumber p
  | .sorted k _ _ => outletNumber k
  | _ => 0

/-- The ordinal of words 13 and 14. -/
def ordinalField : ItemState → Word32
  | .routed _ ordinal _ => ordinal
  | .sorted _ arrival _ => arrival
  | _ => 0

/-- The pending target, when a revision is pending. -/
def pendingField : ItemState → Option Place
  | .routed _ _ pending => pending
  | _ => none

/-- The stray mark. -/
def strayField : ItemState → Bool
  | .sorted _ _ stray => stray
  | _ => false

/-- Word 9: bit 0 host tag, bit 1 pending revision, bit 2 stray mark, bit 3 lane. -/
def presenceWord (r : ItemRecord) : Word :=
  word ((if r.hostTag.isSome then 1 else 0) + (if (pendingField r.state).isSome then 2 else 0)
    + (if strayField r.state then 4 else 0) + (if r.lane.isSome then 8 else 0))

/-- The record, from its slot on: words 1 onward of a READ ITEM by slot and serial or by key. -/
def recordWords (r : ItemRecord) : List Word :=
  refWords r.ref
    ++ [r.revision, word (stateNumber (stateKind r.state)), originWord r.origin,
        packWord r.destination.val (r.hold.getD 0),
        packWord r.laps (match r.lane with | some l => l.val | none => 0),
        presenceWord r]
    ++ words32 (r.hostTag.getD 0)
    ++ [word (outletField r.state)]
    ++ words32 (ordinalField r.state)
    ++ [word (match pendingField r.state with | some p => placeNumber p | none => 0)]
    ++ keyWords r.key

/-- The record as SKIP returns it: slot, serial, revision, state. -/
def recordSummary (r : ItemRecord) : List Word :=
  refWords r.ref ++ [r.revision, word (stateNumber (stateKind r.state))]

/-! ### The attention entry (section 12.1.2) -/

/-- The kind and number words of a subject, and its serial. -/
def subjectWords : Subject → List Word
  | .item ref => [1, word ref.slot] ++ words32 ref.serial
  | .outlet k => [2, word (outletNumber k), 0, 0]
  | .lane l => [3, word l.val, 0, 0]
  | .directory => [4, 0, 0, 0]

/-- The reason set, one bit for each reason. -/
def reasonWord (rs : List Reason) : Word := word (rs.map fun r => 2 ^ reasonBit r).sum

/-- Words 1 to 7 of the answer to TAKE ATTENTION and PEEK ATTENTION: the entry, the number of entries on
the list and how many of them are urgent. -/
def attentionWords (e : AttentionEntry) (list : List AttentionEntry) : List Word :=
  subjectWords e.subject
    ++ [reasonWord e.reasons, word list.length, word (list.countP AttentionEntry.urgent)]

/-! ### The other results -/

/-- The head of a list: absent, or its slot, serial and ordinal (R45). -/
def headWords (number : Ref → Word32) (refs : List Ref) : List Word :=
  optionalWords (fun r => refWords r ++ words32 (number r)) refs.head?

/-- READ OUTLET of an outlet (R45). -/
def outletWords (s : State) (k : OutletId) : List Word :=
  let o := s.outlet k
  [word (outletStateNumber o.state), flagWord o.definition.isSome]
    ++ optionalWords (fun d => [word d.lane.val]) o.definition
    ++ optionalWords (fun d => [word d.capacity]) o.definition
    ++ [flagWord o.closed, flagWord o.clearing.isSome, word o.reserved, word o.held, word o.foreign,
        word o.load]
    ++ words32 o.arrivalCounter
    ++ headWords s.ordinalOf o.expected
    ++ headWords s.arrivalOf o.content

/-- READ OUTLET of a bin (R45). -/
def binWords (s : State) (l : Lane) : List Word :=
  [word l.val, word (s.bin l).reserved] ++ headWords s.ordinalOf (s.bin l).expected

/-- READ GROUP (R47). -/
def groupWords (e : GroupEntry) : List Word :=
  word e.members.length :: e.members.map (fun k => word (outletNumber k))
    ++ [word (policyNumber e.policy)]
    ++ optionalWords (fun h => [word (groupNumber h)]) e.overflow
    ++ e.pointers.toList.map word

/-- A key pattern (R165). -/
def patternWords (p : KeyPattern) : List Word :=
  word p.positions.length :: p.positions.map (fun b => word (match b with | some v => v.toNat | none => 0))
    ++ [word p.minLength, word p.maxLength]

/-- READ RULE (R70). -/
def ruleWords (e : RuleEntry) : List Word :=
  flagWord e.enabled :: patternWords e.pattern ++ [word e.priority, word e.group.val]

/-- R115: the kind of the request in service, from 1: LOOKUP, CONFIRM, MISS, RESTART. -/
def serviceKind : Option InHand → Option Nat
  | some (.request (.lookup _ _ _ _ _)) => some 1
  | some (.request (.confirm _ _)) => some 2
  | some (.request (.miss _)) => some 3
  | some .restart => some 4
  | some .workItem | none => none

/-- READ LANE (R115). -/
def laneWords (s : State) (l : Lane) : List Word :=
  let u := s.lane l
  [word (laneStateNumber u.state), word u.decisionWindow, word u.reviseWindow, word u.lapLimit,
    word u.holdGroup.val]
    ++ words32 u.ordinalCounter
    ++ [flagWord u.exhausted, word (s.routedCount l), word u.pendingCount, word u.requests.length]
    ++ optionalWords (fun n => [word n]) (serviceKind u.inHand)
    ++ [word u.outbound.length, word u.outstanding, word u.workList.length]

/-- The outcome of one item of LOAD MANIFEST (R133), numbered from 1. -/
def outcomeWords : ManifestOutcome → List Word
  | .created ref => 1 :: refWords ref
  | .existing => [2]
  | .full => [3]

/-- The outcomes of LOAD MANIFEST, preceded by their number (R133, R134). -/
def outcomesWords (os : List ManifestOutcome) : List Word :=
  word os.length :: (os.map outcomeWords).flatten

/-- The command code of a command in flight (R164). -/
def HostCommand.code : HostCommand → Byte
  | .createItem _ => 0x01
  | .loadManifest _ => 0x02
  | .readItem _ => 0x03
  | .readItemByCursor _ _ _ => 0x03
  | .amendItem _ => 0x04
  | .restoreItem _ => 0x05
  | .retireItem _ _ => 0x06
  | .defineOutlet _ _ _ => 0x07
  | .undefineOutlet _ => 0x08
  | .setCapacity _ _ => 0x09
  | .closeOutlet _ => 0x0A
  | .openOutlet _ => 0x0B
  | .readOutlet _ => 0x0C
  | .clearOutlet _ => 0x0D
  | .defineGroup _ _ _ _ => 0x0F
  | .readGroup _ => 0x10
  | .writeRule _ _ => 0x11
  | .readRule _ => 0x12
  | .startLane _ => 0x13
  | .stopLane _ => 0x14
  | .setLaneParameters _ _ => 0x15
  | .setCursor _ _ _ => 0x16
  | .search _ => 0x17
  | .takeAttention _ => 0x18
  | .peekAttention _ => 0x19
  | .resetDirectory => 0x1B
  | .readLane _ => 0x1D

/-- The in-flight part of READ STATUS (R135). -/
def flightWords (f : InFlight) : List Word :=
  [packWord 0 f.command.code.toNat, word (flightConditionNumber f.condition), word f.stepsDone,
    flagWord f.abortMark]

/-- READ STATUS (R135): the part code, the step letter, the counts, the lane states, and the command in
flight. -/
def statusWords (s : State) : List Word :=
  let c := s.store.counts
  [Config.partCode, word (65 + Config.stepLetterIndex.val), word c.inUse, word c.expected, word c.routed,
    word c.sorted, word c.recirculating, word c.rejected]
    ++ allLanes.map (fun l => word (laneStateNumber (s.lane l).state))
    ++ optionalWords flightWords s.host.inFlight

/-- R126: a response frame as the host reads it, its header word first. -/
def Response.words (r : Response) : List Word := packWord r.code.toNat r.body.length :: r.body

/-! ### The messages of a lane link (R166) -/

/-- The number of an ANSWER's reason (section 12.2). -/
def answerNumber : AnswerReason → Nat
  | .direct => 1
  | .rule => 2
  | .repeated => 3
  | .held => 4
  | .overflow => 5
  | .lapLimit => 6
  | .noOutlet => 7
  | .unknown => 8
  | .directoryFull => 9
  | .late => 10
  | .stopped => 11
  | .draining => 12

/-- The number of a NOTE's outcome (section 12.2). -/
def noteNumber : NoteOutcome → Nat
  | .sorted => 1
  | .sortedOutOfOrder => 2
  | .sortedRevised => 3
  | .stray => 4
  | .duplicate => 5
  | .rejected => 6
  | .foreign => 7
  | .recirculating => 8
  | .ignored => 9
  | .unknown => 10
  | .badOutlet => 11

/-- R166: the bytes of the frame that a message is sent as. -/
def Message.frame : Message → List Byte
  | .answer tag place reason _ =>
    laneFrame 0x21 (bytes16 tag ++ [BitVec.ofNat 8 (placeNumber place), BitVec.ofNat 8 (answerNumber reason)])
  | .note digest outcome => laneFrame 0x22 (digest ++ [BitVec.ofNat 8 (noteNumber outcome)])
  | .revise ordinal target => laneFrame 0x23 (bytes32 ordinal ++ [BitVec.ofNat 8 (placeNumber target)])
  | .restartDone => laneFrame 0x24 []

end Sys2Proof.Machine
end

