-- ==== Sys2Proof/Machine/Operands.lean ====
section
/-!
DEFINITION. Reading the body of a host frame: the form its command requires (R125 second stage, R164,
R165), the argument checks in their two classes (R128), and the command with its arguments.
-/
namespace Sys2Proof.Machine

/-! ### The form of a body (R164, R165) -/

/-- Why a body is refused before its arguments are compared with their ranges. -/
inductive FormFault where
  /-- The body has not the length its fields take: BAD_FRAME. -/
  | wrongForm
  /-- A kind word names no kind, and is taken to be followed by every remaining word: BAD_ARGUMENT. -/
  | unknownKind
  deriving DecidableEq, Repr

/-- Reading fields from the words of a body. -/
abbrev Parse := StateT (List Word) (Except FormFault)

/-- One word. -/
def parseWord : Parse Word := fun ws =>
  match ws with
  | [] => .error .wrongForm
  | w :: rest => .ok (w, rest)

/-- A number of one word. -/
def parseNat : Parse Nat := do return (← parseWord).toNat

/-- A number of two words. -/
def parse32 : Parse Word32 := do
  let hi ← parseWord
  let lo ← parseWord
  return hi ++ lo

/-- So many words. -/
def parseWords (n : Nat) : Parse (List Word) := fun ws =>
  if n ≤ ws.length then .ok (ws.take n, ws.drop n) else .error .wrongForm

/-- The bytes of words, the upper byte of each first. -/
def unpackWords (ws : List Word) : List Byte :=
  (ws.map fun w => [w.extractLsb' 8 8, w.extractLsb' 0 8]).flatten

/-- R164: a key: its length in bytes, then its bytes two to a word; the unused half of the last word of
a key of odd length is not judged. -/
def parseKey : Parse Key := do
  let n ← parseNat
  let ws ← parseWords ((n + 1) / 2)
  return (unpackWords ws).take n

/-- A presence word that is neither 0 nor 1: which refusal it draws is not stated (log entry 6). -/
def unlistedPresence (w : Word) : FormFault :=
  if Config.unlistedPresenceIsBadFrame w then .wrongForm else .unknownKind

/-- R165: an optional field. -/
def parseOptional (p : Parse α) : Parse (Option α) := do
  let w ← parseWord
  if w = 0 then return none
  else if w = 1 then return some (← p)
  else throw (unlistedPresence w)

/-- An optional field without a value, such as FORCE of RETIRE ITEM. -/
def parsePresence : Parse Bool := do
  let w ← parseWord
  if w = 0 then return false
  else if w = 1 then return true
  else throw (unlistedPresence w)

/-- So many of a field. -/
def parseMany (p : Parse α) : Nat → Parse (List α)
  | 0 => return []
  | n + 1 => do
    let a ← p
    let rest ← parseMany p n
    return a :: rest

/-- R165: a list, preceded by its count. -/
def parseList (p : Parse α) : Parse (List α) := do parseMany p (← parseNat)

/-- R165: a kind word that names no kind. -/
def parseUnknown : Parse α := throw .unknownKind

/-! ### Fields with their ranges unjudged -/

/-- A slot and a serial as sent. -/
inductive RawDesignation where
  | ref (slot : Nat) (serial : Word32)
  | key (k : Key)
  deriving DecidableEq, Repr

/-- A designation of kind 1 (slot and serial) or 2 (key). -/
def parseDesignation : Parse RawDesignation := do
  match ← parseNat with
  | 1 => return .ref (← parseNat) (← parse32)
  | 2 => return .key (← parseKey)
  | _ => parseUnknown

/-- An item definition as sent. -/
structure RawItem where
  key : Key
  destination : Nat
  hold : Option Nat
  hostTag : Option Word32
  deriving DecidableEq, Repr

/-- R12: a key, a destination, an optional hold and an optional host tag. -/
def parseItem : Parse RawItem := do
  return { key := ← parseKey, destination := ← parseNat, hold := ← parseOptional parseNat,
           hostTag := ← parseOptional parse32 }

/-- The kinds of change of AMEND ITEM as sent; the two changes with forms carry SET or CLEAR. -/
inductive RawChange where
  | destination (n : Nat)
  | hold (reason : Option Nat)
  | hostTag (tag : Option Word32)
  deriving DecidableEq, Repr

/-- The form of a change: SET with its value, or CLEAR (R16). -/
def parseForm (p : Parse α) : Parse (Option α) := do
  match ← parseNat with
  | 1 => return some (← p)
  | 2 => return none
  | _ => parseUnknown

/-- R16: one change. -/
def parseChange : Parse RawChange := do
  match ← parseNat with
  | 1 => return .destination (← parseNat)
  | 2 => return .hold (← parseForm parseNat)
  | 3 => return .hostTag (← parseForm parse32)
  | _ => parseUnknown

/-- R16: the guard: a revision, or ANY. -/
def parseGuard : Parse (Option (BitVec 16)) := do
  match ← parseNat with
  | 1 => return some (← parseWord)
  | 2 => return none
  | _ => parseUnknown

/-- R34: a policy. -/
def parsePolicy : Parse Policy := do
  match ← parseNat with
  | 1 => return .first
  | 2 => return .rotate
  | 3 => return .least
  | _ => parseUnknown

/-- A key pattern as sent: 0 in a position is ANY. -/
structure RawPattern where
  positions : List Nat
  minLength : Nat
  maxLength : Nat
  deriving DecidableEq, Repr

/-- R165: a key pattern. -/
def parsePattern : Parse RawPattern := do
  return { positions := ← parseList parseNat, minLength := ← parseNat, maxLength := ← parseNat }

/-- A state of a record. -/
def parseState : Parse StateKind := do
  match ← parseNat with
  | 1 => return .expected
  | 2 => return .routed
  | 3 => return .sorted
  | 4 => return .recirculating
  | 5 => return .rejected
  | _ => parseUnknown

/-- A view as sent. -/
inductive RawView where
  | key
  | state (s : StateKind)
  | expected (outlet : Nat)
  | expectedBin (lane : Nat)
  | content (outlet : Nat)
  deriving DecidableEq, Repr

/-- R137: a view. -/
def parseView : Parse RawView := do
  match ← parseNat with
  | 1 => return .key
  | 2 => return .state (← parseState)
  | 3 => return .expected (← parseNat)
  | 4 => return .expectedBin (← parseNat)
  | 5 => return .content (← parseNat)
  | _ => parseUnknown

/-- A placement as sent. -/
inductive RawPlacement where
  | first
  | last
  | atRecord (d : RawDesignation)
  | atKey (k : Key)
  deriving DecidableEq, Repr

/-- R138: a placement. -/
def parsePlacement : Parse RawPlacement := do
  match ← parseNat with
  | 1 => return .first
  | 2 => return .last
  | 3 => return .atRecord (← parseDesignation)
  | 4 => return .atKey (← parseKey)
  | _ => parseUnknown

/-- A parameter of SET LANE PARAMETERS as sent: its kind in the order of R114, and its value. -/
def parseParameter : Parse (Nat × Nat) := do
  let kind ← parseNat
  if 1 ≤ kind ∧ kind ≤ 4 then return (kind, ← parseNat) else parseUnknown

/-- R143: a test of a field that may be absent. -/
def parseFieldTest (p : Parse α) : Parse (FieldTest α) := do
  match ← parseNat with
  | 1 => return .absent
  | 2 => return .present
  | 3 => return .value (← p)
  | _ => parseUnknown

/-- A condition of SEARCH as sent. -/
inductive RawCondition where
  | key (p : RawPattern)
  | state (states : List StateKind)
  | origin (fromRule : Bool)
  | ruleNumber (n : Nat)
  | destination (n : Nat)
  | hold (t : FieldTest Nat)
  | hostTag (t : FieldTest Word32)
  | lane (n : Nat)
  | laps (n : Nat)
  | stray
  | pending
  deriving DecidableEq, Repr

/-- The number of a condition's kind, from 1 in the order of R143. -/
def RawCondition.kind : RawCondition → Nat
  | .key _ => 1
  | .state _ => 2
  | .origin _ => 3
  | .ruleNumber _ => 4
  | .destination _ => 5
  | .hold _ => 6
  | .hostTag _ => 7
  | .lane _ => 8
  | .laps _ => 9
  | .stray => 10
  | .pending => 11

/-- The origin of a SEARCH condition: MANIFEST or RULE. -/
def parseOrigin : Parse Bool := do
  match ← parseNat with
  | 1 => return false
  | 2 => return true
  | _ => parseUnknown

/-- R143: a condition. -/
def parseCondition : Parse RawCondition := do
  match ← parseNat with
  | 1 => return .key (← parsePattern)
  | 2 => return .state (← parseList parseState)
  | 3 => return .origin (← parseOrigin)
  | 4 => return .ruleNumber (← parseNat)
  | 5 => return .destination (← parseNat)
  | 6 => return .hold (← parseFieldTest parseNat)
  | 7 => return .hostTag (← parseFieldTest parse32)
  | 8 => return .lane (← parseNat)
  | 9 => return .laps (← parseNat)
  | 10 => return .stray
  | 11 => return .pending
  | _ => parseUnknown

/-! ### Ranges (R128, first class) -/

/-- A lane 0..3. -/
def laneOf (n : Nat) : Option Lane := if h : n < 4 then some ⟨n, h⟩ else none
/-- A destination 0..15. -/
def destinationOf (n : Nat) : Option Destination := if h : n < 16 then some ⟨n, h⟩ else none
/-- A rule 0..127. -/
def ruleOf (n : Nat) : Option RuleId := if h : n < 128 then some ⟨n, h⟩ else none
/-- A cursor 0..7. -/
def cursorOf (n : Nat) : Option CursorId := if h : n < 8 then some ⟨n, h⟩ else none

/-- A number within a range. -/
def inRange (lo hi n : Nat) : Option Nat := if lo ≤ n ∧ n ≤ hi then some n else none

/-- A hold reason 1..15. -/
def holdReasonOf : Nat → Option Nat := inRange 1 15
/-- A capacity 1..4095. -/
def capacityOf : Nat → Option Nat := inRange 1 4095

/-- A yes-or-no word, 1 for yes and 0 for no (R165). Another value is taken as out of range, which draws
BAD_ARGUMENT: DEDUCED, the model's choice of log entry 16. -/
def yesNoOf (n : Nat) : Option Bool := if n = 0 then some false else if n = 1 then some true else none

/-- An optional value, in range when it is present. -/
def optionalOf (f : α → Option β) : Option α → Option (Option β)
  | none => some none
  | some a => (f a).map some

/-- Every value of a list, each in range. -/
def allOf (f : α → Option β) : List α → Option (List β)
  | [] => some []
  | a :: rest => do return (← f a) :: (← allOf f rest)

/-- Whether no value stands twice. -/
def noRepeat [DecidableEq α] : List α → Bool
  | [] => true
  | a :: rest => !decide (a ∈ rest) && noRepeat rest

/-- R5: a slot in 0..8191 and a serial that is not 0; a key is judged in the second class. -/
def designationOf : RawDesignation → Option Designation
  | .ref slot serial =>
    if slot < Config.slotCount ∧ serial ≠ 0 then some (.ref { slot := slot, serial := serial }) else none
  | .key k => some (.key k)

/-- R12: the ranges of an item definition. -/
def itemOf (r : RawItem) : Option ItemDefinition := do
  let destination ← destinationOf r.destination
  let hold ← optionalOf holdReasonOf r.hold
  return { key := r.key, destination := destination, hold := hold, hostTag := r.hostTag }

/-- R16: the ranges of a change. -/
def changeOf : RawChange → Option Change
  | .destination n => (destinationOf n).map .destination
  | .hold (some n) => (holdReasonOf n).map .setHold
  | .hold none => some .clearHold
  | .hostTag (some t) => some (.setTag t)
  | .hostTag none => some .clearTag

/-- The kind of a change, from 1 in the order of R16. -/
def RawChange.kind : RawChange → Nat
  | .destination _ => 1
  | .hold _ => 2
  | .hostTag _ => 3

/-- Whether a naming of the same thing twice passes (log entry 6). -/
def repeatsAllowed (code : Byte) (kinds : List Nat) : Bool :=
  noRepeat kinds || !Config.repeatedNameRefused code

/-- R67: a position of a pattern: 0 for ANY, or a pattern byte 33..126. -/
def patternByteOf (n : Nat) : Option (Option Byte) :=
  if n = 0 then some none else (inRange 33 126 n).map fun v => some (BitVec.ofNat 8 v)

/-- R67: a valid key pattern. -/
def patternOf (r : RawPattern) : Option KeyPattern := do
  let positions ← allOf patternByteOf r.positions
  if positions.length ≤ 20 ∧ 4 ≤ r.minLength ∧ r.minLength ≤ r.maxLength ∧ r.maxLength ≤ 20 then
    return { positions := positions, minLength := r.minLength, maxLength := r.maxLength }
  else none

/-- R138: the ranges of a view. -/
def viewOf : RawView → Option View
  | .key => some .key
  | .state s => some (.state s)
  | .expected n => (outletOf n).map .expected
  | .expectedBin n => (laneOf n).map .expectedBin
  | .content n => (outletOf n).map .content

/-- R137, R138: whether a view stands in key order, which AT_KEY needs. -/
def inKeyOrder : View → Bool
  | .key | .state _ => true
  | .expected _ | .expectedBin _ | .content _ => false

/-- R138: the ranges of a placement in a view. -/
def placementOf (v : View) : RawPlacement → Option Placement
  | .first => some .first
  | .last => some .last
  | .atRecord d => (designationOf d).map .atRecord
  | .atKey k => if inKeyOrder v then some (.atKey k) else none

/-- R114: the ranges of the parameters. -/
def parameterOf : Nat × Nat → Option Parameter
  | (1, n) => (inRange 100 20000 n).map .decisionWindow
  | (2, n) => (inRange 100 50000 n).map .reviseWindow
  | (3, n) => (inRange 1 7 n).map .lapLimit
  | (4, n) => (destinationOf n).map .holdGroup
  | _ => none

/-- R143: the ranges of a condition. -/
def conditionOf : RawCondition → Option Condition
  | .key p => (patternOf p).map .key
  | .state states => if states ≠ [] ∧ noRepeat states then some (.state states) else none
  | .origin b => some (.origin b)
  | .ruleNumber n => (ruleOf n).map .ruleNumber
  | .destination n => (destinationOf n).map .destination
  | .hold (.value n) => (holdReasonOf n).map fun v => .hold (.value v)
  | .hold .absent => some (.hold .absent)
  | .hold .present => some (.hold .present)
  | .hostTag t => some (.hostTag t)
  | .lane n => (laneOf n).map .lane
  | .laps n => (inRange 0 7 n).map .laps
  | .stray => some .stray
  | .pending => some .pending

/-! ### Judging a body (R125 second stage, R128) -/

/-- What the judging of a body comes to: a refusal with what follows its status, or a command. -/
inductive Judged where
  | refused (status : Status) (results : List Word)
  | command (c : HostCommand)
  deriving DecidableEq, Repr

/-- The keys that a command carries (R6, R128 second class). -/
def HostCommand.keys : HostCommand → List Key
  | .createItem d => [d.key]
  | .readItem (.key k) | .restoreItem (.key k) | .retireItem (.key k) _ => [k]
  | .amendItem { designation := .key k, .. } => [k]
  | .setCursor _ _ (.atRecord (.key k)) | .setCursor _ _ (.atKey k) => [k]
  | _ => []

/-- R128: the two classes of argument check, in their order. -/
def checkArguments : Option HostCommand → Judged
  | none => .refused .badArgument []
  | some c => if c.keys.all keyValid then .command c else .refused .badKey []

/-- R125 second stage and R128: the fields of a body are read; a body of another length draws BAD_FRAME,
an unknown kind BAD_ARGUMENT; then the arguments are checked. -/
def judgeBody (p : Parse α) (check : α → Judged) (body : List Word) : Judged :=
  match p body with
  | .error .wrongForm => .refused .badFrame []
  | .error .unknownKind => .refused .badArgument []
  | .ok (a, []) => check a
  | .ok (_, _ :: _) => .refused .badFrame []

/-- CREATE ITEM (R12). -/
def judgeCreateItem : List Word → Judged :=
  judgeBody parseItem fun r => checkArguments ((itemOf r).map .createItem)

/-- R132: so many items of LOAD MANIFEST. An item with an unlisted presence word that does not draw BAD_FRAME
is `none`: the remaining words are taken to be its own, as after a kind word that names no kind (log entry
6). -/
def parseItems : Nat → Parse (List (Option RawItem))
  | 0 => return []
  | n + 1 => fun ws =>
    match parseItem ws with
    | .ok (r, rest) =>
      match parseItems n rest with
      | .ok (rs, left) => .ok (some r :: rs, left)
      | .error e => .error e
    | .error .unknownKind => .ok ([none], [])
    | .error .wrongForm => .error .wrongForm

/-- The fields of LOAD MANIFEST: the item count and the items. -/
def parseManifest : Parse (Nat × List (Option RawItem)) := do
  let n ← parseNat
  return (n, ← parseItems n)

/-- R132: the items of LOAD MANIFEST, checked in order from the index `n`; the first that fails decides. -/
def checkItems (n : Nat) (done : List ItemDefinition) : List (Option RawItem) → Judged
  | [] => .command (.loadManifest done.reverse)
  | none :: _ => .refused .badArgument [word n]
  | some r :: rest =>
    match itemOf r with
    | none => .refused .badArgument [word n]
    | some d => if keyValid d.key then checkItems (n + 1) (d :: done) rest else .refused .badKey [word n]

/-- LOAD MANIFEST (R132): a count outside 1..12 that agrees with the body draws BAD_ARGUMENT. -/
def judgeLoadManifest : List Word → Judged :=
  judgeBody parseManifest fun m =>
    if 1 ≤ m.1 ∧ m.1 ≤ 12 then checkItems 1 [] m.2 else .refused .badArgument []

/-- READ ITEM as sent: by a record, or by a cursor with a step and an access. -/
inductive RawRead where
  | record (d : RawDesignation)
  | cursor (n : Nat) (step : CursorStep) (access : CursorAccess)
  deriving DecidableEq, Repr

/-- A step of READ ITEM by cursor. -/
def parseCursorStep : Parse CursorStep := do
  match ← parseNat with
  | 1 => return .next
  | 2 => return .prev
  | 3 => return .hold
  | _ => parseUnknown

/-- An access of READ ITEM by cursor. -/
def parseAccess : Parse CursorAccess := do
  match ← parseNat with
  | 1 => return .read
  | 2 => return .skip
  | _ => parseUnknown

/-- The designation of READ ITEM: kind 1, 2, or 3 for a cursor (R15, R139). -/
def parseRead : Parse RawRead := do
  match ← parseNat with
  | 1 => return .record (.ref (← parseNat) (← parse32))
  | 2 => return .record (.key (← parseKey))
  | 3 => return .cursor (← parseNat) (← parseCursorStep) (← parseAccess)
  | _ => parseUnknown

/-- The ranges of READ ITEM (R5, R139). -/
def readCommandOf : RawRead → Option HostCommand
  | .record d => (designationOf d).map .readItem
  | .cursor n step access => (cursorOf n).map fun c => .readItemByCursor c step access

/-- READ ITEM, by a record or by a cursor (R15, R139). -/
def judgeReadItem : List Word → Judged := judgeBody parseRead fun r => checkArguments (readCommandOf r)

/-- The fields of AMEND ITEM. -/
def parseAmendment : Parse (RawDesignation × Option (BitVec 16) × List RawChange) := do
  return (← parseDesignation, ← parseGuard, ← parseList parseChange)

/-- The ranges of AMEND ITEM (R16). -/
def amendCommandOf (d : RawDesignation) (g : Option (BitVec 16)) (cs : List RawChange) :
    Option HostCommand := do
  let designation ← designationOf d
  let changes ← allOf changeOf cs
  if changes ≠ [] ∧ repeatsAllowed 0x04 (cs.map RawChange.kind) then
    return .amendItem { designation := designation, guardRevision := g, changes := changes }
  else none

/-- AMEND ITEM (R16). -/
def judgeAmendItem : List Word → Judged :=
  judgeBody parseAmendment fun r => checkArguments (amendCommandOf r.1 r.2.1 r.2.2)

/-- RESTORE ITEM (R18). -/
def judgeRestoreItem : List Word → Judged :=
  judgeBody parseDesignation fun d => checkArguments ((designationOf d).map .restoreItem)

/-- RETIRE ITEM (R19): a designation and an optional FORCE. -/
def judgeRetireItem : List Word → Judged :=
  judgeBody (do return (← parseDesignation, ← parsePresence)) fun r =>
    checkArguments ((designationOf r.1).map fun d => .retireItem d r.2)

/-- DEFINE OUTLET (R40): an outlet, a lane and a capacity. -/
def judgeDefineOutlet : List Word → Judged :=
  judgeBody (do return (← parseNat, ← parseNat, ← parseNat)) fun r =>
    checkArguments (do return .defineOutlet (← outletOf r.1) (← laneOf r.2.1) (← capacityOf r.2.2))

/-- A command that carries an outlet number alone. -/
def judgeOutlet (f : OutletId → HostCommand) : List Word → Judged :=
  judgeBody parseNat fun n => checkArguments ((outletOf n).map f)

/-- A command that carries a lane number alone. -/
def judgeLane (f : Lane → HostCommand) : List Word → Judged :=
  judgeBody parseNat fun n => checkArguments ((laneOf n).map f)

/-- UNDEFINE OUTLET (R41). -/
def judgeUndefineOutlet : List Word → Judged := judgeOutlet .undefineOutlet
/-- CLOSE OUTLET (R43). -/
def judgeCloseOutlet : List Word → Judged := judgeOutlet .closeOutlet
/-- OPEN OUTLET (R44). -/
def judgeOpenOutlet : List Word → Judged := judgeOutlet .openOutlet
/-- CLEAR OUTLET (R148). -/
def judgeClearOutlet : List Word → Judged := judgeOutlet .clearOutlet
/-- START LANE (R108). -/
def judgeStartLane : List Word → Judged := judgeLane .startLane
/-- STOP LANE (R109). -/
def judgeStopLane : List Word → Judged := judgeLane .stopLane
/-- READ LANE (R115). -/
def judgeReadLane : List Word → Judged := judgeLane .readLane

/-- SET CAPACITY (R42): an outlet and a capacity. -/
def judgeSetCapacity : List Word → Judged :=
  judgeBody (do return (← parseNat, ← parseNat)) fun r =>
    checkArguments (do return .setCapacity (← outletOf r.1) (← capacityOf r.2))

/-- The designation of READ OUTLET as sent: an outlet, or the bin of a lane. -/
def parseOutletOrBin : Parse (Bool × Nat) := do
  match ← parseNat with
  | 1 => return (false, ← parseNat)
  | 2 => return (true, ← parseNat)
  | _ => parseUnknown

/-- READ OUTLET (R45). -/
def judgeReadOutlet : List Word → Judged :=
  judgeBody parseOutletOrBin fun r =>
    checkArguments
      (if r.1 then (laneOf r.2).map fun l => .readOutlet (.bin l)
       else (outletOf r.2).map fun k => .readOutlet (.outlet k))

/-- The fields of DEFINE GROUP. -/
def parseGroup : Parse (Nat × List Nat × Policy × Option Nat) := do
  return (← parseNat, ← parseList parseNat, ← parsePolicy, ← parseOptional parseNat)

/-- R46: the checks of DEFINE GROUP. The members are kept as a set, in ascending number. -/
def groupCommandOf (group : Nat) (members : List Nat) (policy : Policy) (overflow : Option Nat) :
    Option HostCommand := do
  let g ← groupOf group
  let ks ← allOf outletOf members
  let h ← optionalOf groupOf overflow
  if noRepeat ks ∧ ks.length ≤ 48 ∧ h ≠ some g then
    return .defineGroup g (allOutlets.filter fun k => decide (k ∈ ks)) policy h
  else none

/-- DEFINE GROUP (R46). -/
def judgeDefineGroup : List Word → Judged :=
  judgeBody parseGroup fun r => checkArguments (groupCommandOf r.1 r.2.1 r.2.2.1 r.2.2.2)

/-- READ GROUP (R47). -/
def judgeReadGroup : List Word → Judged :=
  judgeBody parseNat fun n => checkArguments ((groupOf n).map .readGroup)

/-- The fields of WRITE RULE: number, enabled, pattern, priority, group. -/
def parseRule : Parse (Nat × Nat × RawPattern × Nat × Nat) := do
  return (← parseNat, ← parseNat, ← parsePattern, ← parseNat, ← parseNat)

/-- R69: the checks of WRITE RULE. -/
def ruleCommandOf (number enabled : Nat) (pattern : RawPattern) (priority group : Nat) :
    Option HostCommand := do
  let n ← ruleOf number
  let e ← yesNoOf enabled
  let p ← patternOf pattern
  let q ← inRange 0 15 priority
  let g ← destinationOf group
  return .writeRule n { enabled := e, pattern := p, priority := q, group := g }

/-- WRITE RULE (R69). -/
def judgeWriteRule : List Word → Judged :=
  judgeBody parseRule fun r =>
    checkArguments (ruleCommandOf r.1 r.2.1 r.2.2.1 r.2.2.2.1 r.2.2.2.2)

/-- READ RULE (R70). -/
def judgeReadRule : List Word → Judged :=
  judgeBody parseNat fun n => checkArguments ((ruleOf n).map .readRule)

/-- R114: the checks of SET LANE PARAMETERS. -/
def parametersCommandOf (lane : Nat) (ps : List (Nat × Nat)) : Option HostCommand := do
  let l ← laneOf lane
  let parameters ← allOf parameterOf ps
  if parameters ≠ [] ∧ repeatsAllowed 0x15 (ps.map (·.1)) then
    return .setLaneParameters l parameters
  else none

/-- SET LANE PARAMETERS (R114). -/
def judgeSetLaneParameters : List Word → Judged :=
  judgeBody (do return (← parseNat, ← parseList parseParameter)) fun r =>
    checkArguments (parametersCommandOf r.1 r.2)

/-- R138: the checks of SET CURSOR. -/
def setCursorCommandOf (cursor : Nat) (view : RawView) (placement : RawPlacement) :
    Option HostCommand := do
  let c ← cursorOf cursor
  let v ← viewOf view
  let p ← placementOf v placement
  return .setCursor c v p

/-- SET CURSOR (R138). -/
def judgeSetCursor : List Word → Judged :=
  judgeBody (do return (← parseNat, ← parseView, ← parsePlacement)) fun r =>
    checkArguments (setCursorCommandOf r.1 r.2.1 r.2.2)

/-- The start of SEARCH: NEXT or HOLD. -/
def parseStart : Parse Bool := do
  match ← parseNat with
  | 1 => return true
  | 2 => return false
  | _ => parseUnknown

/-- R143: the checks of SEARCH. -/
def searchCommandOf (cursor : Nat) (startNext : Bool) (limit : Nat) (cs : List RawCondition) :
    Option HostCommand := do
  let c ← cursorOf cursor
  let n ← inRange 1 Config.slotCount limit
  let conditions ← allOf conditionOf cs
  if noRepeat (cs.map RawCondition.kind) then
    return .search { cursor := c, startNext := startNext, limit := n, conditions := conditions }
  else none

/-- SEARCH (R143). -/
def judgeSearch : List Word → Judged :=
  judgeBody (do return (← parseNat, ← parseStart, ← parseNat, ← parseList parseCondition)) fun r =>
    checkArguments (searchCommandOf r.1 r.2.1 r.2.2.1 r.2.2.2)

/-- The selection of TAKE and PEEK ATTENTION: ANY or URGENT. -/
def parseSelection : Parse Bool := do
  match ← parseNat with
  | 1 => return false
  | 2 => return true
  | _ => parseUnknown

/-- TAKE ATTENTION (R160). -/
def judgeTakeAttention : List Word → Judged :=
  judgeBody parseSelection fun u => checkArguments (some (.takeAttention u))

/-- PEEK ATTENTION (R161). -/
def judgePeekAttention : List Word → Judged :=
  judgeBody parseSelection fun u => checkArguments (some (.peekAttention u))

/-- RESET DIRECTORY (R153) carries no arguments. -/
def judgeResetDirectory : List Word → Judged :=
  judgeBody (pure ()) fun _ => checkArguments (some .resetDirectory)

end Sys2Proof.Machine
end

