-- ==== Sys2Proof/Machine/HostEngine.lean ====
section
/-!
DEFINITION. The host engine (chapter 8): taking frames off the channel, answering them, the command in
flight, and its end by its last step or by an abort.
-/
namespace Sys2Proof.Machine

/-! ### Responses and frames (R124 to R126) -/

/-- R126: a response is placed in the response queue. -/
def State.respond (s : State) (code : Byte) (status : Status) (results : List Word) : State :=
  s.setHost { s.host with responses := s.host.responses ++ [{ code := code, body := status.word :: results }] }

/-- R124, R125: the partial frame in reception, if there is one, is judged truncated and answered
BAD_FRAME with its code as received. -/
def State.truncateReception (s : State) : State :=
  match s.host.reception with
  | none => s
  | some r => (s.setHost { s.host with reception := none }).respond r.code .badFrame []

/-- R131, R168: whether the channel acknowledges no word: the host-channel reset line is asserted, or the
power-on reset pin. -/
def State.channelHeld (s : State) : Bool := s.host.lineHeld || s.resetHeld

/-- R124, R126: a header word arrives. It cuts short a frame in reception; it is acknowledged while
neither reset is asserted and the response queue has room, and withheld otherwise. -/
def State.beginFrame (s : State) (code length : Byte) : State :=
  if s.channelHeld then s
  else
    let s1 := s.truncateReception
    if s1.host.responses.length ≤ Config.headerRoom then
      s1.setHost { s1.host with reception := some { code := code, length := length } }
    else s1

/-- R124: the reception that a frame of this code and body completes. -/
def receptionOf (code : Byte) (body : List Word) : Reception :=
  { code := code, length := BitVec.ofNat 8 body.length }

/-- R124: a whole frame is received, and `k` is done with it. Its header is the one in reception, or
arrives in the same event; when the header is not acknowledged, nothing is received. -/
def State.takeFrame (s : State) (code : Byte) (body : List Word) (k : State → State) : State :=
  if s.channelHeld ∨ Config.bodyLimit < body.length then s
  else
    let s1 :=
      if s.host.reception = some (receptionOf code body) then s
      else s.beginFrame code (receptionOf code body).length
    if s1.host.reception = some (receptionOf code body) then
      k (s1.setHost { s1.host with reception := none })
    else s1

/-- R124: the events of a frame whose reception is followed by `k` of its body: its header, or the whole
frame. A frame of body length 0 is received when its header is acknowledged. -/
def State.takePart (s : State) (code : Byte) (k : List Word → State → State) : FramePart → State
  | .header length =>
    let t := s.beginFrame code length
    if length = 0 then t.takeFrame code [] (k []) else t
  | .received body => s.takeFrame code body (k body)

/-! ### The command in flight (R127) -/

/-- Nothing carried yet. -/
def Progress.start : Progress := { outcomes := [], examined := 0, retired := 0, foreignAside := 0 }

/-- R127: a command that passes its checks becomes the command in flight, its first step requested. -/
def State.enterFlight (s : State) (c : HostCommand) : State :=
  ((s.setHost
    { s.host with
      inFlight := some { command := c, condition := .waiting, stepsDone := 0, abortMark := false,
                         silent := false, progress := Progress.start } }).requestHostStep).arbitrate

/-- R125, R127, R128: a received frame of a store-step command: BUSY while a command is in flight,
otherwise judged, and refused or put in flight. -/
def State.acceptCommand (s : State) (code : Byte) (judge : List Word → Judged) (body : List Word) : State :=
  if s.host.inFlight.isSome then s.respond code .busy []
  else
    match judge body with
    | .refused status results => s.respond code status results
    | .command c => s.enterFlight c

/-- The events of the frame of a store-step command. -/
def State.commandFrame (s : State) (code : Byte) (judge : List Word → Judged) : FramePart → State :=
  s.takePart code fun body t => t.acceptCommand code judge body

/-- R131 step 3: the response of a command is placed, unless a host-channel reset has discarded it. -/
def State.respondFor (s : State) (f : InFlight) (status : Status) (results : List Word) : State :=
  if f.silent then s else s.respond f.command.code status results

/-- R127: the command ends: its response is placed and the host engine becomes idle. -/
def State.endCommand (s : State) (f : InFlight) (status : Status) (results : List Word) : State :=
  (s.setHost { s.host with inFlight := none }).respondFor f status results

/-! ### Aborting (R129, R130) -/

/-- R130: a CLEAR OUTLET whose start step has completed ends with an ending step. -/
def InFlight.needsEndingStep (f : InFlight) : Bool :=
  match f.command with
  | .clearOutlet _ => decide (0 < f.stepsDone)
  | _ => false

/-- R130: the partial results that an aborted command reports (R134, R145, R152, R155). -/
def abortedResults (s : State) (f : InFlight) : List Word :=
  match f.command with
  | .loadManifest _ => outcomesWords f.progress.outcomes
  | .search q =>
    [word f.progress.examined, flagWord (decide (0 < f.stepsDone) && (s.cursor q.cursor).slipped)]
      ++ positionWords (s.cursor q.cursor).position
  | .clearOutlet _ => [word f.progress.retired]
  | .resetDirectory => [word f.progress.retired]
  | _ => []

/-- R130: a command is ended by an abort: at once, or by the request for its ending step. An abort pending
mark stays set meanwhile (DEDUCED, log entry 19). -/
def State.endByAbort (s : State) (f : InFlight) : State :=
  if f.needsEndingStep then
    (s.setHost { s.host with inFlight := some { f with condition := .ending } }).requestHostStep
  else s.endCommand f .aborted (abortedResults s f)

/-- R129: the abort of the command in flight, by its condition. -/
def State.abortCommand (s : State) : State :=
  match s.host.inFlight with
  | none => s
  | some f =>
    match f.condition with
    | .waiting => (s.withdrawHostStep.endByAbort f).arbitrate
    | .stepping => s.setHost { s.host with inFlight := some { f with abortMark := true } }
    | .ending => s

/-! ### Completing a host step (R117, R119, R127) -/

/-- What a host step hands to the host engine: the end of its command, or what it carries on. -/
inductive StepResult where
  | done (status : Status) (results : List Word)
  | more (p : Progress)
  deriving DecidableEq, Repr

/-- The command whose step is in progress, when it is in this condition. -/
def State.steppingCommand (s : State) : Option InFlight :=
  match s.arbiter.busy, s.host.inFlight with
  | some .host, some f => if f.condition = .stepping then some f else none
  | _, _ => none

/-- R127, R129: the completion of a step of the command in flight: it ends, or is ended by its abort
pending mark, or requests its next step; then the arbiter makes its grant. -/
def State.completeHostStep (s : State) (f : InFlight) : StepResult → State
  | .done status results => (s.freeStore.endCommand f status results).arbitrate
  | .more p =>
    let g := { f with stepsDone := f.stepsDone + 1, progress := p }
    if f.abortMark then (s.freeStore.endByAbort g).arbitrate
    else
      ((s.freeStore.setHost
        { s.host with inFlight := some { g with condition := .waiting } }).requestHostStep).arbitrate

/-- The completion of the step of a single-step command, which is its last (R127). `work` gives the
state at the completion and the response for the commands that this event is the step of; when no
step of such a command is in progress the event does not arise, and nothing changes. -/
def State.singleStep (s : State) (work : HostCommand → Option (State × Status × List Word)) : State :=
  match s.steppingCommand with
  | none => s
  | some f =>
    match work f.command with
    | none => s
    | some (t, status, results) => t.completeHostStep f (.done status results)

/-- The three moments of a single-step command (R119): header, frame, step. -/
def State.singleCommand (s : State) (code : Byte) (judge : List Word → Judged)
    (work : HostCommand → Option (State × Status × List Word)) : CommandPart → State
  | .header length => s.commandFrame code judge (.header length)
  | .received body => s.commandFrame code judge (.received body)
  | .step => s.singleStep work

end Sys2Proof.Machine
end

