-- ==== Sys2Proof/Machine/AttentionCommands.lean ====
section
/-!
DEFINITION. TAKE ATTENTION and PEEK ATTENTION (section 11.3).
-/
namespace Sys2Proof.Machine

/-- R160: the entry chosen: the head of the list, or the first urgent entry. -/
def chosenEntry (urgentOnly : Bool) (es : List AttentionEntry) : Option AttentionEntry :=
  if urgentOnly then es.find? AttentionEntry.urgent else es.head?

/-- R160: the list without the entry chosen. -/
def withoutChosen (urgentOnly : Bool) (es : List AttentionEntry) : List AttentionEntry :=
  if urgentOnly then es.eraseP AttentionEntry.urgent else es.tail

/-- The step of TAKE ATTENTION (R160). -/
def takeAttentionStep (s : State) : HostCommand → Option (State × Status × List Word)
  | .takeAttention urgentOnly =>
    match chosenEntry urgentOnly s.store.attention with
    | none => some (s, .empty, [])
    | some e =>
      let rest := withoutChosen urgentOnly s.store.attention
      some ((s.setAttention rest).refreshLines, .ok, attentionWords e rest)
  | _ => none

/-- TAKE ATTENTION (R160). -/
def execTakeAttention (part : CommandPart) (s : State) : Host.Outcome State Fault Refusal :=
  .next (s.singleCommand 0x18 judgeTakeAttention (takeAttentionStep s) part)

/-- The step of PEEK ATTENTION (R161). -/
def peekAttentionStep (s : State) : HostCommand → Option (State × Status × List Word)
  | .peekAttention urgentOnly =>
    match chosenEntry urgentOnly s.store.attention with
    | none => some (s, .empty, [])
    | some e => some (s, .ok, attentionWords e s.store.attention)
  | _ => none

/-- PEEK ATTENTION (R161). -/
def execPeekAttention (part : CommandPart) (s : State) : Host.Outcome State Fault Refusal :=
  .next (s.singleCommand 0x19 judgePeekAttention (peekAttentionStep s) part)

end Sys2Proof.Machine
end

