-- ==== Sys2Proof/Machine/Undetermined.lean ====
section
/-!
DEFINITION. The free value for a state the specification calls undetermined (Config's free values
stand before State; this one needs its type).
-/
namespace Sys2Proof

/-- FREE VALUE (log entry 2). "A release after a shorter assertion leaves the part's state undetermined
until the next full assertion" (R168): any state at all may follow, and nothing can be proved of it. -/
opaque Config.undeterminedState : Machine.State → Machine.State

end Sys2Proof
end

