-- ==== Sys2Proof/Machine/Channel.lean ====
section
/-!
DEFINITION. Power-on reset, the host-channel reset line, and the events of the channel that are no
store-step command: bad frames, reading a response, READ STATUS and ABORT (chapters 8 and 12).
-/
namespace Sys2Proof.Machine

/-! ### Reset -/

/-- R168: every block of `t` is the part's; what is outside it stays as it is in `s`: the events that wait,
and the level of the host-channel reset line (log entry 3). The power-on reset pin has the level `asserted`. -/
def State.withPins (s t : State) (asserted : Bool) : State :=
  { t with
    host := { t.host with lineHeld := s.host.lineHeld }
    resetHeld := asserted
    pending := s.pending }

/-- R168: the power-on reset pin is asserted: it holds every block in reset (log entry 21). -/
def State.assertPowerOn (s : State) : State := s.withPins State.reset true

/-- R168: the power-on reset pin is released, after this many microseconds with the clock running. Every block
takes its reset value; after a shorter assertion than 10 µs the state is undetermined (log entry 2). -/
def State.releasePowerOn (s : State) (heldMicros : Nat) : State :=
  s.withPins (if Config.powerOnMicros ≤ heldMicros then State.reset else Config.undeterminedState s) false

/-- POWER ON RESET (R168). -/
def execPowerOnReset (part : PowerOnPart) (s : State) : Host.Outcome State Fault Refusal :=
  .next (match part with
    | .asserted => s.assertPowerOn
    | .released heldMicros => s.releasePowerOn heldMicros)

/-- R131: the assertion of the host-channel reset line: the frame in reception and the response queue are
discarded, and the command in flight is aborted without a response. -/
def State.assertHostReset (s : State) : State :=
  if s.host.lineHeld then s
  else
    (s.setHost
      { inFlight := s.host.inFlight.map fun f => { f with silent := true }
        responses := [], reception := none, lineHeld := true }).abortCommand

/-- HOST CHANNEL RESET: the line is asserted (R131). -/
def execHostChannelReset (s : State) : Host.Outcome State Fault Refusal := .next s.assertHostReset

/-- R131: the host engine takes frames again. -/
def State.releaseHostReset (s : State) : State := s.setHost { s.host with lineHeld := false }

/-- HOST CHANNEL RESET RELEASE (R131). -/
def execHostChannelResetRelease (s : State) : Host.Outcome State Fault Refusal := .next s.releaseHostReset

/-! ### Frames that are no command, and reading -/

/-- R125, first stage: a received frame whose code names no command is answered BAD_FRAME, with the code
as received. -/
def State.refuseCode (s : State) (code : Byte) : State :=
  if codeAssigned code then s else s.respond code .badFrame []

/-- R124: the reception of a frame is cut short. Where no header has come before, it comes in this event. -/
def State.truncateFrame (s : State) (code : Byte) : State :=
  if s.channelHeld then s
  else if s.host.reception.isSome then s.truncateReception
  else (s.beginFrame code 1).truncateReception

/-- BAD FRAME (R124, R125). -/
def execBadFrame (part : BadFramePart) (s : State) : Host.Outcome State Fault Refusal :=
  .next (match part with
    | .header code length => s.takePart code (fun _ t => t.refuseCode code) (.header length)
    | .received code body => s.takePart code (fun _ t => t.refuseCode code) (.received body)
    | .truncated code => s.truncateFrame code)

/-- R124, R126: the host sets the direction line toward itself and reads this many words. A frame in
reception is truncated; the response at the head leaves the queue when its last word has been read. -/
def State.readWords (s : State) (words : Nat) : State :=
  if s.channelHeld then s
  else
    let s1 := s.truncateReception
    match s1.host.responses with
    | [] => s1
    | r :: rest =>
      if r.words.length ≤ words then s1.setHost { s1.host with responses := rest } else s1

/-- READ RESPONSE (R126). -/
def execReadResponse (words : Nat) (s : State) : Host.Outcome State Fault Refusal :=
  .next (s.readWords words)

/-! ### The commands without a store step -/

/-- A frame of a command without a store step: its body must be empty (R125). -/
def State.bareCommand (s : State) (code : Byte) (work : State → State) : FramePart → State :=
  s.takePart code fun body t => if body = [] then work t else t.respond code .badFrame []

/-- R135: READ STATUS is answered when its frame is received. -/
def State.answerStatus (s : State) : State := s.respond 0x1A .ok (statusWords s)

/-- READ STATUS (R135). -/
def execReadStatus (part : FramePart) (s : State) : Host.Outcome State Fault Refusal :=
  .next (s.bareCommand 0x1A State.answerStatus part)

/-- R129: ABORT is answered, and then acts on the command in flight. -/
def State.takeAbort (s : State) : State :=
  match s.host.inFlight with
  | none => s.respond 0x1C .nothingToAbort []
  | some _ => (s.respond 0x1C .ok []).abortCommand

/-- ABORT (R129). -/
def execAbort (part : FramePart) (s : State) : Host.Outcome State Fault Refusal :=
  .next (s.bareCommand 0x1C State.takeAbort part)

end Sys2Proof.Machine
end

