-- ==== Sys2Proof/Machine/Clearing.lean ====
section
/-!
DEFINITION. CLEAR OUTLET and RESET DIRECTORY as long commands (chapter 10).
-/
namespace Sys2Proof.Machine

/-! ### CLEAR OUTLET -/

/-- CLEAR OUTLET, its frame (R148). -/
def execClearOutlet (part : FramePart) (s : State) : Host.Outcome State Fault Refusal :=
  .next (s.commandFrame 0x0D judgeClearOutlet part)

/-- The outlet that the command in flight clears. -/
def clearingOutlet : HostCommand → Option OutletId
  | .clearOutlet k => some k
  | _ => none

/-- R148: the entry that the start step leaves: the flag set with the counter as the boundary, and the
foreign count 0. -/
def OutletEntry.startClearing (o : OutletEntry) : OutletEntry :=
  { o with clearing := some o.arrivalCounter, foreign := 0 }

/-- The start step of CLEAR OUTLET (R148). -/
def State.clearStart (s : State) : State :=
  match s.steppingCommand with
  | none => s
  | some f =>
    match clearingOutlet f.command, f.stepsDone with
    | some k, 0 =>
      if (s.outlet k).definition = none then s.completeHostStep f (.done .wrongState [])
      else
        (commit s (s.setOutlet k (s.outlet k).startClearing) []).completeHostStep f
          (.more { f.progress with foreignAside := (s.outlet k).foreign })
    | _, _ => s

/-- CLEAR OUTLET's start step (R148). -/
def execClearOutletStartStep (s : State) : Host.Outcome State Fault Refusal := .next s.clearStart

/-- R150: the record that a clearing of this outlet retires next: the head of the content list, when its
arrival ordinal lies below the boundary. -/
def State.toRetire (s : State) (k : OutletId) : Option ItemRecord :=
  match (s.outlet k).content, (s.outlet k).clearing with
  | ref :: _, some boundary =>
    if (s.arrivalOf ref).toNat < boundary.toNat then s.record? ref else none
  | _, _ => none

/-- A retiring step of CLEAR OUTLET (R150). -/
def State.clearRetire (s : State) : State :=
  match s.steppingCommand with
  | none => s
  | some f =>
    match clearingOutlet f.command, f.stepsDone with
    | some k, _ + 1 =>
      match s.toRetire k with
      | none => s
      | some r =>
        (commit s (s.retireRecord r) []).completeHostStep f
          (.more { f.progress with retired := f.progress.retired + 1 })
    | _, _ => s

/-- CLEAR OUTLET's retiring step (R150). -/
def execClearOutletRetiringStep (s : State) : Host.Outcome State Fault Refusal := .next s.clearRetire

/-- R150, R152: the words that follow the status at the end of a clearing: the number retired, the
boundary and the foreign count set aside. -/
def clearingWords (s : State) (k : OutletId) (f : InFlight) : List Word :=
  [word f.progress.retired] ++ words32 ((s.outlet k).clearing.getD 0) ++ [word f.progress.foreignAside]

/-- R150, R152: the state with the clearing flag cleared and the boundary discarded. -/
def State.stopClearing (s : State) (k : OutletId) : State :=
  s.setOutlet k { s.outlet k with clearing := none }

/-- The finish step of CLEAR OUTLET (R150). -/
def State.clearFinish (s : State) : State :=
  match s.steppingCommand with
  | none => s
  | some f =>
    match clearingOutlet f.command, f.stepsDone with
    | some k, _ + 1 =>
      match s.toRetire k with
      | some _ => s
      | none =>
        (commit s (s.stopClearing k) [(.outlet k, .clearDone)]).completeHostStep f
          (.done .ok (clearingWords s k f))
    | _, _ => s

/-- CLEAR OUTLET's finish step (R150). -/
def execClearOutletFinishStep (s : State) : Host.Outcome State Fault Refusal := .next s.clearFinish

/-- The command whose ending step is in progress (R130). -/
def State.endingCommand (s : State) : Option InFlight :=
  match s.arbiter.busy, s.host.inFlight with
  | some .host, some f => if f.condition = .ending then some f else none
  | _, _ => none

/-- The ending step of an aborted clearing (R152). -/
def State.clearEnding (s : State) : State :=
  match s.endingCommand with
  | none => s
  | some f =>
    match clearingOutlet f.command with
    | none => s
    | some k =>
      (commit s (s.stopClearing k) []).completeHostStep f (.done .aborted (clearingWords s k f))

/-- CLEAR OUTLET's ending step (R152). -/
def execClearOutletEndingStep (s : State) : Host.Outcome State Fault Refusal := .next s.clearEnding

/-! ### RESET DIRECTORY -/

/-- RESET DIRECTORY, its frame (R153). -/
def execResetDirectory (part : FramePart) (s : State) : Host.Outcome State Fault Refusal :=
  .next (s.commandFrame 0x1B judgeResetDirectory part)

/-- R153: whether every lane is STOPPED. -/
def State.allStopped (s : State) : Bool := allLanes.all fun l => decide ((s.lane l).state = .stopped)

/-- R153: the first step refuses the command unless every lane is STOPPED. -/
def State.resetRefused (s : State) (f : InFlight) : Bool := decide (f.stepsDone = 0) && !s.allStopped

/-- The step of RESET DIRECTORY that is in progress. -/
def State.resettingCommand (s : State) : Option InFlight :=
  match s.steppingCommand with
  | some f => if f.command = .resetDirectory then some f else none
  | none => none

/-- A retiring step of RESET DIRECTORY (R153), which as the first step may refuse the command. The records
stand in ascending slot, so the lowest slot in use is the head's. -/
def State.resetRetire (s : State) : State :=
  match s.resettingCommand with
  | none => s
  | some f =>
    if s.resetRefused f then s.completeHostStep f (.done .laneNotStopped [])
    else
      match s.store.records with
      | [] => s
      | r :: _ =>
        (commit s (s.retireRecord r) []).completeHostStep f
          (.more { f.progress with retired := f.progress.retired + 1 })

/-- RESET DIRECTORY's retiring step (R153). -/
def execResetDirectoryRetiringStep (s : State) : Host.Outcome State Fault Refusal := .next s.resetRetire

/-- R154: a defined outlet at the finish step; its content list is already empty, every record having been
retired. -/
def OutletEntry.finishReset (o : OutletEntry) : OutletEntry :=
  if o.definition.isSome then { o with held := 0, content := [], foreign := 0, arrivalCounter := 0 } else o

/-- R154: a cursor at the finish step. -/
def Cursor.finishReset (c : Cursor) : Cursor := { c with position := .beforeFirst, slipped := false }

/-- R154: what the finish step of RESET DIRECTORY does to the record store and the lines. -/
def State.finishReset (s : State) : State :=
  (s.setStore
    { s.store with
      outlets := s.store.outlets.map OutletEntry.finishReset
      attention := []
      cursors := s.store.cursors.map Cursor.finishReset }).refreshLines

/-- The finish step of RESET DIRECTORY (R154). -/
def State.resetFinish (s : State) : State :=
  match s.resettingCommand with
  | none => s
  | some f =>
    if s.resetRefused f then s
    else
      match s.store.records with
      | _ :: _ => s
      | [] => s.finishReset.completeHostStep f (.done .ok [word f.progress.retired])

/-- RESET DIRECTORY's finish step (R154). -/
def execResetDirectoryFinishStep (s : State) : Host.Outcome State Fault Refusal := .next s.resetFinish

end Sys2Proof.Machine
end

