-- ==== Sys2Proof/Machine/Rules.lean ====
section
/-!
DEFINITION. The rule table (section 3.6): matching a key (R67, R68), WRITE RULE and READ RULE.
-/
namespace Sys2Proof.Machine

/-- R67: at every cared position that the key has, the key's byte equals the pattern byte. -/
def positionsMatch : List (Option Byte) → Key → Bool
  | [], _ => true
  | _, [] => true
  | none :: ps, _ :: bs => positionsMatch ps bs
  | some p :: ps, b :: bs => decide (p = b) && positionsMatch ps bs

/-- R67: whether a key matches a key pattern. -/
def keyMatches (p : KeyPattern) (k : Key) : Bool :=
  decide (p.minLength ≤ k.length ∧ k.length ≤ p.maxLength) && positionsMatch p.positions k

/-- The 128 rules in ascending number. -/
def allRules : List RuleId := List.finRange 128

/-- R68: the rule of the highest priority among these, the lowest number among equals, given that the list
ascends. -/
def bestRule (priority : RuleId → Nat) : List RuleId → Option RuleId
  | [] => none
  | n :: ns =>
    match bestRule priority ns with
    | none => some n
    | some m => if priority n < priority m then some m else some n

/-- R68: the winner among the enabled rules whose pattern the key matches. -/
def State.matchRule (s : State) (k : Key) : Option RuleId :=
  bestRule (fun n => (s.rule n).priority)
    (allRules.filter fun n => (s.rule n).enabled && keyMatches (s.rule n).pattern k)

/-- The step of WRITE RULE (R69). -/
def writeRuleStep (s : State) : HostCommand → Option (State × Status × List Word)
  | .writeRule n entry => some (s.setRule n entry, .ok, [])
  | _ => none

/-- WRITE RULE (R69). -/
def execWriteRule (part : CommandPart) (s : State) : Host.Outcome State Fault Refusal :=
  .next (s.singleCommand 0x11 judgeWriteRule (writeRuleStep s) part)

/-- The step of READ RULE (R70). -/
def readRuleStep (s : State) : HostCommand → Option (State × Status × List Word)
  | .readRule n => some (s, .ok, ruleWords (s.rule n))
  | _ => none

/-- READ RULE (R70). -/
def execReadRule (part : CommandPart) (s : State) : Host.Outcome State Fault Refusal :=
  .next (s.singleCommand 0x12 judgeReadRule (readRuleStep s) part)

end Sys2Proof.Machine
end

