-- ==== Sys2Proof/Machine/CursorCommands.lean ====
section
/-!
DEFINITION. The host commands on cursors: SET CURSOR, READ ITEM by cursor, SEARCH and its step
(chapter 9).
-/
namespace Sys2Proof.Machine

/-! ### SET CURSOR -/

/-- R138: the response of SET CURSOR by the position it has set: OK with the record's slot and serial, or
END with the position. -/
def placementResponse : Position → Status × List Word
  | .record ref => (.ok, refWords ref)
  | p => (.endOfView, positionWords p)

/-- R138: AT_KEY: the first member whose key equals the key given or follows it in key order. -/
def State.atOrAfterKey (s : State) (k : Key) (ref : Ref) : Bool :=
  match s.record? ref with
  | some r => !keyBefore r.key k
  | none => false

/-- R138: the cursor set to a view and a position, its flag clear, and the response. -/
def State.placed (s : State) (c : CursorId) (v : View) (p : Position) : Option (State × Status × List Word) :=
  some (s.setCursor c { view := v, position := p, slipped := false }, placementResponse p)

/-- The step of SET CURSOR (R138). -/
def setCursorStep (s : State) : HostCommand → Option (State × Status × List Word)
  | .setCursor c v .first => s.placed c v (positionAtHead (s.members v))
  | .setCursor c v .last => s.placed c v (positionAtHeadBack (s.members v).reverse)
  | .setCursor c v (.atKey k) => s.placed c v (positionAtHead ((s.members v).filter (s.atOrAfterKey k)))
  | .setCursor c v (.atRecord d) =>
    match s.designated? d with
    | none => some (s, .notFound, [])
    | some r => if r.ref ∈ s.members v then s.placed c v (.record r.ref) else some (s, .notMember, [])
  | _ => none

/-- SET CURSOR (R138). -/
def execSetCursor (part : CommandPart) (s : State) : Host.Outcome State Fault Refusal :=
  .next (s.singleCommand 0x16 judgeSetCursor (setCursorStep s) part)

/-! ### READ ITEM by cursor -/

/-- R139: where a cursor's step takes it. -/
def State.cursorMove (s : State) (c : Cursor) : CursorStep → Position
  | .next => s.nextPosition c
  | .prev => s.prevPosition c
  | .hold => c.position

/-- R140: what the access returns of a record. -/
def accessWords (r : ItemRecord) : CursorAccess → List Word
  | .read => recordWords r
  | .skip => recordSummary r

/-- R140: the response by the position the cursor ends on, after the value of its flag at the start. -/
def cursorResponse (s : State) (slipped : Bool) (access : CursorAccess) : Position → Status × List Word
  | .record ref =>
    match s.record? ref with
    | some r => (.ok, flagWord slipped :: accessWords r access)
    | none => (.endOfView, flagWord slipped :: positionWords .afterLast)
  | p => (.endOfView, flagWord slipped :: positionWords p)

/-- The step of READ ITEM by cursor (R139, R140). -/
def readItemByCursorStep (s : State) : HostCommand → Option (State × Status × List Word)
  | .readItemByCursor c step access =>
    let p := s.cursorMove (s.cursor c) step
    some (s.placeCursor c p, cursorResponse s (s.cursor c).slipped access p)
  | _ => none

/-- READ ITEM by cursor (R139, R140). -/
def execReadItemByCursor (part : CommandPart) (s : State) : Host.Outcome State Fault Refusal :=
  .next (s.singleCommand 0x03 judgeReadItem (readItemByCursorStep s) part)

/-! ### SEARCH -/

/-- SEARCH, its frame (R143). -/
def execSearch (part : FramePart) (s : State) : Host.Outcome State Fault Refusal :=
  .next (s.commandFrame 0x17 judgeSearch part)

/-- R143: a test of a field that may be absent. -/
def fieldTestMet [DecidableEq α] (field : Option α) : FieldTest α → Bool
  | .absent => field.isNone
  | .present => field.isSome
  | .value v => decide (field = some v)

/-- Whether a record's origin is RULE. -/
def originIsRule : Origin → Bool
  | .manifest => false
  | .rule _ => true

/-- R143: whether a record meets a condition. -/
def conditionMet (r : ItemRecord) : Condition → Bool
  | .key p => keyMatches p r.key
  | .state states => decide (stateKind r.state ∈ states)
  | .origin fromRule => decide (originIsRule r.origin = fromRule)
  | .ruleNumber n => decide (r.origin = .rule n)
  | .destination g => decide (r.destination = g)
  | .hold t => fieldTestMet r.hold t
  | .hostTag t => fieldTestMet r.hostTag t
  | .lane l => decide (r.lane = some l)
  | .laps n => decide (n ≤ r.laps)
  | .stray => strayField r.state
  | .pending => (pendingField r.state).isSome

/-- R143: whether a record meets every condition of a search. -/
def searchMet (q : SearchQuery) (r : ItemRecord) : Bool := q.conditions.all (conditionMet r)

/-- R144: where the first step places the cursor, by the start. -/
def State.searchStart (s : State) (q : SearchQuery) : Position :=
  let c := s.cursor q.cursor
  if q.startNext then s.nextPosition c
  else
    match c.position with
    | .beforeFirst => positionAtHead (s.members c.view)
    | p => p

/-- R145: a search ends: its response carries the status, the count examined and the slip, and what the
status adds; the last step clears the flag. -/
def searchEnds (s : State) (q : SearchQuery) (f : InFlight) (p : Position) (status : Status)
    (examined : Nat) (results : List Word) : State :=
  (s.placeCursor q.cursor p).completeHostStep f
    (.done status ([word examined, flagWord (s.cursor q.cursor).slipped] ++ results))

/-- R144: one step of a search on the cursor's position `p`. The cursor's flag in `s` is the one the
response reports. -/
def searchExamine (s : State) (q : SearchQuery) (f : InFlight) (p : Position) : State :=
  let examined := f.progress.examined + 1
  match p with
  | .record ref =>
    match s.record? ref with
    | none => searchEnds s q f .afterLast .endOfView f.progress.examined []
    | some r =>
      if searchMet q r then searchEnds s q f (.record ref) .ok examined (recordSummaryForSearch r)
      else
        match positionAtHead (following ref (s.members (s.cursor q.cursor).view)) with
        | .record next =>
          if examined = q.limit then searchEnds s q f (.record next) .limit examined (refWords next)
          else
            (s.moveCursor q.cursor (.record next)).completeHostStep f
              (.more { f.progress with examined := examined })
        | p => searchEnds s q f p .endOfView examined []
  | p => searchEnds s q f p .endOfView f.progress.examined []
where
  /-- R145: slot, serial, state and revision of the record found. -/
  recordSummaryForSearch (r : ItemRecord) : List Word :=
    refWords r.ref ++ [word (stateNumber (stateKind r.state)), r.revision]

/-- SEARCH's step (R144). The first step places the cursor and clears its flag before it examines. -/
def State.searchStep (s : State) : State :=
  match s.steppingCommand with
  | none => s
  | some f =>
    match f.command with
    | .search q =>
      if f.stepsDone = 0 then
        let p := s.searchStart q
        searchExamine (s.placeCursor q.cursor p) q f p
      else searchExamine s q f (s.cursor q.cursor).position
    | _ => s

/-- SEARCH's step (R144 to R146). -/
def execSearchStep (s : State) : Host.Outcome State Fault Refusal := .next s.searchStep

end Sys2Proof.Machine
end

