-- ==== Sys2Proof/Machine/Selection.lean ====
section
/-!
DEFINITION. Selection of an outlet for a record (section 2.6), the choice of its group (R58) and the
route (R60, R61).
-/
namespace Sys2Proof.Machine

/-- R35: the outcomes of selection. -/
inductive SelectionOutcome where
  | primary
  | overflow
  | noOutlet
  | rejectGroup
  deriving DecidableEq, Repr, Inhabited

/-- R26, R86: the load of an outlet as selection sees it; one place of `givenUp` counts as given up. -/
def State.loadSeen (s : State) (givenUp : Option OutletId) (k : OutletId) : Nat :=
  if givenUp = some k then (s.outlet k).load - 1 else (s.outlet k).load

/-- R35: the candidates of a group on a lane, in ascending number: its members that are defined on the
lane and OPEN. -/
def State.candidates (s : State) (g : GroupId) (l : Lane) (givenUp : Option OutletId) : List OutletId :=
  allOutlets.filter fun k =>
    decide (k ∈ (s.group g).members) && (s.outlet k).definedOn l &&
      decide ((s.outlet k).stateWithLoad (s.loadSeen givenUp k) = .opened)

/-- R38: the candidate of the smallest load, the lowest number among equals. -/
def leastLoaded (load : OutletId → Nat) : List OutletId → Option OutletId
  | [] => none
  | k :: ks =>
    match leastLoaded load ks with
    | none => some k
    | some j => if load j < load k then some j else some k

/-- R36, R37, R38: the candidate a group's policy chooses on a lane, and R37's pointer set to it. -/
def State.choose (s : State) (g : GroupId) (l : Lane) (givenUp : Option OutletId) :
    Option (OutletId × State) :=
  let e := s.group g
  let cs := s.candidates g l givenUp
  match e.policy with
  | .first => cs.head?.map fun k => (k, s)
  | .least => (leastLoaded (s.loadSeen givenUp) cs).map fun k => (k, s)
  | .rotate =>
    match cs.find? fun k => decide (e.pointers[l] < outletNumber k), cs.head? with
    | some k, _ | none, some k =>
      some (k, s.setGroup g { e with pointers := e.pointers.set l.val (outletNumber k) l.isLt })
    | none, none => none

/-- R35, R39: selection on a lane from a starting group: the place, the outcome, and the state with the
rotation pointer that a ROTATE policy has set. -/
def State.select (s : State) (l : Lane) (g : Destination) (givenUp : Option OutletId) :
    Place × SelectionOutcome × State :=
  match destinationGroup g with
  | none => (.bin, .rejectGroup, s)
  | some e =>
    match s.choose e l givenUp with
    | some (k, t) => (.outlet k, .primary, t)
    | none =>
      match (s.group e).overflow with
      | none => (.bin, .noOutlet, s)
      | some h =>
        match s.choose h l givenUp with
        | some (k, t) => (.outlet k, .overflow, t)
        | none => (.bin, .noOutlet, s)

/-- R58: what the choice of the group comes to: the bin by the lap test, or a starting group. -/
inductive GroupChoice where
  | lapLimit
  | hold (g : Destination)
  | destination (g : Destination)
  deriving DecidableEq, Repr

/-- R58: the lap test, then the hold, then the destination. -/
def chooseGroup (lapLimit : Nat) (holdGroup : Destination) (r : ItemRecord) : GroupChoice :=
  if lapLimit ≤ r.laps then .lapLimit
  else if r.hold.isSome then .hold holdGroup
  else .destination r.destination

/-- R61: the lane unit after a routing step has issued its counter's value. -/
def LaneUnit.issueOrdinal (u : LaneUnit) : LaneUnit :=
  if u.ordinalCounter = Config.lastOrdinal then
    { u with exhausted := true, state := if u.state = .running then .draining else u.state }
  else { u with ordinalCounter := u.ordinalCounter + 1 }

/-- R61: the reason of a step that issues the last ordinal. -/
def LaneUnit.exhaustReasons (u : LaneUnit) (l : Lane) : List (Subject × Reason) :=
  if u.ordinalCounter = Config.lastOrdinal then [(.lane l, .ordinalExhausted)] else []

/-- R60: a record is routed to a place on a lane: it takes the lane's next ordinal and joins the tail of
the place's expected list. -/
def State.route (s : State) (l : Lane) (ref : Ref) (p : Place) : State :=
  let u := s.lane l
  let s1 := (s.appendExpected l p ref).setLane l u.issueOrdinal
  (s1.updateRecord ref fun r => { r with lane := some l }).changeState ref
    (.routed p u.ordinalCounter none)

/-- What a LOOKUP step comes to: the place and reason of its ANSWER (R63) and the state at its
completion. -/
structure LookupResult where
  place : Place
  reason : AnswerReason
  state : State

/-- R63: the reason of a routed record by the outcome of selection; `primary` is the reason that
PRIMARY and REJECT_GROUP give. -/
def answerReason (primary : AnswerReason) : SelectionOutcome → AnswerReason
  | .primary | .rejectGroup => primary
  | .overflow => .overflow
  | .noOutlet => .noOutlet

/-- R60 with selection (R35) from a starting group. `before` is the state at the start of the step, `s`
the state with the record taken out of its old list. -/
def routeFromGroup (before s : State) (l : Lane) (ref : Ref) (g : Destination) (primary : AnswerReason) :
    LookupResult :=
  match s.select l g none with
  | (p, outcome, t) =>
    { place := p, reason := answerReason primary outcome,
      state := commit before (t.route l ref p) ((s.lane l).exhaustReasons l) }

/-- R58 to R60: a found record is routed on a lane by the group choice. -/
def routeRecord (before s : State) (l : Lane) (r : ItemRecord) (lapLimit : Nat) (holdGroup : Destination) :
    LookupResult :=
  match chooseGroup lapLimit holdGroup r with
  | .lapLimit =>
    { place := .bin, reason := .lapLimit,
      state := commit before (s.route l r.ref .bin)
        ((.item r.ref, .lapLimit) :: (s.lane l).exhaustReasons l) }
  | .hold g => routeFromGroup before s l r.ref g .held
  | .destination g => routeFromGroup before s l r.ref g .direct

end Sys2Proof.Machine
end

