-- ==== Sys2Proof/Machine/Items.lean ====
section
/-!
DEFINITION. The host commands on item records: CREATE ITEM, LOAD MANIFEST and its item step, READ ITEM,
AMEND ITEM, RESTORE ITEM, RETIRE ITEM (chapters 1, 5 and 8).
-/
namespace Sys2Proof.Machine

/-! ### Creating -/

/-- R12, R13: the creation of one item in a step: its outcome, and the state at the completion. -/
def State.createItem (s : State) (d : ItemDefinition) : ManifestOutcome × State :=
  match s.recordOfKey? d.key with
  | some _ => (.existing, s)
  | none =>
    match s.lowestFreeSlot with
    | none => (.full, s)
    | some slot =>
      (.created { slot := slot, serial := s.store.serialCounter },
        commit s (s.createRecord slot .manifest d) [])

/-- R13: the response of CREATE ITEM; a created record is at revision 0. -/
def createResponse : ManifestOutcome → Status × List Word
  | .created ref => (.ok, refWords ref ++ [0])
  | .existing => (.existing, [])
  | .full => (.full, [])

/-- The step of CREATE ITEM (R12, R13). -/
def createItemStep (s : State) : HostCommand → Option (State × Status × List Word)
  | .createItem d => some ((s.createItem d).2, createResponse (s.createItem d).1)
  | _ => none

/-- CREATE ITEM (R12, R13). -/
def execCreateItem (part : CommandPart) (s : State) : Host.Outcome State Fault Refusal :=
  .next (s.singleCommand 0x01 judgeCreateItem (createItemStep s) part)

/-- LOAD MANIFEST, its frame (R132). -/
def execLoadManifest (part : FramePart) (s : State) : Host.Outcome State Fault Refusal :=
  .next (s.commandFrame 0x02 judgeLoadManifest part)

/-- R133: after an item's outcome the command requests its next step, or ends with every outcome. -/
def manifestResult (f : InFlight) (items : List ItemDefinition) (outcome : ManifestOutcome) : StepResult :=
  let outcomes := f.progress.outcomes ++ [outcome]
  if outcomes.length < items.length then .more { f.progress with outcomes := outcomes }
  else .done .ok (outcomesWords outcomes)

/-- One item step of LOAD MANIFEST (R133). The item is the one after those whose outcome is recorded. -/
def State.loadManifestItem (s : State) : State :=
  match s.steppingCommand with
  | none => s
  | some f =>
    match f.command with
    | .loadManifest items =>
      match items[f.progress.outcomes.length]? with
      | none => s
      | some d =>
        let r := s.createItem d
        r.2.completeHostStep f (manifestResult f items r.1)
    | _ => s

/-- LOAD MANIFEST's item step (R133). -/
def execLoadManifestItemStep (s : State) : Host.Outcome State Fault Refusal := .next s.loadManifestItem

/-! ### Reading -/

/-- The step of READ ITEM by slot and serial or by key (R15). -/
def readItemStep (s : State) : HostCommand → Option (State × Status × List Word)
  | .readItem d =>
    match s.designated? d with
    | none => some (s, .notFound, [])
    | some r => some (s, .ok, recordWords r)
  | _ => none

/-- READ ITEM (R15). -/
def execReadItem (part : CommandPart) (s : State) : Host.Outcome State Fault Refusal :=
  .next (s.singleCommand 0x03 judgeReadItem (readItemStep s) part)

/-! ### Amending -/

/-- R17: one named change applied to a record. -/
def applyChange (r : ItemRecord) : Change → ItemRecord
  | .destination g => { r with destination := g }
  | .setHold n => { r with hold := some n }
  | .clearHold => { r with hold := none }
  | .setTag t => { r with hostTag := some t }
  | .clearTag => { r with hostTag := none }

/-- R17: every named change applied. -/
def applyChanges (cs : List Change) (r : ItemRecord) : ItemRecord := cs.foldl applyChange r

/-- R85: whether the changes make the step weigh a redirection: the destination has changed, or the hold
has become present or absent. -/
def weighsRedirection (old new : ItemRecord) : Bool :=
  decide (new.destination ≠ old.destination) || decide (new.hold.isSome ≠ old.hold.isSome)

/-- The outlet of a place, whose own reservation the redirection selection takes as given up (R86). -/
def placeOutlet : Place → Option OutletId
  | .bin => none
  | .outlet k => some k

/-- R86: the redirection selection for an amended record on its lane: the place, and the state with the
rotation pointer that a ROTATE policy has set. -/
def State.redirect (s : State) (l : Lane) (r : ItemRecord) (assigned : Place) : Place × State :=
  let u := s.lane l
  match chooseGroup u.lapLimit u.holdGroup r with
  | .lapLimit => (.bin, s)
  | .hold g | .destination g =>
    match s.select l g (placeOutlet assigned) with
    | (p, _, t) => (p, t)

/-- R87: whether a revise item stands on the internal work list. -/
def isReviseItem : WorkItem → Bool
  | .revise _ => true
  | _ => false

/-- R88: whether an entry is WAITING. -/
def isWaiting (e : ReviseEntry) : Bool := decide (e.condition = .waiting)

/-- R87: whether a lane may issue one revision more. -/
def LaneUnit.mayRevise (u : LaneUnit) : Bool :=
  decide (u.pendingCount < Config.reviseLimit) &&
    decide (u.reviseEntries.countP isWaiting + u.workList.countP isReviseItem < Config.reviseLimit)

/-- R87, R101: at most 8 REVISEs stand in the outbound queue. Where 8 stand there already, the one being sent, whose
revision has been cleared, gives up its place in the queue and is finished outside it (DESIGN CHOICE, log entry
18). -/
def LaneUnit.roomForRevise (u : LaneUnit) : LaneUnit :=
  if u.beingSent.any (fun m => m.reviseOrdinal.isSome) ∧
      Config.reviseLimit ≤ u.outbound.countP (fun m => m.reviseOrdinal.isSome) then
    { u with outbound := u.unsent, sending := false, finishing := u.outbound.head? }
  else u

/-- R87: the lane unit that issues a revision: its count rises, a WAITING entry opens with its timer, and
REVISE joins the outbound queue. -/
def LaneUnit.issueRevise (u : LaneUnit) (ref : Ref) (ordinal : Word32) (target : Place) (expiry : Word32) :
    LaneUnit :=
  let v := u.roomForRevise
  { v with
    pendingCount := u.pendingCount + 1
    reviseEntries := u.reviseEntries ++
      [{ ref := ref, ordinal := ordinal, target := target, expiry := expiry, condition := .waiting }]
    outbound := v.outbound ++ [.revise ordinal target] }

/-- R87 steps 1 to 3: a revision of a ROUTED record is issued. -/
def State.issueRevision (s : State) (l : Lane) (ref : Ref) (assigned : Place) (ordinal : Word32)
    (target : Place) : State :=
  let u := s.lane l
  (s.updateRecord ref fun r => { r with state := .routed assigned ordinal (some target) }).setLane l
    (u.issueRevise ref ordinal target (expiryAfter s.timebase u.reviseWindow))

/-- The revision of a record as it stands. -/
def State.revisionOf (s : State) (ref : Ref) : Word :=
  match s.record? ref with
  | some r => r.revision
  | none => 0

/-- The response OK of AMEND ITEM: the revision at the step's completion, the note, and the target when
there is one (R17, R87, R164). -/
def amendOk (s : State) (ref : Ref) (note : Word) (target : Option Place) :
    Option (State × Status × List Word) :=
  some (s, .ok, [s.revisionOf ref, note] ++ (target.map fun p => word (placeNumber p)).toList)

/-- R85 to R87: AMEND ITEM of a ROUTED record without a pending revision. `s1` is the state with the named
changes applied, `r1` the record in it. -/
def amendRouted (before s1 : State) (old r1 : ItemRecord) (assigned : Place) (ordinal : Word32) :
    Option (State × Status × List Word) :=
  match old.lane, weighsRedirection old r1 with
  | some l, true =>
    match s1.redirect l r1 assigned with
    | (target, s2) =>
      if target = assigned then amendOk (commit before s2 []) old.ref 0 none
      else if (s2.lane l).mayRevise then
        amendOk (commit before (s2.issueRevision l old.ref assigned ordinal target) []) old.ref 0 (some target)
      else amendOk (commit before s2 []) old.ref 1 (some target)
  | _, _ => amendOk (commit before s1 []) old.ref 0 none

/-- The step of AMEND ITEM (R17, R85). -/
def amendItemStep (s : State) : HostCommand → Option (State × Status × List Word)
  | .amendItem a =>
    match s.designated? a.designation with
    | none => some (s, .notFound, [])
    | some r =>
      if a.guardRevision.isSome ∧ a.guardRevision ≠ some r.revision then
        some (s, .stale, [r.revision])
      else
        let s1 := s.updateRecord r.ref (applyChanges a.changes)
        match r.state with
        | .routed _ _ (some _) => some (s, .revisePending, [])
        | .routed assigned ordinal none => amendRouted s s1 r (applyChanges a.changes r) assigned ordinal
        | _ => amendOk (commit s s1 []) r.ref 0 none
  | _ => none

/-- AMEND ITEM (R16, R17, R85 to R87). -/
def execAmendItem (part : CommandPart) (s : State) : Host.Outcome State Fault Refusal :=
  .next (s.singleCommand 0x04 judgeAmendItem (amendItemStep s) part)

/-! ### Restoring and retiring -/

/-- R18: a REJECTED or RECIRCULATING record becomes EXPECTED with laps 0 and no lane. -/
def State.restore (s : State) (ref : Ref) : State :=
  (s.updateRecord ref fun r => { r with laps := 0, lane := none }).changeState ref .expected

/-- The step of RESTORE ITEM (R18). -/
def restoreItemStep (s : State) : HostCommand → Option (State × Status × List Word)
  | .restoreItem d =>
    match s.designated? d with
    | none => some (s, .notFound, [])
    | some r =>
      match r.state with
      | .recirculating | .rejected =>
        let t := commit s (s.restore r.ref) []
        some (t, .ok, [t.revisionOf r.ref])
      | .expected | .routed _ _ _ | .sorted _ _ _ => some (s, .wrongState, [])
  | _ => none

/-- RESTORE ITEM (R18). -/
def execRestoreItem (part : CommandPart) (s : State) : Host.Outcome State Fault Refusal :=
  .next (s.singleCommand 0x05 judgeRestoreItem (restoreItemStep s) part)

/-- The step of RETIRE ITEM (R19, R20). -/
def retireItemStep (s : State) : HostCommand → Option (State × Status × List Word)
  | .retireItem d force =>
    match s.designated? d with
    | none => some (s, .notFound, [])
    | some r =>
      if stateKind r.state = .routed ∧ force = false then some (s, .inTransit, [])
      else
        some (commit s (s.retireRecord r) [], .ok,
          refWords r.ref ++ [word (stateNumber (stateKind r.state))])
  | _ => none

/-- RETIRE ITEM (R19, R20). -/
def execRetireItem (part : CommandPart) (s : State) : Host.Outcome State Fault Refusal :=
  .next (s.singleCommand 0x06 judgeRetireItem (retireItemStep s) part)

end Sys2Proof.Machine
end

