-- ==== Sys2Proof/Machine/LaneCommands.lean ====
section
/-!
DEFINITION. The host commands on lanes: START LANE, STOP LANE, SET LANE PARAMETERS, READ LANE
(sections 6.5 and 6.7).
-/
namespace Sys2Proof.Machine

/-- The response OK with the lane state at the completion (R108, R109). -/
def laneOk (s : State) (l : Lane) : Option (State × Status × List Word) :=
  some (s, .ok, [word (laneStateNumber (s.lane l).state)])

/-- The step of START LANE (R108). -/
def startLaneStep (s : State) : HostCommand → Option (State × Status × List Word)
  | .startLane l => laneOk (s.setLane l { s.lane l with state := .running }) l
  | _ => none

/-- START LANE (R108). -/
def execStartLane (part : CommandPart) (s : State) : Host.Outcome State Fault Refusal :=
  .next (s.singleCommand 0x13 judgeStartLane (startLaneStep s) part)

/-- R109: the state that STOP LANE leaves. -/
def State.stopLane (s : State) (l : Lane) : State :=
  match (s.lane l).state with
  | .running =>
    if s.routedCount l = 0 then
      (s.setLane l (s.lane l).reachStopped).noteReasons [(.lane l, .drained)]
    else s.setLane l { s.lane l with state := .draining }
  | .draining | .stopped => s

/-- The step of STOP LANE (R109). -/
def stopLaneStep (s : State) : HostCommand → Option (State × Status × List Word)
  | .stopLane l => laneOk (s.stopLane l) l
  | _ => none

/-- STOP LANE (R109). -/
def execStopLane (part : CommandPart) (s : State) : Host.Outcome State Fault Refusal :=
  .next (s.singleCommand 0x14 judgeStopLane (stopLaneStep s) part)

/-- R114: one parameter replaced. -/
def LaneUnit.setParameter (u : LaneUnit) : Parameter → LaneUnit
  | .decisionWindow n => { u with decisionWindow := n }
  | .reviseWindow n => { u with reviseWindow := n }
  | .lapLimit n => { u with lapLimit := n }
  | .holdGroup g => { u with holdGroup := g }

/-- The step of SET LANE PARAMETERS (R114). -/
def setLaneParametersStep (s : State) : HostCommand → Option (State × Status × List Word)
  | .setLaneParameters l ps => some (s.setLane l (ps.foldl LaneUnit.setParameter (s.lane l)), .ok, [])
  | _ => none

/-- SET LANE PARAMETERS (R114). -/
def execSetLaneParameters (part : CommandPart) (s : State) : Host.Outcome State Fault Refusal :=
  .next (s.singleCommand 0x15 judgeSetLaneParameters (setLaneParametersStep s) part)

/-- The step of READ LANE (R115). -/
def readLaneStep (s : State) : HostCommand → Option (State × Status × List Word)
  | .readLane l => some (s, .ok, laneWords s l)
  | _ => none

/-- READ LANE (R115). -/
def execReadLane (part : CommandPart) (s : State) : Host.Outcome State Fault Refusal :=
  .next (s.singleCommand 0x1D judgeReadLane (readLaneStep s) part)

end Sys2Proof.Machine
end

