-- ==== Sys2Proof/Machine/LaneEngine.lean ====
section
/-!
DEFINITION. The lane units (chapter 6): admission, link faults, taking up work, the completion of a lane
step, and the arrival of a RESTART.
-/
namespace Sys2Proof.Machine

/-- A message is placed at the tail of the outbound queue (R104). -/
def LaneUnit.place (u : LaneUnit) (m : Message) : LaneUnit := { u with outbound := u.outbound ++ [m] }

/-- R100: a link fault is marked: a link-fault notice joins the internal work list, unless one stands on
it already. -/
def LaneUnit.markLinkFault (u : LaneUnit) : LaneUnit :=
  if WorkItem.linkFault ∈ u.workList then u else { u with workList := u.workList ++ [.linkFault] }

/-- R101: a request joins the request queue while fewer than 8 are outstanding; otherwise it is discarded
and a link fault marked. -/
def LaneUnit.accept (u : LaneUnit) (r : Request) : LaneUnit :=
  if u.outstanding < Config.outstandingLimit then { u with requests := u.requests ++ [r] }
  else u.markLinkFault

/-- R50: the reason a LOOKUP is answered with at once in a lane that is not RUNNING. -/
def LaneState.refusal : LaneState → Option AnswerReason
  | .running => none
  | .stopped => some .stopped
  | .draining => some .draining

/-- R103: a lane unit with nothing in hand takes up the oldest item of its internal work list, or else the
request at the head of its queue, and asks for a step; a LOOKUP in a STOPPED or DRAINING lane is
answered at once without one (R50). -/
def State.takeUp (s : State) (l : Lane) : State :=
  let u := s.lane l
  match u.inHand, u.workList, u.requests with
  | some _, _, _ => s
  | none, _ :: _, _ => (s.setLane l { u with inHand := some .workItem }).requestLaneStep l
  | none, [], r :: rest =>
    let serve := (s.setLane l { u with requests := rest, inHand := some (.request r) }).requestLaneStep l
    match r with
    | .lookup _ tag _ _ _ =>
      match u.state.refusal with
      | some reason => s.setLane l ({ u with requests := rest }.place (.answer tag .bin reason none))
      | none => serve
    | .confirm _ _ | .miss _ => serve
  | none, [], [] => s

/-- R103: the lane unit takes up the next thing so many times. -/
def State.takeUpTimes (s : State) (l : Lane) : Nat → State
  | 0 => s
  | n + 1 => (s.takeUp l).takeUpTimes l n

/-- R103: the lane unit takes up the next thing until it has one in hand or none waits: after a LOOKUP answered
at once (R50) it has nothing in hand. One request more than wait is enough. -/
def State.takeUpAll (s : State) (l : Lane) : State := s.takeUpTimes l ((s.lane l).requests.length + 1)

/-- What the lane unit has in hand while its step is in progress (R117). -/
def State.laneStepping (s : State) (l : Lane) : Option InHand :=
  if s.arbiter.busy = some (.lane l) then (s.lane l).inHand else none

/-- The work list without the item whose step has completed (R103). -/
def LaneUnit.dropItem (u : LaneUnit) : LaneUnit :=
  match u.inHand with
  | some .workItem => { u with workList := u.workList.tail }
  | _ => u

/-- R64, R71, R111: the lane unit at the completion of its step: the reply is placed, unless a RESTART has
discarded it; nothing is in hand any more, or a RESTART that waited for this completion. -/
def LaneUnit.stepDone (u : LaneUnit) (reply : Option Message) : LaneUnit :=
  let v := u.dropItem
  { v with
    outbound := if u.discardReply then u.outbound else u.outbound ++ reply.toList
    inHand := if u.restartWaiting then some .restart else none
    restartWaiting := false
    discardReply := false }

/-- The completion of a lane step whose store work has left `s` (R117): the reply is placed, a RESTART
that waited asks for its step, the lane unit takes up what comes next if the event says so (log entry 11),
and the arbiter makes its grant. -/
def State.completeLaneStep (s : State) (l : Lane) (reply : Option Message) (takeUp : Bool) : State :=
  let u := s.lane l
  let s1 := (s.freeStore).setLane l (u.stepDone reply)
  let s2 := if u.restartWaiting then s1.requestLaneStep l else s1
  (if takeUp then s2.takeUpAll l else s2).arbitrate

/-- R71: the key digest of a NOTE, the first four bytes of the key. -/
def keyDigest (k : Key) : List Byte := k.take 4

/-- R111 steps 1 to 5 on the lane unit. `granted` says that a step of the lane is in progress: what is in
hand then completes, its reply is discarded, and the RESTART waits for it. Otherwise what is in hand is
discarded with the rest, and the RESTART becomes the request in service. -/
def LaneUnit.restartArrives (u : LaneUnit) (granted : Bool) : LaneUnit :=
  let kept := u.beingSent
  let ticketKept := fun t : Nat => kept.any fun m =>
    match m with
    | .answer _ _ _ (some n) => decide (n = t)
    | _ => false
  let inHandItem : Bool := granted && decide (u.inHand = some .workItem)
  let settled : WorkItem → WorkItem := fun w =>
    match w with
    | .lateNotice key (some t) => .lateNotice key (if ticketKept t then some t else none)
    | w => w
  let isFault : WorkItem → Bool := fun w => decide (w = .linkFault)
  { u with
    requests := []
    outbound := kept
    workList :=
      if inHandItem then (u.workList.take 1).map settled ++ (u.workList.drop 1).filter isFault
      else u.workList.filter isFault
    reviseEntries := []
    inHand := if granted then u.inHand else some .restart
    restartWaiting := granted
    discardReply := granted }

/-- R111: a RESTART arrives on a lane. -/
def State.restartArrives (s : State) (l : Lane) : State :=
  let granted := decide (s.arbiter.busy = some (.lane l))
  let s1 := s.setLane l ((s.lane l).restartArrives granted)
  if granted then s1 else (s1.requestLaneStep l).arbitrate

end Sys2Proof.Machine
end

