-- ==== Sys2Proof/Machine/LaneEvents.lean ====
section
/-!
DEFINITION. The events of a lane link and of a lane unit outside its store steps: received frames, the
start of service, the expiry of the two timers, and the end of a transmission (chapters 5 and 6).
-/
namespace Sys2Proof.Machine

/-- The state with one lane unit changed. -/
def State.onLane (s : State) (l : Lane) (f : LaneUnit → LaneUnit) : State := s.setLane l (f (s.lane l))

/-! ### Received frames (R99, R101, R102) -/

/-- R168: a frame has its effect `t` while the power-on reset pin is released; asserted, it holds the lane unit
in reset, and the frame is lost. -/
def State.fromLink (s t : State) : State := if s.resetHeld then s else t

/-- R99 test 4, R101: a request with a valid key reaches the flow limit; one with another key is discarded
and a link fault marked. -/
def State.receive (s : State) (l : Lane) (key : Key) (r : Request) : State :=
  s.fromLink (s.onLane l fun u => if keyValid key then u.accept r else u.markLinkFault)

/-- R102: the LOOKUP as it joins the queue, with its expiry, lap limit and hold group. -/
def LaneUnit.lookupRequest (u : LaneUnit) (timebase : Word32) (key : Key) (scanTag : Word) : Request :=
  .lookup key scanTag (expiryAfter timebase u.decisionWindow) u.lapLimit u.holdGroup

/-- LOOKUP: its frame is received (R102). -/
def execLookup (lane : Lane) (key : Key) (scanTag : Word) (s : State) : Host.Outcome State Fault Refusal :=
  .next (s.receive lane key ((s.lane lane).lookupRequest s.timebase key scanTag))

/-- CONFIRM: its frame is received (R102). -/
def execConfirm (lane : Lane) (key : Key) (outlet : Byte) (s : State) : Host.Outcome State Fault Refusal :=
  .next (s.receive lane key (.confirm key outlet))

/-- MISS: its frame is received (R102). -/
def execMiss (lane : Lane) (key : Key) (s : State) : Host.Outcome State Fault Refusal :=
  .next (s.receive lane key (.miss key))

/-- RESTART: its frame is received (R111). -/
def execRestart (lane : Lane) (s : State) : Host.Outcome State Fault Refusal :=
  .next (s.fromLink (s.restartArrives lane))

/-- DISCARDED FRAME: a whole frame that fails R99 marks a link fault (R100). A frame that passes is none, and
bytes that are no whole frame are skipped, or wait for the rest of theirs, without fault (log entry 20). -/
def execDiscardedFrame (lane : Lane) (bytes : List Byte) (s : State) : Host.Outcome State Fault Refusal :=
  .next (s.fromLink
    (if wholeLaneFrame bytes ∧ judgeLaneFrame bytes = none then s.onLane lane LaneUnit.markLinkFault else s))

/-! ### Revise entries (R89, R93) -/

/-- R89, R93: the first entry that `p` picks takes this condition and joins the internal work list; when
there is none, nothing changes. -/
def LaneUnit.settleEntry (u : LaneUnit) (p : ReviseEntry → Bool) (c : ReviseCondition) : LaneUnit :=
  match u.reviseEntries.find? p with
  | none => u
  | some e =>
    { u with
      reviseEntries := u.reviseEntries.map fun q => if q = e then { e with condition := c } else q
      workList := u.workList ++ [.revise { e with condition := c }] }

/-- R89: the WAITING entry of an induction ordinal. -/
def waitingFor (ordinal : Word32) (e : ReviseEntry) : Bool :=
  decide (e.condition = .waiting ∧ e.ordinal = ordinal)

/-- R89: the condition that an answer gives. -/
def answeredCondition : ReviseReply → ReviseCondition
  | .taken => .answeredTaken
  | .tooLate => .answeredTooLate

/-- REVISE ANSWER: its frame is received (R89). -/
def execReviseAnswer (lane : Lane) (ordinal : Word32) (reply : ReviseReply) (s : State) :
    Host.Outcome State Fault Refusal :=
  .next (s.fromLink (s.onLane lane fun u => u.settleEntry (waitingFor ordinal) (answeredCondition reply)))

/-- REVISE TIMER EXPIRY: the timer of the WAITING entry of this ordinal has run out (R93, R105). While it
has not, the event does not arise. -/
def execReviseTimerExpiry (lane : Lane) (ordinal : Word32) (s : State) : Host.Outcome State Fault Refusal :=
  .next (s.onLane lane fun u =>
    u.settleEntry (fun e => waitingFor ordinal e && runOut s.timebase e.expiry) .expired)

/-! ### The queues (R103, R104, R106) -/

/-- SERVICE START: a lane unit with nothing in hand takes up its next thing (R103). -/
def execServiceStart (lane : Lane) (s : State) : Host.Outcome State Fault Refusal :=
  .next (s.takeUp lane).arbitrate

/-- R106: the LOOKUP at this place of the queue leaves it, ANSWER LATE is placed, and a late notice joins
the internal work list. -/
def LaneUnit.answerLate (u : LaneUnit) (position : Nat) (key : Key) (scanTag : Word) : LaneUnit :=
  { u with
    requests := u.requests.eraseIdx position
    outbound := u.outbound ++ [.answer scanTag .bin .late (some u.lateTickets)]
    workList := u.workList ++ [.lateNotice key (some u.lateTickets)]
    lateTickets := u.lateTickets + 1 }

/-- R106: the LOOKUP at this place of the queue expires, when its decision window has run out. -/
def LaneUnit.expireLookup (u : LaneUnit) (timebase : Word32) (position : Nat) : LaneUnit :=
  match u.requests[position]? with
  | some (.lookup key tag expiry _ _) => if runOut timebase expiry then u.answerLate position key tag else u
  | some (.confirm _ _) | some (.miss _) | none => u

/-- DECISION WINDOW EXPIRY of the LOOKUP at this place of the request queue (R106). While its window has not
run out, the event does not arise. -/
def execDecisionWindowExpiry (lane : Lane) (position : Nat) (s : State) : Host.Outcome State Fault Refusal :=
  .next (s.onLane lane fun u => u.expireLookup s.timebase position)

/-- R101: the ANSWER LATE of this ticket has left the outbound queue: its late notice, if it still stands,
is outstanding from now on in its place. -/
def releaseTicket (t : Nat) : WorkItem → WorkItem
  | .lateNotice key (some n) => .lateNotice key (if n = t then none else some n)
  | w => w

/-- The ticket of an ANSWER LATE. -/
def Message.ticket : Message → Option Nat
  | .answer _ _ _ t => t
  | .note _ _ | .revise _ _ | .restartDone => none

/-- R104: the message at the head of the outbound queue has been sent, and leaves it. -/
def LaneUnit.headSent (u : LaneUnit) : LaneUnit :=
  match u.outbound with
  | [] => u
  | m :: ms =>
    { u with
      outbound := ms
      sending := false
      workList := match m.ticket with
        | some t => u.workList.map (releaseTicket t)
        | none => u.workList }

/-- R104: the last byte of the message being sent has been sent: a REVISE that is finished outside the queue (log
entry 18), or else the message at the head. -/
def LaneUnit.messageSent (u : LaneUnit) : LaneUnit :=
  match u.finishing with
  | some _ => { u with finishing := none }
  | none => u.headSent

/-- MESSAGE SENT (R104). -/
def execMessageSent (lane : Lane) (s : State) : Host.Outcome State Fault Refusal :=
  .next (s.onLane lane LaneUnit.messageSent)

end Sys2Proof.Machine
end

