-- ==== Sys2Proof/Machine/LaneSteps.lean ====
section
/-!
DEFINITION. The store steps of the lane units (R118): LOOKUP (chapter 3), CONFIRM and MISS (chapter 4),
the revise items (chapter 5), RESTART, late notice and link-fault notice (chapter 6).
-/
namespace Sys2Proof.Machine

/-! ### LOOKUP (R50 to R60) -/

/-- A LOOKUP step that changes nothing. -/
def answerOnly (s : State) (p : Place) (reason : AnswerReason) : LookupResult :=
  { place := p, reason := reason, state := s }

/-- R52, R53: the LOOKUP of a key that has no record. -/
def State.lookupUnknown (s : State) (l : Lane) (key : Key) : LookupResult :=
  match s.matchRule key with
  | none => answerOnly s .bin .unknown
  | some n =>
    match s.lowestFreeSlot with
    | none => answerOnly (s.noteReasons [(.directory, .directoryFull)]) .bin .directoryFull
    | some slot =>
      if (s.lane l).exhausted then answerOnly s .bin .draining
      else
        let g := (s.rule n).group
        routeFromGroup s
          (s.createRecord slot (.rule n) { key := key, destination := g, hold := none, hostTag := none })
          l { slot := slot, serial := s.store.serialCounter } g .rule

/-- R54, R56, R57: a found record leaves its list, if any, and is routed on this lane, unless the lane's
counter is exhausted (R51). -/
def State.lookupRoute (s : State) (l : Lane) (r : ItemRecord) (lapLimit : Nat) (holdGroup : Destination) :
    LookupResult :=
  if (s.lane l).exhausted then answerOnly s .bin .draining
  else routeRecord s (s.leaveLists r) l r lapLimit holdGroup

/-- R51: the LOOKUP of a key whose record is `r`; a record ROUTED on this lane is answered REPEAT (R55). -/
def State.lookupFound (s : State) (l : Lane) (r : ItemRecord) (lapLimit : Nat) (holdGroup : Destination) :
    LookupResult :=
  match r.state with
  | .routed assigned _ _ =>
    if r.lane = some l then answerOnly s assigned .repeated else s.lookupRoute l r lapLimit holdGroup
  | .expected | .sorted _ _ _ | .recirculating | .rejected => s.lookupRoute l r lapLimit holdGroup

/-- The LOOKUP step (R50, R51). -/
def State.serveLookup (s : State) (l : Lane) (key : Key) (lapLimit : Nat) (holdGroup : Destination) :
    LookupResult :=
  match (s.lane l).state.refusal with
  | some reason => answerOnly s .bin reason
  | none =>
    match s.recordOfKey? key with
    | none => s.lookupUnknown l key
    | some r => s.lookupFound l r lapLimit holdGroup

/-- LOOKUP STEP: the completion of the step of the LOOKUP in service (R51, R63, R64). When no such step is
in progress the event does not arise, as with every step below. -/
def execLookupStep (lane : Lane) (takeUp : Bool) (s : State) : Host.Outcome State Fault Refusal :=
  .next (match s.laneStepping lane with
    | some (.request (.lookup key tag _ lapLimit holdGroup)) =>
      let r := s.serveLookup lane key lapLimit holdGroup
      r.state.completeLaneStep lane (some (.answer tag r.place r.reason none)) takeUp
    | _ => s)

/-! ### CONFIRM (R73 to R80) -/

/-- R79: one foreign arrival more, up to 4095. -/
def OutletEntry.addForeign (o : OutletEntry) : OutletEntry :=
  if o.foreign < Config.foreignMax then { o with foreign := o.foreign + 1 } else o

/-- R75 to R78: the record leaves its old list and arrives at outlet `k`, a stray or not. -/
def State.fileArrival (s : State) (k : OutletId) (r : ItemRecord) (stray : Bool) : State :=
  commit s ((s.leaveLists r).arrive k r.ref stray) (if stray then [(.item r.ref, .stray)] else [])

/-- R74: the cases of a CONFIRM at outlet `k` for a record ROUTED on the reporting lane. -/
def State.confirmRouted (s : State) (k : OutletId) (r : ItemRecord) (assigned : Place)
    (pending : Option Place) : NoteOutcome × State :=
  if assigned = .outlet k then
    (if (s.outlet k).expected.head? = some r.ref then .sorted else .sortedOutOfOrder,
      s.fileArrival k r false)
  else if pending = some (.outlet k) then (.sortedRevised, s.fileArrival k r false)
  else (.stray, s.fileArrival k r true)

/-- R74: a CONFIRM at outlet `k` of the lane for a key whose record is `r`. -/
def State.confirmRecord (s : State) (l : Lane) (k : OutletId) (r : ItemRecord) : NoteOutcome × State :=
  match r.state with
  | .sorted j _ _ => if j = k then (.duplicate, s) else (.stray, s.fileArrival k r true)
  | .routed assigned _ pending =>
    if r.lane = some l then s.confirmRouted k r assigned pending else (.stray, s.fileArrival k r true)
  | .expected | .recirculating | .rejected => (.stray, s.fileArrival k r true)

/-- R74, R79: a CONFIRM at an outlet that has passed the check of R73. -/
def State.confirmAtOutlet (s : State) (l : Lane) (k : OutletId) (key : Key) : NoteOutcome × State :=
  match s.recordOfKey? key with
  | none => (.foreign, commit s (s.setOutlet k (s.outlet k).addForeign) [(.outlet k, .foreign)])
  | some r => s.confirmRecord l k r

/-- R80: a CONFIRM at outlet 0. -/
def State.confirmAtBin (s : State) (key : Key) : NoteOutcome × State :=
  match s.recordOfKey? key with
  | none => (.unknown, s)
  | some r =>
    if stateKind r.state = .rejected then (.duplicate, s)
    else (.rejected, commit s ((s.leaveLists r).changeState r.ref .rejected) [(.item r.ref, .rejected)])

/-- R73: the outlet check of a CONFIRM, and what follows it. -/
def State.serveConfirm (s : State) (l : Lane) (key : Key) (outlet : Byte) : NoteOutcome × State :=
  if outlet = 0 then s.confirmAtBin key
  else
    match outletOf outlet.toNat with
    | some k =>
      if (s.outlet k).definedOn l then s.confirmAtOutlet l k key
      else (.badOutlet, s.noteReasons [(.lane l, .linkFault)])
    | none => (.badOutlet, s.noteReasons [(.lane l, .linkFault)])

/-- CONFIRM STEP (R71, R73). -/
def execConfirmStep (lane : Lane) (takeUp : Bool) (s : State) : Host.Outcome State Fault Refusal :=
  .next (match s.laneStepping lane with
    | some (.request (.confirm key outlet)) =>
      let r := s.serveConfirm lane key outlet
      r.2.completeLaneStep lane (some (.note (keyDigest key) r.1)) takeUp
    | _ => s)

/-! ### MISS (R82, R83) -/

/-- R83: one lap more, up to 7. -/
def nextLaps (n : Nat) : Nat := if n < Config.lapsMax then n + 1 else n

/-- R83: a record ROUTED on the lane recirculates. -/
def State.recirculate (s : State) (l : Lane) (r : ItemRecord) : State :=
  let s1 := (s.leaveLists r).updateRecord r.ref fun q => { q with laps := nextLaps q.laps }
  commit s (s1.changeState r.ref .recirculating)
    (if (s.lane l).lapLimit ≤ nextLaps r.laps then [(.item r.ref, .lapLimit)] else [])

/-- R82: the MISS step's outcome and state. -/
def State.serveMiss (s : State) (l : Lane) (key : Key) : NoteOutcome × State :=
  match s.recordOfKey? key with
  | none => (.unknown, s)
  | some r =>
    if stateKind r.state = .routed ∧ r.lane = some l then (.recirculating, s.recirculate l r)
    else (.ignored, s)

/-- MISS STEP (R71, R82). -/
def execMissStep (lane : Lane) (takeUp : Bool) (s : State) : Host.Outcome State Fault Refusal :=
  .next (match s.laneStepping lane with
    | some (.request (.miss key)) =>
      let r := s.serveMiss lane key
      r.2.completeLaneStep lane (some (.note (keyDigest key) r.1)) takeUp
    | _ => s)

/-! ### RESTART (R112) -/

/-- Whether a record is ROUTED on a lane. -/
def routedOn (l : Lane) (r : ItemRecord) : Bool := decide (stateKind r.state = .routed ∧ r.lane = some l)

/-- R112 step 1: a record ROUTED on the lane becomes RECIRCULATING, its laps as they were. -/
def recirculated (l : Lane) (r : ItemRecord) : ItemRecord :=
  if routedOn l r then { r with state := .recirculating } else r

/-- R112 step 2: the outlets defined on the lane have an empty expected list. -/
def OutletEntry.abandon (l : Lane) (o : OutletEntry) : OutletEntry :=
  if o.definedOn l then { o with reserved := 0, expected := [] } else o

/-- R112 step 3: no revision of the lane stands any more, and every unsent REVISE is withdrawn. -/
def LaneUnit.abandonRevisions (u : LaneUnit) : LaneUnit :=
  { u with pendingCount := 0, reviseEntries := [] }.withdraw fun m => m.reviseOrdinal.isSome

/-- R112 steps 1 to 3. -/
def State.abandonLane (s : State) (l : Lane) : State :=
  let n := s.store.records.countP (routedOn l)
  let c := s.store.counts
  ((s.setStore
    { s.store with
      records := s.store.records.map (recirculated l)
      counts := { c with routed := c.routed - n, recirculating := c.recirculating + n }
      outlets := s.store.outlets.map (OutletEntry.abandon l) }).setBin l { reserved := 0, expected := [] }).setLane l
    (s.lane l).abandonRevisions

/-- R112: the store work of the RESTART step. -/
def State.serveRestart (s : State) (l : Lane) : State :=
  commit s (s.abandonLane l) [(.lane l, .restarted)]

/-- RESTART STEP (R112). -/
def execRestartStep (lane : Lane) (takeUp : Bool) (s : State) : Host.Outcome State Fault Refusal :=
  .next (match s.laneStepping lane with
    | some .restart => (s.serveRestart lane).completeLaneStep lane (some .restartDone) takeUp
    | _ => s)

/-! ### The internal work list (R103) -/

/-- The item of the internal work list whose step is in progress. -/
def State.itemStepping (s : State) (l : Lane) : Option WorkItem :=
  match s.laneStepping l with
  | some .workItem => (s.lane l).workList.head?
  | _ => none

/-- R107: the store work of a late notice. -/
def State.serveLateNotice (s : State) (key : Key) : State :=
  match s.recordOfKey? key with
  | some r => s.noteReasons [(.item r.ref, .late)]
  | none => s

/-- LATE NOTICE STEP (R107). -/
def execLateNoticeStep (lane : Lane) (takeUp : Bool) (s : State) : Host.Outcome State Fault Refusal :=
  .next (match s.itemStepping lane with
    | some (.lateNotice key _) => (s.serveLateNotice key).completeLaneStep lane none takeUp
    | _ => s)

/-- LINK FAULT NOTICE STEP (R100). -/
def execLinkFaultNoticeStep (lane : Lane) (takeUp : Bool) (s : State) : Host.Outcome State Fault Refusal :=
  .next (match s.itemStepping lane with
    | some .linkFault =>
      (s.noteReasons [(.lane lane, .linkFault)]).completeLaneStep lane none takeUp
    | _ => s)

/-! ### Revise items (R90 to R95) -/

/-- R95: the assigned outlet of the record that a revise item would settle: the record is in use, ROUTED on
the lane with the entry's induction ordinal, and carries a pending revision. -/
def State.stillPending (s : State) (l : Lane) (e : ReviseEntry) : Option Place :=
  match s.record? e.ref with
  | none => none
  | some r =>
    match r.state with
    | .routed assigned ordinal (some _) =>
      if r.lane = some l ∧ ordinal = e.ordinal then some assigned else none
    | _ => none

/-- R90 to R93: the record's pending revision is removed and its entry closed. A REVISE that an answer or the
expiry finds unsent is withdrawn with it (R93, R97; for an answer DEDUCED, log entry 17). -/
def State.settleRevision (s : State) (l : Lane) (e : ReviseEntry) (assigned : Place) : State :=
  (s.updateRecord e.ref fun r => { r with state := .routed assigned e.ordinal none }).setLane l
    ((s.lane l).dropRevision e.ref e.ordinal)

/-- R90, R91: whether the target still belongs to the lane. -/
def State.targetOnLane (s : State) (l : Lane) : Place → Bool
  | .bin => true
  | .outlet k => (s.outlet k).definedOn l

/-- R91, R92: the revision is cleared and the record stays where it was. -/
def State.refuseRevision (s : State) (l : Lane) (e : ReviseEntry) (assigned : Place) : State :=
  commit s (s.settleRevision l e assigned) [(.item e.ref, .reviseRefused)]

/-- R90: the record moves into its target's expected list. -/
def State.takeRevision (s : State) (l : Lane) (e : ReviseEntry) (assigned : Place) : State :=
  commit s
    (((s.removeExpected l assigned e.ref).insertExpected l e.target e.ref e.ordinal).settleRevision l e e.target)
    []

/-- The store work of an ANSWERED TAKEN entry (R90, R91, R95). -/
def State.serveTaken (s : State) (l : Lane) (e : ReviseEntry) : State :=
  match s.stillPending l e with
  | none => s
  | some assigned =>
    if s.targetOnLane l e.target then s.takeRevision l e assigned else s.refuseRevision l e assigned

/-- The store work of an ANSWERED TOO_LATE entry (R92, R95). -/
def State.serveTooLate (s : State) (l : Lane) (e : ReviseEntry) : State :=
  match s.stillPending l e with
  | none => s
  | some assigned => s.refuseRevision l e assigned

/-- The store work of an EXPIRED entry (R93, R95). -/
def State.serveExpired (s : State) (l : Lane) (e : ReviseEntry) : State :=
  match s.stillPending l e with
  | none => s
  | some assigned =>
    commit s (s.settleRevision l e assigned) [(.item e.ref, .reviseUnanswered)]

/-- The revise item of this condition whose step is in progress. -/
def State.reviseStepping (s : State) (l : Lane) (c : ReviseCondition) : Option ReviseEntry :=
  match s.itemStepping l with
  | some (.revise e) => if e.condition = c then some e else none
  | _ => none

/-- ANSWERED TAKEN STEP (R90, R91). -/
def execAnsweredTakenStep (lane : Lane) (takeUp : Bool) (s : State) : Host.Outcome State Fault Refusal :=
  .next (match s.reviseStepping lane .answeredTaken with
    | some e => (s.serveTaken lane e).completeLaneStep lane none takeUp
    | none => s)

/-- ANSWERED TOO LATE STEP (R92). -/
def execAnsweredTooLateStep (lane : Lane) (takeUp : Bool) (s : State) : Host.Outcome State Fault Refusal :=
  .next (match s.reviseStepping lane .answeredTooLate with
    | some e => (s.serveTooLate lane e).completeLaneStep lane none takeUp
    | none => s)

/-- EXPIRED STEP (R93). -/
def execExpiredStep (lane : Lane) (takeUp : Bool) (s : State) : Host.Outcome State Fault Refusal :=
  .next (match s.reviseStepping lane .expired with
    | some e => (s.serveExpired lane e).completeLaneStep lane none takeUp
    | none => s)

end Sys2Proof.Machine
end

