-- ==== Sys2Proof/Machine/Outlets.lean ====
section
/-!
DEFINITION. The host commands on outlets and groups (sections 2.7 and 2.8).
-/
namespace Sys2Proof.Machine

/-- R40, R42 to R44: the response OK with an outlet's state as derived at the completion. -/
def outletOk (s : State) (k : OutletId) : Option (State × Status × List Word) :=
  some (s, .ok, [word (outletStateNumber (s.outlet k).state)])

/-- R40: the entry that DEFINE OUTLET leaves; a redefinition keeps the closed flag. -/
def OutletEntry.define (o : OutletEntry) (l : Lane) (capacity : Nat) : OutletEntry :=
  { definition := some { lane := l, capacity := capacity }
    closed := o.definition.isSome && o.closed
    clearing := none, reserved := 0, held := 0, foreign := 0, arrivalCounter := 0
    expected := [], content := [] }

/-- The step of DEFINE OUTLET (R40). -/
def defineOutletStep (s : State) : HostCommand → Option (State × Status × List Word)
  | .defineOutlet k l capacity =>
    if (s.outlet k).definition.isSome ∧ (s.outlet k).isEmpty = false then some (s, .outletNotEmpty, [])
    else outletOk (commit s (s.setOutlet k ((s.outlet k).define l capacity)) []) k
  | _ => none

/-- DEFINE OUTLET (R40). -/
def execDefineOutlet (part : CommandPart) (s : State) : Host.Outcome State Fault Refusal :=
  .next (s.singleCommand 0x07 judgeDefineOutlet (defineOutletStep s) part)

/-- The step of UNDEFINE OUTLET (R41). -/
def undefineOutletStep (s : State) : HostCommand → Option (State × Status × List Word)
  | .undefineOutlet k =>
    if (s.outlet k).definition = none then some (s, .wrongState, [])
    else if (s.outlet k).isEmpty = false then some (s, .outletNotEmpty, [])
    else some (commit s (s.setOutlet k OutletEntry.reset) [], .ok, [])
  | _ => none

/-- UNDEFINE OUTLET (R41). -/
def execUndefineOutlet (part : CommandPart) (s : State) : Host.Outcome State Fault Refusal :=
  .next (s.singleCommand 0x08 judgeUndefineOutlet (undefineOutletStep s) part)

/-- The step of a command that changes a defined outlet and is refused with WRONG_STATE on any other
(R42 to R44). -/
def changeOutlet (s : State) (k : OutletId) (f : OutletEntry → OutletDefinition → OutletEntry) :
    Option (State × Status × List Word) :=
  match (s.outlet k).definition with
  | none => some (s, .wrongState, [])
  | some d => outletOk (commit s (s.setOutlet k (f (s.outlet k) d)) []) k

/-- The step of SET CAPACITY (R42). -/
def setCapacityStep (s : State) : HostCommand → Option (State × Status × List Word)
  | .setCapacity k capacity =>
    changeOutlet s k fun o d => { o with definition := some { d with capacity := capacity } }
  | _ => none

/-- SET CAPACITY (R42). -/
def execSetCapacity (part : CommandPart) (s : State) : Host.Outcome State Fault Refusal :=
  .next (s.singleCommand 0x09 judgeSetCapacity (setCapacityStep s) part)

/-- The step of CLOSE OUTLET (R43). -/
def closeOutletStep (s : State) : HostCommand → Option (State × Status × List Word)
  | .closeOutlet k => changeOutlet s k fun o _ => { o with closed := true }
  | _ => none

/-- CLOSE OUTLET (R43). -/
def execCloseOutlet (part : CommandPart) (s : State) : Host.Outcome State Fault Refusal :=
  .next (s.singleCommand 0x0A judgeCloseOutlet (closeOutletStep s) part)

/-- The step of OPEN OUTLET (R44). -/
def openOutletStep (s : State) : HostCommand → Option (State × Status × List Word)
  | .openOutlet k => changeOutlet s k fun o _ => { o with closed := false }
  | _ => none

/-- OPEN OUTLET (R44). -/
def execOpenOutlet (part : CommandPart) (s : State) : Host.Outcome State Fault Refusal :=
  .next (s.singleCommand 0x0B judgeOpenOutlet (openOutletStep s) part)

/-- The step of READ OUTLET (R45). -/
def readOutletStep (s : State) : HostCommand → Option (State × Status × List Word)
  | .readOutlet (.outlet k) => some (s, .ok, outletWords s k)
  | .readOutlet (.bin l) => some (s, .ok, binWords s l)
  | _ => none

/-- READ OUTLET (R45). -/
def execReadOutlet (part : CommandPart) (s : State) : Host.Outcome State Fault Refusal :=
  .next (s.singleCommand 0x0C judgeReadOutlet (readOutletStep s) part)

/-- The step of DEFINE GROUP (R46). -/
def defineGroupStep (s : State) : HostCommand → Option (State × Status × List Word)
  | .defineGroup g members policy overflow =>
    some (s.setGroup g { members := members, policy := policy, overflow := overflow,
                         pointers := Vector.replicate 4 0 }, .ok, [])
  | _ => none

/-- DEFINE GROUP (R46). -/
def execDefineGroup (part : CommandPart) (s : State) : Host.Outcome State Fault Refusal :=
  .next (s.singleCommand 0x0F judgeDefineGroup (defineGroupStep s) part)

/-- The step of READ GROUP (R47). -/
def readGroupStep (s : State) : HostCommand → Option (State × Status × List Word)
  | .readGroup g => some (s, .ok, groupWords (s.group g))
  | _ => none

/-- READ GROUP (R47). -/
def execReadGroup (part : CommandPart) (s : State) : Host.Outcome State Fault Refusal :=
  .next (s.singleCommand 0x10 judgeReadGroup (readGroupStep s) part)

end Sys2Proof.Machine
end

