-- ==== Sys2Proof/Machine/Dispatch.lean ====
section
/-!
DEFINITION. The meaning of each event: one arm for each row of spec/opcode_table.json.
-/
namespace Sys2Proof.Machine

def exec (i : Instr) (s : State) : Host.Outcome State Fault Refusal :=
  match i with
  | .powerOnReset part => Sys2Proof.Machine.execPowerOnReset part s
  | .hostChannelReset => Sys2Proof.Machine.execHostChannelReset s
  | .badFrame part => Sys2Proof.Machine.execBadFrame part s
  | .readResponse words => Sys2Proof.Machine.execReadResponse words s
  | .createItem part => Sys2Proof.Machine.execCreateItem part s
  | .loadManifest part => Sys2Proof.Machine.execLoadManifest part s
  | .loadManifestItemStep => Sys2Proof.Machine.execLoadManifestItemStep s
  | .readItem part => Sys2Proof.Machine.execReadItem part s
  | .readItemByCursor part => Sys2Proof.Machine.execReadItemByCursor part s
  | .amendItem part => Sys2Proof.Machine.execAmendItem part s
  | .restoreItem part => Sys2Proof.Machine.execRestoreItem part s
  | .retireItem part => Sys2Proof.Machine.execRetireItem part s
  | .defineOutlet part => Sys2Proof.Machine.execDefineOutlet part s
  | .undefineOutlet part => Sys2Proof.Machine.execUndefineOutlet part s
  | .setCapacity part => Sys2Proof.Machine.execSetCapacity part s
  | .closeOutlet part => Sys2Proof.Machine.execCloseOutlet part s
  | .openOutlet part => Sys2Proof.Machine.execOpenOutlet part s
  | .readOutlet part => Sys2Proof.Machine.execReadOutlet part s
  | .clearOutlet part => Sys2Proof.Machine.execClearOutlet part s
  | .clearOutletStartStep => Sys2Proof.Machine.execClearOutletStartStep s
  | .clearOutletRetiringStep => Sys2Proof.Machine.execClearOutletRetiringStep s
  | .clearOutletFinishStep => Sys2Proof.Machine.execClearOutletFinishStep s
  | .clearOutletEndingStep => Sys2Proof.Machine.execClearOutletEndingStep s
  | .defineGroup part => Sys2Proof.Machine.execDefineGroup part s
  | .readGroup part => Sys2Proof.Machine.execReadGroup part s
  | .writeRule part => Sys2Proof.Machine.execWriteRule part s
  | .readRule part => Sys2Proof.Machine.execReadRule part s
  | .startLane part => Sys2Proof.Machine.execStartLane part s
  | .stopLane part => Sys2Proof.Machine.execStopLane part s
  | .setLaneParameters part => Sys2Proof.Machine.execSetLaneParameters part s
  | .readLane part => Sys2Proof.Machine.execReadLane part s
  | .setCursor part => Sys2Proof.Machine.execSetCursor part s
  | .search part => Sys2Proof.Machine.execSearch part s
  | .searchStep => Sys2Proof.Machine.execSearchStep s
  | .takeAttention part => Sys2Proof.Machine.execTakeAttention part s
  | .peekAttention part => Sys2Proof.Machine.execPeekAttention part s
  | .readStatus part => Sys2Proof.Machine.execReadStatus part s
  | .resetDirectory part => Sys2Proof.Machine.execResetDirectory part s
  | .resetDirectoryRetiringStep => Sys2Proof.Machine.execResetDirectoryRetiringStep s
  | .resetDirectoryFinishStep => Sys2Proof.Machine.execResetDirectoryFinishStep s
  | .abort part => Sys2Proof.Machine.execAbort part s
  | .lookup lane key scanTag => Sys2Proof.Machine.execLookup lane key scanTag s
  | .confirm lane key outlet => Sys2Proof.Machine.execConfirm lane key outlet s
  | .miss lane key => Sys2Proof.Machine.execMiss lane key s
  | .reviseAnswer lane ordinal reply => Sys2Proof.Machine.execReviseAnswer lane ordinal reply s
  | .restart lane => Sys2Proof.Machine.execRestart lane s
  | .discardedFrame lane bytes => Sys2Proof.Machine.execDiscardedFrame lane bytes s
  | .serviceStart lane => Sys2Proof.Machine.execServiceStart lane s
  | .lookupStep lane takeUp => Sys2Proof.Machine.execLookupStep lane takeUp s
  | .confirmStep lane takeUp => Sys2Proof.Machine.execConfirmStep lane takeUp s
  | .missStep lane takeUp => Sys2Proof.Machine.execMissStep lane takeUp s
  | .restartStep lane takeUp => Sys2Proof.Machine.execRestartStep lane takeUp s
  | .decisionWindowExpiry lane position => Sys2Proof.Machine.execDecisionWindowExpiry lane position s
  | .reviseTimerExpiry lane ordinal => Sys2Proof.Machine.execReviseTimerExpiry lane ordinal s
  | .lateNoticeStep lane takeUp => Sys2Proof.Machine.execLateNoticeStep lane takeUp s
  | .linkFaultNoticeStep lane takeUp => Sys2Proof.Machine.execLinkFaultNoticeStep lane takeUp s
  | .answeredTakenStep lane takeUp => Sys2Proof.Machine.execAnsweredTakenStep lane takeUp s
  | .answeredTooLateStep lane takeUp => Sys2Proof.Machine.execAnsweredTooLateStep lane takeUp s
  | .expiredStep lane takeUp => Sys2Proof.Machine.execExpiredStep lane takeUp s
  | .messageSent lane => Sys2Proof.Machine.execMessageSent lane s
  | .hostChannelResetRelease => Sys2Proof.Machine.execHostChannelResetRelease s

end Sys2Proof.Machine
end

