-- ==== Sys2Proof/Machine/Tick.lean ====
section
/-!
DEFINITION. What one microsecond does while no event waits (R105, R168; log entry 4).
-/
namespace Sys2Proof.Machine

/-- R104: the message at the head of the outbound queue begins to be sent, once no other is being sent. -/
def LaneUnit.beginSending (u : LaneUnit) : LaneUnit :=
  { u with sending := u.sending || (u.finishing.isNone && !u.outbound.isEmpty) }

/-- R105, R104: the timebase advances by one, and every link that has a message begins to send it. While the
power-on reset pin is asserted both are held in reset (R168). -/
def State.tick (s : State) : State :=
  if s.resetHeld then s
  else { s with timebase := s.timebase + 1, lanes := s.lanes.map LaneUnit.beginSending }

end Sys2Proof.Machine
end

