-- ==== Sys2Proof/Machine/Step.lean ====
section
/-!
DEFINITION. One step: the event at the front of the queue takes effect; with no event waiting, one
microsecond passes (log entry 4).
-/
namespace Sys2Proof.Machine

/-- One step of the EV480. -/
def step (s : State) : Host.Outcome State Fault Refusal :=
  match s.pending with
  | [] => .next s.tick
  | c :: rest => exec c { s with pending := rest }

/-- The state with the command that a word of the table spells at the front of its queue; unchanged where
the word spells none. -/
def State.withFetchWord (s : State) (nbits w : Nat) : State :=
  match decodeTableWord nbits w with
  | some c => { s with pending := c :: s.pending }
  | none => s

end Sys2Proof.Machine
end

