-- ==== Sys2Proof/CommandForms.lean ====
section
/-!
DEFINITION. The bodies of host commands as the host sends them, written from the tables of the specification (R164,
R165 and each command's own rule), and which of them are in range (R128), in the terms of the statements. Nothing
in Machine uses this file.
-/
namespace Sys2Proof.Machine

/-! ### The forms (R164, R165) -/

/-- A word between two numbers. -/
def within (lo hi : Nat) (w : Word) : Prop := lo ≤ w.toNat ∧ w.toNat ≤ hi

/-- R164: a key, with `unused` in the half that an odd length leaves. -/
def keyForm (unused : Byte) (k : Key) : List Word := word k.length :: packBytes unused k

/-- R165: a list, preceded by its count. -/
def listForm (f : α → List Word) (xs : List α) : List Word := word xs.length :: (xs.map f).flatten

/-- R165: a field that may be absent. -/
def presenceForm (f : α → List Word) : Option α → List Word
  | none => [0]
  | some a => 1 :: f a

/-- R15: a designation by slot and serial, or by key. -/
def designationForm (unused : Byte) : Designation → List Word
  | .ref q => 1 :: word q.slot :: words32 q.serial
  | .key k => 2 :: keyForm unused k

/-- R12: an item definition with the words of its destination and hold as they are sent. -/
def sentItem (unused : Byte) (key : Key) (destination : Word) (hold : Option Word) (tag : Option Word32) : List Word :=
  keyForm unused key ++ [destination] ++ presenceForm (fun h => [h]) hold ++ presenceForm words32 tag

/-- R12: an item definition. -/
def itemForm (unused : Byte) (d : ItemDefinition) : List Word :=
  sentItem unused d.key (word d.destination.val) (d.hold.map word) d.hostTag

/-- R16: the guard of AMEND ITEM, a revision or ANY. -/
def guardForm : Option (BitVec 16) → List Word
  | some v => [1, v]
  | none => [2]

/-- R16: a change: its kind, and SET with the value or CLEAR. -/
def changeForm : Change → List Word
  | .destination g => [1, word g.val]
  | .setHold n => [2, 1, word n]
  | .clearHold => [2, 2]
  | .setTag t => 3 :: 1 :: words32 t
  | .clearTag => [3, 2]

/-- R16: which of the three a change names. -/
def Change.named : Change → Nat
  | .destination _ => 1
  | .setHold _ | .clearHold => 2
  | .setTag _ | .clearTag => 3

/-- R165: a key pattern as it is sent, 0 in a position for ANY. -/
def sentPattern (positions : List Word) (minLength maxLength : Word) : List Word :=
  word positions.length :: positions ++ [minLength, maxLength]

/-- R67: a key pattern. -/
def patternForm (p : KeyPattern) : List Word :=
  sentPattern (p.positions.map fun b => word ((b.map BitVec.toNat).getD 0)) (word p.minLength) (word p.maxLength)

/-- R67: a key pattern that is not valid. -/
def patternFails (positions : List Word) (minLength maxLength : Word) : Prop :=
  20 < positions.length ∨ (∃ b ∈ positions, b ≠ 0 ∧ ¬within 33 126 b) ∨ ¬within 4 20 minLength ∨
    ¬within 4 20 maxLength ∨ maxLength.toNat < minLength.toNat

/-- R137: a view. -/
def viewForm : View → List Word
  | .key => [1]
  | .state k => [2, word (stateNumber k)]
  | .expected k => [3, word (outletNumber k)]
  | .expectedBin l => [4, word l.val]
  | .content k => [5, word (outletNumber k)]

/-- R138: a placement. -/
def placementForm (unused : Byte) : Placement → List Word
  | .first => [1]
  | .last => [2]
  | .atRecord d => 3 :: designationForm unused d
  | .atKey k => 4 :: keyForm unused k

/-- R114: a parameter: its kind and its value. -/
def parameterForm : Parameter → List Word
  | .decisionWindow n => [1, word n]
  | .reviseWindow n => [2, word n]
  | .lapLimit n => [3, word n]
  | .holdGroup g => [4, word g.val]

/-- R114: which of the four a parameter names. -/
def Parameter.named : Parameter → Nat
  | .decisionWindow _ => 1
  | .reviseWindow _ => 2
  | .lapLimit _ => 3
  | .holdGroup _ => 4

/-- R143: the test of a field that may be absent. -/
def fieldTestForm (f : α → List Word) : FieldTest α → List Word
  | .absent => [1]
  | .present => [2]
  | .value v => 3 :: f v

/-- R143: a condition of SEARCH. -/
def conditionForm : Condition → List Word
  | .key p => 1 :: patternForm p
  | .state ks => 2 :: listForm (fun k => [word (stateNumber k)]) ks
  | .origin fromRule => [3, if fromRule then 2 else 1]
  | .ruleNumber n => [4, word n.val]
  | .destination g => [5, word g.val]
  | .hold t => 6 :: fieldTestForm (fun n => [word n]) t
  | .hostTag t => 7 :: fieldTestForm words32 t
  | .lane l => [8, word l.val]
  | .laps n => [9, word n]
  | .stray => [10]
  | .pending => [11]

/-- Whether the counts of a condition fit their words. -/
def Condition.sendable : Condition → Prop
  | .key p => p.positions.length < 65536
  | .state ks => ks.length < 65536
  | _ => True

/-- R143: which of the eleven a condition names. -/
def Condition.named : Condition → Nat
  | .key _ => 1
  | .state _ => 2
  | .origin _ => 3
  | .ruleNumber _ => 4
  | .destination _ => 5
  | .hold _ => 6
  | .hostTag _ => 7
  | .lane _ => 8
  | .laps _ => 9
  | .stray => 10
  | .pending => 11

/-- R165: the body of a command frame. -/
def HostCommand.form (unused : Byte) : HostCommand → List Word
  | .createItem d => itemForm unused d
  | .loadManifest items => listForm (itemForm unused) items
  | .readItem d | .restoreItem d => designationForm unused d
  | .readItemByCursor c step access =>
    [3, word c.val,
      match step with
      | .next => 1
      | .prev => 2
      | .hold => 3,
      match access with
      | .read => 1
      | .skip => 2]
  | .amendItem a =>
    designationForm unused a.designation ++ guardForm a.guardRevision ++ listForm changeForm a.changes
  | .retireItem d force => designationForm unused d ++ [if force then 1 else 0]
  | .defineOutlet k l capacity => [word (outletNumber k), word l.val, word capacity]
  | .undefineOutlet k | .closeOutlet k | .openOutlet k | .clearOutlet k => [word (outletNumber k)]
  | .setCapacity k capacity => [word (outletNumber k), word capacity]
  | .readOutlet (.outlet k) => [1, word (outletNumber k)]
  | .readOutlet (.bin l) => [2, word l.val]
  | .defineGroup g members policy overflow =>
    word (groupNumber g) :: listForm (fun k => [word (outletNumber k)]) members ++
      [match policy with
        | .first => 1
        | .rotate => 2
        | .least => 3] ++ presenceForm (fun h => [word (groupNumber h)]) overflow
  | .readGroup g => [word (groupNumber g)]
  | .writeRule n e =>
    [word n.val, if e.enabled then 1 else 0] ++ patternForm e.pattern ++ [word e.priority, word e.group.val]
  | .readRule n => [word n.val]
  | .startLane l | .stopLane l | .readLane l => [word l.val]
  | .setLaneParameters l ps => word l.val :: listForm parameterForm ps
  | .setCursor c v p => word c.val :: viewForm v ++ placementForm unused p
  | .search q =>
    [word q.cursor.val, if q.startNext then 1 else 2, word q.limit] ++ listForm conditionForm q.conditions
  | .takeAttention urgentOnly | .peekAttention urgentOnly => [if urgentOnly then 2 else 1]
  | .resetDirectory => []

/-! ### The ranges (R128) -/

/-- R5: a designation in range. A key of any length that its length word can give is judged afterwards. -/
def Designation.inRange : Designation → Prop
  | .ref q => q.slot < 8192 ∧ q.serial ≠ 0
  | .key k => k.length < 65536

/-- R12: an item definition in range. -/
def ItemDefinition.inRange (d : ItemDefinition) : Prop :=
  d.key.length < 65536 ∧ ∀ h, d.hold = some h → 1 ≤ h ∧ h ≤ 15

/-- R67: a key pattern that is valid. -/
def KeyPattern.valid (p : KeyPattern) : Prop :=
  p.positions.length ≤ 20 ∧ (∀ b : Byte, some b ∈ p.positions → 33 ≤ b.toNat ∧ b.toNat ≤ 126) ∧
    4 ≤ p.minLength ∧ p.minLength ≤ p.maxLength ∧ p.maxLength ≤ 20

/-- Names of changes or parameters that pass: at least one, and none twice where a repetition is refused (log entry
6). -/
def namesPass (code : Byte) (names : List Nat) : Prop :=
  names ≠ [] ∧ names.length < 65536 ∧ (names.Nodup ∨ Config.repeatedNameRefused code = false)

/-- R128, first class: the arguments of a command are in their ranges, and their combination is allowed. -/
def HostCommand.inRange : HostCommand → Prop
  | .createItem d => d.inRange
  | .loadManifest items => items ≠ [] ∧ items.length ≤ 12 ∧ ∀ d ∈ items, d.inRange
  | .readItem d | .restoreItem d | .retireItem d _ => d.inRange
  | .amendItem a =>
    a.designation.inRange ∧ (∀ n, .setHold n ∈ a.changes → 1 ≤ n ∧ n ≤ 15) ∧
      namesPass 0x04 (a.changes.map Change.named)
  | .defineOutlet _ _ capacity | .setCapacity _ capacity => 1 ≤ capacity ∧ capacity ≤ 4095
  | .defineGroup g members _ overflow => (members.Pairwise fun a b => a < b) ∧ overflow ≠ some g
  | .writeRule _ e => e.pattern.valid ∧ e.priority ≤ 15
  | .setLaneParameters _ ps =>
    (∀ p ∈ ps, match p with
      | .decisionWindow n => 100 ≤ n ∧ n ≤ 20000
      | .reviseWindow n => 100 ≤ n ∧ n ≤ 50000
      | .lapLimit n => 1 ≤ n ∧ n ≤ 7
      | .holdGroup _ => True) ∧ namesPass 0x15 (ps.map Parameter.named)
  | .setCursor _ _ (.atRecord d) => d.inRange
  | .setCursor _ v (.atKey k) => k.length < 65536 ∧ (v = .key ∨ ∃ s, v = .state s)
  | .search q =>
    1 ≤ q.limit ∧ q.limit ≤ 8192 ∧ (q.conditions.map Condition.named).Nodup ∧
      ∀ c ∈ q.conditions, match c with
        | .key p => p.valid
        | .state ks => ks ≠ [] ∧ ks.Nodup
        | .hold (.value n) => 1 ≤ n ∧ n ≤ 15
        | .laps n => n ≤ 7
        | _ => True
  | _ => True

/-- R128, second class: the keys that a command carries. -/
def HostCommand.keysSent : HostCommand → List Key
  | .createItem d => [d.key]
  | .loadManifest items => items.map (·.key)
  | .readItem (.key k) | .restoreItem (.key k) | .retireItem (.key k) _ => [k]
  | .amendItem a => match a.designation with
    | .key k => [k]
    | .ref _ => []
  | .setCursor _ _ (.atRecord (.key k)) | .setCursor _ _ (.atKey k) => [k]
  | _ => []

/-- R5: the words of a slot and a serial that are out of range. -/
def refOutOfRange : List Word → Prop
  | [slot, hi, lo] => 8192 ≤ slot.toNat ∨ hi = 0 ∧ lo = 0
  | _ => False

/-- R16: a change whose value is out of its range. -/
inductive ChangeOutOfRange : List Word → Prop
  | destination (w : Word) : 15 < w.toNat → ChangeOutOfRange [1, w]
  | hold (w : Word) : ¬within 1 15 w → ChangeOutOfRange [2, 1, w]

/-- R165: the words of a change up to a kind or form that is unknown, which takes the rest of the body. -/
inductive ChangeUnknown : List Word → Prop
  | kind (w : Word) : ¬within 1 3 w → ChangeUnknown [w]
  | form (k w : Word) : k = 2 ∨ k = 3 → ¬within 1 2 w → ChangeUnknown [k, w]

/-- R114: a parameter whose value is out of its range. -/
inductive ParameterOutOfRange : List Word → Prop
  | decisionWindow (w : Word) : ¬within 100 20000 w → ParameterOutOfRange [1, w]
  | reviseWindow (w : Word) : ¬within 100 50000 w → ParameterOutOfRange [2, w]
  | lapLimit (w : Word) : ¬within 1 7 w → ParameterOutOfRange [3, w]
  | holdGroup (w : Word) : 15 < w.toNat → ParameterOutOfRange [4, w]

/-- R143: a condition whose value is out of its range. -/
inductive ConditionOutOfRange : List Word → Prop
  | pattern (positions : List Word) (lo hi : Word) :
    positions.length < 65536 → patternFails positions lo hi → ConditionOutOfRange (1 :: sentPattern positions lo hi)
  | states (ks : List StateKind) :
    ks.length < 65536 → ks = [] ∨ ¬ks.Nodup → ConditionOutOfRange (conditionForm (.state ks))
  | ruleNumber (w : Word) : 127 < w.toNat → ConditionOutOfRange [4, w]
  | destination (w : Word) : 15 < w.toNat → ConditionOutOfRange [5, w]
  | hold (w : Word) : ¬within 1 15 w → ConditionOutOfRange [6, 3, w]
  | lane (w : Word) : 3 < w.toNat → ConditionOutOfRange [8, w]
  | laps (w : Word) : 7 < w.toNat → ConditionOutOfRange [9, w]

/-- R165: the words of a condition up to a kind that is unknown, which takes the rest of the body. -/
inductive ConditionUnknown : List Word → Prop
  | kind (w : Word) : ¬within 1 11 w → ConditionUnknown [w]
  | state (n : Word) (pre : List StateKind) (w : Word) :
    pre.length < n.toNat → ¬within 1 5 w → ConditionUnknown (2 :: n :: pre.map (fun k => word (stateNumber k)) ++ [w])
  | origin (w : Word) : ¬within 1 2 w → ConditionUnknown [3, w]
  | test (k w : Word) : k = 6 ∨ k = 7 → ¬within 1 3 w → ConditionUnknown [k, w]

/-- R137, R138: a view whose number is out of its range. -/
inductive ViewOutOfRange : List Word → Prop
  | expected (w : Word) : ¬within 1 48 w → ViewOutOfRange [3, w]
  | expectedBin (w : Word) : 3 < w.toNat → ViewOutOfRange [4, w]
  | content (w : Word) : ¬within 1 48 w → ViewOutOfRange [5, w]

/-- R128, first class: bodies of the form of their command (R165) that are refused with BAD_ARGUMENT, by command
code, whatever their keys hold. `unused` stands in the half that a key of odd length leaves. -/
inductive OutOfRange (unused : Byte) : Byte → List Word → Prop
  | lane (code : Byte) (w : Word) : code ∈ [(0x13 : Byte), 0x14, 0x1D] → 3 < w.toNat → OutOfRange unused code [w]
  | outlet (code : Byte) (w : Word) :
    code ∈ [(0x08 : Byte), 0x0A, 0x0B, 0x0D] → ¬within 1 48 w → OutOfRange unused code [w]
  | readGroup (w : Word) : ¬within 1 15 w → OutOfRange unused 0x10 [w]
  | readRule (w : Word) : 127 < w.toNat → OutOfRange unused 0x12 [w]
  | defineOutlet (k l n : Word) :
    ¬within 1 48 k ∨ 3 < l.toNat ∨ ¬within 1 4095 n → OutOfRange unused 0x07 [k, l, n]
  | setCapacity (k n : Word) : ¬within 1 48 k ∨ ¬within 1 4095 n → OutOfRange unused 0x09 [k, n]
  | readOutlet (w : Word) : ¬within 1 48 w → OutOfRange unused 0x0C [1, w]
  | readBin (w : Word) : 3 < w.toNat → OutOfRange unused 0x0C [2, w]
  | firstKind (code : Byte) (kinds : Nat) (w : Word) (rest : List Word) :
    (code, kinds) ∈ [((0x03 : Byte), 3), (0x04, 2), (0x05, 2), (0x06, 2), (0x0C, 2), (0x18, 2), (0x19, 2)] →
    ¬within 1 kinds w → OutOfRange unused code (w :: rest)
  | item (key : Key) (d : Word) (hold : Option Word) (tag : Option Word32) :
    key.length < 65536 → (15 < d.toNat ∨ ∃ h, hold = some h ∧ ¬within 1 15 h) →
    OutOfRange unused 0x01 (sentItem unused key d hold tag)
  | itemCount (items : List ItemDefinition) :
    (items = [] ∨ 12 < items.length ∧ items.length < 65536) → (∀ d ∈ items, d.key.length < 65536) →
    OutOfRange unused 0x02 (listForm (itemForm unused) items)
  | designation (code : Byte) (ref rest : List Word) :
    refOutOfRange ref →
    (code ∈ [(0x03 : Byte), 0x05] ∧ rest = [] ∨ code = 0x06 ∧ rest ∈ [[(0 : Word)], [1]] ∨
      code = 0x04 ∧ ∃ (g : Option (BitVec 16)) (cs : List Change), cs.length < 65536 ∧
        rest = guardForm g ++ listForm changeForm cs) →
    OutOfRange unused code (1 :: ref ++ rest)
  | cursorRead (c step access : Word) :
    7 < c.toNat → within 1 3 step → within 1 2 access → OutOfRange unused 0x03 [3, c, step, access]
  | cursorStep (c w : Word) (rest : List Word) : ¬within 1 3 w → OutOfRange unused 0x03 (3 :: c :: w :: rest)
  | cursorAccess (c step w : Word) (rest : List Word) :
    within 1 3 step → ¬within 1 2 w → OutOfRange unused 0x03 (3 :: c :: step :: w :: rest)
  | guardKind (d : Designation) (w : Word) (rest : List Word) :
    d.inRange → ¬within 1 2 w → OutOfRange unused 0x04 (designationForm unused d ++ w :: rest)
  | changes (d : Designation) (g : Option (BitVec 16)) (cs : List Change) :
    d.inRange →
    (cs = [] ∨ cs.length < 65536 ∧ ¬(cs.map Change.named).Nodup ∧ Config.repeatedNameRefused 0x04 = true) →
    OutOfRange unused 0x04 (designationForm unused d ++ guardForm g ++ listForm changeForm cs)
  | change (d : Designation) (g : Option (BitVec 16)) (pre post : List Change) (fails : List Word) :
    d.inRange → ChangeOutOfRange fails → pre.length + 1 + post.length < 65536 →
    OutOfRange unused 0x04 (designationForm unused d ++ guardForm g ++ word (pre.length + 1 + post.length) ::
      (pre.map changeForm).flatten ++ fails ++ (post.map changeForm).flatten)
  | changeUnknown (d : Designation) (g : Option (BitVec 16)) (n : Word) (pre : List Change) (fails rest : List Word) :
    d.inRange → ChangeUnknown fails → pre.length < n.toNat →
    OutOfRange unused 0x04
      (designationForm unused d ++ guardForm g ++ n :: (pre.map changeForm).flatten ++ fails ++ rest)
  | defineGroup (g : Word) (members : List Word) (policy : Word) (overflow : Option Word) :
    members.length < 65536 → within 1 3 policy →
    (¬within 1 15 g ∨ (∃ m ∈ members, ¬within 1 48 m) ∨ ¬members.Nodup ∨
      (∃ h, overflow = some h ∧ (¬within 1 15 h ∨ h = g))) →
    OutOfRange unused 0x0F (g :: listForm (fun m => [m]) members ++ [policy] ++ presenceForm (fun h => [h]) overflow)
  | policy (g : Word) (members : List Word) (w : Word) (rest : List Word) :
    members.length < 65536 → ¬within 1 3 w →
    OutOfRange unused 0x0F (g :: listForm (fun m => [m]) members ++ w :: rest)
  | writeRule (n enabled : Word) (positions : List Word) (lo hi priority group : Word) :
    positions.length < 65536 →
    (127 < n.toNat ∨ 1 < enabled.toNat ∨ patternFails positions lo hi ∨ 15 < priority.toNat ∨ 15 < group.toNat) →
    OutOfRange unused 0x11 ([n, enabled] ++ sentPattern positions lo hi ++ [priority, group])
  | parameters (l : Word) (ps : List Parameter) :
    ps.length < 65536 →
    (3 < l.toNat ∨ ps = [] ∨ ¬(ps.map Parameter.named).Nodup ∧ Config.repeatedNameRefused 0x15 = true) →
    OutOfRange unused 0x15 (l :: listForm parameterForm ps)
  | parameter (l : Word) (pre post : List Parameter) (fails : List Word) :
    ParameterOutOfRange fails → pre.length + 1 + post.length < 65536 →
    OutOfRange unused 0x15 (l :: word (pre.length + 1 + post.length) ::
      (pre.map parameterForm).flatten ++ fails ++ (post.map parameterForm).flatten)
  | parameterUnknown (l n : Word) (pre : List Parameter) (w : Word) (rest : List Word) :
    ¬within 1 4 w → pre.length < n.toNat →
    OutOfRange unused 0x15 (l :: n :: (pre.map parameterForm).flatten ++ w :: rest)
  | setCursor (c : Word) (v : View) (p : Placement) :
    7 < c.toNat → (∀ d, p = .atRecord d → d.inRange) → (∀ k, p = .atKey k → k.length < 65536) →
    OutOfRange unused 0x16 (c :: viewForm v ++ placementForm unused p)
  | setCursorView (c : Word) (view : List Word) (p : Placement) :
    ViewOutOfRange view → (∀ d, p = .atRecord d → d.inRange) → (∀ k, p = .atKey k → k.length < 65536) →
    OutOfRange unused 0x16 (c :: view ++ placementForm unused p)
  | setCursorRecord (c : Word) (v : View) (ref : List Word) :
    refOutOfRange ref → OutOfRange unused 0x16 (c :: viewForm v ++ 3 :: 1 :: ref)
  | setCursorKey (c : Word) (v : View) (k : Key) :
    k.length < 65536 → v ≠ .key → (∀ s, v ≠ .state s) →
    OutOfRange unused 0x16 (c :: viewForm v ++ 4 :: keyForm unused k)
  | viewKind (c w : Word) (rest : List Word) : ¬within 1 5 w → OutOfRange unused 0x16 (c :: w :: rest)
  | viewState (c w : Word) (rest : List Word) : ¬within 1 5 w → OutOfRange unused 0x16 (c :: 2 :: w :: rest)
  | placementKind (c : Word) (v : View) (w : Word) (rest : List Word) :
    ¬within 1 4 w → OutOfRange unused 0x16 (c :: viewForm v ++ w :: rest)
  | placementRecord (c : Word) (v : View) (w : Word) (rest : List Word) :
    ¬within 1 2 w → OutOfRange unused 0x16 (c :: viewForm v ++ 3 :: w :: rest)
  | search (c start limit : Word) (cs : List Condition) :
    within 1 2 start → cs.length < 65536 → (∀ x ∈ cs, x.sendable) →
    (7 < c.toNat ∨ ¬within 1 8192 limit ∨ ¬(cs.map Condition.named).Nodup) →
    OutOfRange unused 0x17 ([c, start, limit] ++ listForm conditionForm cs)
  | searchStart (c w : Word) (rest : List Word) : ¬within 1 2 w → OutOfRange unused 0x17 (c :: w :: rest)
  | condition (c start limit : Word) (pre post : List Condition) (fails : List Word) :
    within 1 2 start → ConditionOutOfRange fails → pre.length + 1 + post.length < 65536 →
    (∀ x ∈ pre ++ post, x.sendable) →
    OutOfRange unused 0x17 ([c, start, limit, word (pre.length + 1 + post.length)] ++
      (pre.map conditionForm).flatten ++ fails ++ (post.map conditionForm).flatten)
  | conditionUnknown (c start limit n : Word) (pre : List Condition) (fails rest : List Word) :
    within 1 2 start → ConditionUnknown fails → pre.length < n.toNat → (∀ x ∈ pre, x.sendable) →
    OutOfRange unused 0x17 ([c, start, limit, n] ++ (pre.map conditionForm).flatten ++ fails ++ rest)

end Sys2Proof.Machine
end

