-- ==== Sys2Proof/Safety.lean ====
section
/-!
DEFINITION. What a sound state of the EV480 is, in the terms the statements use: the laws that the rules
say hold at the completion of every step, and the conditions under which an event does its work.
-/
namespace Sys2Proof.Machine

/-! ### Laws of the record store -/

/-- R3, R11: the records stand in ascending slot, every slot is one of the 8192, and the counts agree with
the records. -/
def State.recordsLaw (s : State) : Prop :=
  (s.store.records.Pairwise fun a b => a.ref.slot < b.ref.slot) ∧
  (∀ r ∈ s.store.records, r.ref.slot < Config.slotCount) ∧
  s.store.counts.inUse = s.store.records.length ∧
  ∀ k : StateKind,
    s.store.counts.of k = s.store.records.countP fun r => decide (stateKind r.state = k)

/-- R7, R8: the key index stands in strict key order and holds exactly the keys of the records in use,
each with its record. -/
def State.indexLaw (s : State) : Prop :=
  (s.store.keyIndex.Pairwise fun a b => keyBefore a.key b.key = true) ∧
  (∀ e ∈ s.store.keyIndex, ∃ r ∈ s.store.records, r.ref = e.ref ∧ r.key = e.key) ∧
  ∀ r ∈ s.store.records, ({ key := r.key, ref := r.ref } : IndexEntry) ∈ s.store.keyIndex

/-- R28, R41: reserved and held are the lengths of the expected and content lists, for bins too, and an
outlet that is not defined has its reset entry. -/
def State.listsLaw (s : State) : Prop :=
  (∀ k, (s.outlet k).reserved = (s.outlet k).expected.length ∧
    (s.outlet k).held = (s.outlet k).content.length ∧
    ((s.outlet k).definition = none → s.outlet k = OutletEntry.reset)) ∧
  ∀ l, (s.bin l).reserved = (s.bin l).expected.length

/-- R62, R81: a ROUTED record stands in the expected list of its assigned outlet, which lies on its lane,
or of its lane's bin; a SORTED record in the content list of its sorted outlet. -/
def State.recordPlaced (s : State) (r : ItemRecord) : Prop :=
  match r.state with
  | .routed (.outlet k) _ _ =>
    ∃ l, r.lane = some l ∧ (s.outlet k).definedOn l = true ∧ r.ref ∈ (s.outlet k).expected
  | .routed .bin _ _ => ∃ l, r.lane = some l ∧ r.ref ∈ (s.bin l).expected
  | .sorted k _ _ => (s.outlet k).definition.isSome = true ∧ r.ref ∈ (s.outlet k).content
  | .expected | .recirculating | .rejected => True

/-- R29, R62: a member of an outlet's expected list is a record ROUTED to it. -/
def State.expectedAt (s : State) (k : OutletId) (ref : Ref) : Prop :=
  ∃ r, s.record? ref = some r ∧ ∃ ordinal pending, r.state = .routed (.outlet k) ordinal pending

/-- R32, R62: a member of a bin's expected list is a record of the lane ROUTED to the bin. -/
def State.expectedInBin (s : State) (l : Lane) (ref : Ref) : Prop :=
  ∃ r, s.record? ref = some r ∧ r.lane = some l ∧ ∃ ordinal pending, r.state = .routed .bin ordinal pending

/-- R30, R81: a member of an outlet's content list is a record SORTED at it. -/
def State.sortedAt (s : State) (k : OutletId) (ref : Ref) : Prop :=
  ∃ r, s.record? ref = some r ∧ ∃ arrival stray, r.state = .sorted k arrival stray

/-- R62, R81: every ROUTED or SORTED record is in its list, every member of a list is a record whose state
puts it there, and no list holds a record twice. -/
def State.membershipLaw (s : State) : Prop :=
  (∀ r ∈ s.store.records, s.recordPlaced r) ∧
  (∀ k, (∀ ref ∈ (s.outlet k).expected, s.expectedAt k ref) ∧
    (∀ ref ∈ (s.outlet k).content, s.sortedAt k ref) ∧
    (s.outlet k).expected.Nodup ∧ (s.outlet k).content.Nodup) ∧
  ∀ l, (∀ ref ∈ (s.bin l).expected, s.expectedInBin l ref) ∧ (s.bin l).expected.Nodup

/-- Whether the numbers of the members of a list rise strictly from its head. -/
def risesBy (number : Ref → Word32) (refs : List Ref) : Prop :=
  refs.Pairwise fun a b => (number a).toNat < (number b).toNat

/-- R61: the induction ordinals of the records ROUTED on a lane are those its counter has issued and no two of
them are the same, and no record is ROUTED on a STOPPED lane (R108). -/
def State.ordinalsLaw (s : State) (l : Lane) : Prop :=
  ((s.lane l).state = .stopped → s.routedCount l = 0) ∧
  ∀ r ∈ s.store.records, ∀ p n pending, r.state = .routed p n pending → r.lane = some l →
    ((s.lane l).exhausted = false → n.toNat < (s.lane l).ordinalCounter.toNat) ∧
    ∀ q ∈ s.store.records, ∀ p' pending', q.state = .routed p' n pending' → q.lane = some l → q.ref = r.ref

/-- R29, R30, R31: an expected list stands in strictly ascending induction ordinal and a content list in
strictly ascending arrival ordinal, below the outlet's counter. -/
def State.orderLaw (s : State) : Prop :=
  (∀ k, risesBy s.ordinalOf (s.outlet k).expected ∧ risesBy s.arrivalOf (s.outlet k).content ∧
    ∀ ref ∈ (s.outlet k).content, (s.arrivalOf ref).toNat < (s.outlet k).arrivalCounter.toNat) ∧
  (∀ l, risesBy s.ordinalOf (s.bin l).expected) ∧ ∀ l, s.ordinalsLaw l

/-- R141: every cursor is at BEFORE_FIRST or AFTER_LAST, or on a member of its view. -/
def State.cursorsLaw (s : State) : Prop :=
  ∀ (c : CursorId) (ref : Ref), (s.cursor c).position = .record ref → ref ∈ s.members (s.cursor c).view

/-- R162: the two lines show what the attention list holds. -/
def State.linesLaw (s : State) : Prop :=
  (s.urgentLine = true ↔ ∃ e ∈ s.store.attention, e.urgent = true) ∧
  (s.routineLine = true ↔ ∃ e ∈ s.store.attention, e.urgent = false)

/-- R156, R159: no two entries of the attention list have the same subject, an entry's reason set is not empty and
stands in the order of its bits without repetition, and an ITEM entry names a record in use. -/
def State.attentionLaw (s : State) : Prop :=
  (s.store.attention.map (·.subject)).Nodup ∧
  ∀ e ∈ s.store.attention, e.reasons ≠ [] ∧ (e.reasons.Pairwise fun a b => reasonBit a < reasonBit b) ∧
    ∀ ref, e.subject = .item ref → (s.record? ref).isSome = true

/-! ### Laws of the lane units, the arbiter and the host engine -/

/-- R168: while the power-on reset pin is asserted every block has its reset value; the level of the
host-channel reset line and the events that wait are the environment's. -/
def State.resetLaw (s : State) : Prop :=
  s.resetHeld = true →
    s = { State.reset with
          host := { State.reset.host with lineHeld := s.host.lineHeld }
          resetHeld := true
          pending := s.pending }

/-- R110: a STOPPED lane's counter is 0 and unmarked, and a DRAINING lane has routed records. -/
def State.lanesLaw (s : State) : Prop :=
  ∀ l, ((s.lane l).state = .stopped → (s.lane l).ordinalCounter = 0 ∧ (s.lane l).exhausted = false) ∧
    ((s.lane l).state = .draining → 0 < s.routedCount l)

/-- The tickets that the late notices of a lane hold (log entry 5). -/
def LaneUnit.noticeTickets (u : LaneUnit) : List Nat :=
  u.workList.filterMap fun w => match w with
    | .lateNotice _ t => t
    | .revise _ | .linkFault => none

/-- R101: the outstanding requests of a lane never exceed 8. The rest says that the model's tickets are
each used once. -/
def LaneUnit.flowLaw (u : LaneUnit) : Prop :=
  u.outstanding ≤ Config.outstandingLimit ∧ u.noticeTickets.Nodup ∧
    ∀ t ∈ u.noticeTickets, t < u.lateTickets

/-- Whether a record is ROUTED on a lane and carries a pending revision. -/
def pendingOn (l : Lane) (r : ItemRecord) : Bool := decide (r.lane = some l) && (pendingField r.state).isSome

/-- R97: a lane's pending-revision count is the number of its ROUTED records that carry a pending
revision. -/
def State.pendingLaw (s : State) : Prop :=
  ∀ l, (s.lane l).pendingCount = s.store.records.countP (pendingOn l)

/-- R97, R103: the pending revisions of a lane never exceed 8, nor do its WAITING entries and revise items
together. -/
def LaneUnit.reviseLaw (u : LaneUnit) : Prop :=
  u.pendingCount ≤ Config.reviseLimit ∧
    u.reviseEntries.countP isWaiting + u.workList.countP isReviseItem ≤ Config.reviseLimit

/-- R87, R97, R104: the REVISEs of the outbound queue that have not begun to be sent have distinct induction ordinals,
and each is that of a record ROUTED on the lane with its target pending; with the one being sent at most 8 stand
there. A message that is finished outside the queue is the only one being sent (log entry 18). -/
def State.outboundLaw (s : State) (l : Lane) : Prop :=
  let u := s.lane l
  let unsent := if u.sending then u.outbound.drop 1 else u.outbound
  ((unsent.filterMap Message.reviseOrdinal).Nodup) ∧
  (∀ ordinal target, .revise ordinal target ∈ unsent →
    ∃ r ∈ s.store.records, r.lane = some l ∧ ∃ p, r.state = .routed p ordinal (some target)) ∧
  u.outbound.countP (fun m => m.reviseOrdinal.isSome) ≤ 8 ∧
  (u.finishing.isSome = true → u.sending = false)

/-- R120, R121: the host wait count is at most 4, and 0 while the host's request does not stand; no request
stands while the store is free. -/
def State.arbiterLaw (s : State) : Prop :=
  s.arbiter.hostWait ≤ Config.hostShare ∧
  (s.arbiter.hostRequest = false → s.arbiter.hostWait = 0) ∧
  (s.arbiter.busy = none → s.arbiter.hostRequest = false ∧ ∀ l : Lane, s.arbiter.laneRequests[l] = false)

/-- R126: the responses, the one that the command in flight will have and the one that the frame in
reception may have are never more than 4. R124: a frame in reception has body words to come. -/
def State.channelLaw (s : State) : Prop :=
  s.host.responses.length + (if s.host.inFlight.isSome then 1 else 0)
    + (if s.host.reception.isSome then 1 else 0) ≤ 4 ∧
  ∀ r, s.host.reception = some r → r.length ≠ 0

/-- What the statements about one event assume of a state: the records, the lanes and the lines are as the
rules say they are at the completion of every step. -/
def State.orderly (s : State) : Prop := s.recordsLaw ∧ s.lanesLaw ∧ s.linesLaw

/-! ### When an event does its work -/

/-- The event at the front of the queue is no release of a power-on reset too short to take effect, after which nothing
is known of the state (R168). -/
def State.noShortPowerOn (s : State) : Prop :=
  ∀ heldMicros rest, s.pending = .powerOnReset (.released heldMicros) :: rest →
    Config.powerOnMicros ≤ heldMicros

/-- The step of this host command is in progress. -/
abbrev State.hostSteps (s : State) (f : InFlight) (c : HostCommand) : Prop :=
  s.arbiter.busy = some .host ∧ s.host.inFlight = some f ∧ f.condition = .stepping ∧ f.command = c

/-- The step of what this lane has in hand is in progress. -/
abbrev State.laneSteps (s : State) (l : Lane) (h : InHand) : Prop :=
  s.arbiter.busy = some (.lane l) ∧ (s.lane l).inHand = some h

/-- The step of this item of the lane's internal work list is in progress. -/
abbrev State.itemSteps (s : State) (l : Lane) (w : WorkItem) : Prop :=
  s.laneSteps l .workItem ∧ (s.lane l).workList.head? = some w

/-- A whole frame of this code and body can be received: its body fits and neither reset is asserted, and its
header is in reception or can be acknowledged now (R124, R126). -/
abbrev State.takesFrame (s : State) (code : Byte) (body : List Word) : Prop :=
  s.host.lineHeld = false ∧ s.resetHeld = false ∧ body.length ≤ Config.bodyLimit ∧
    (s.host.reception = some { code := code, length := BitVec.ofNat 8 body.length } ∨
      s.host.reception = none ∧ s.host.responses.length ≤ Config.headerRoom)

/-- The state after a frame that is answered at once with this body: nothing is in reception, and the
response has joined the queue. -/
def State.answered (s : State) (code : Byte) (body : List Word) : State :=
  { s with
    host := { s.host with
      reception := none
      responses := s.host.responses ++ [{ code := code, body := body }] } }

/-- The command code and declared length of a header event (R164). -/
def eventHeader : Instr → Option (Byte × Byte)
  | .badFrame (.header code length) => some (code, length)
  | .createItem (.header length) => some (0x01, length)
  | .loadManifest (.header length) => some (0x02, length)
  | .readItem (.header length) | .readItemByCursor (.header length) => some (0x03, length)
  | .amendItem (.header length) => some (0x04, length)
  | .restoreItem (.header length) => some (0x05, length)
  | .retireItem (.header length) => some (0x06, length)
  | .defineOutlet (.header length) => some (0x07, length)
  | .undefineOutlet (.header length) => some (0x08, length)
  | .setCapacity (.header length) => some (0x09, length)
  | .closeOutlet (.header length) => some (0x0A, length)
  | .openOutlet (.header length) => some (0x0B, length)
  | .readOutlet (.header length) => some (0x0C, length)
  | .clearOutlet (.header length) => some (0x0D, length)
  | .defineGroup (.header length) => some (0x0F, length)
  | .readGroup (.header length) => some (0x10, length)
  | .writeRule (.header length) => some (0x11, length)
  | .readRule (.header length) => some (0x12, length)
  | .startLane (.header length) => some (0x13, length)
  | .stopLane (.header length) => some (0x14, length)
  | .setLaneParameters (.header length) => some (0x15, length)
  | .setCursor (.header length) => some (0x16, length)
  | .search (.header length) => some (0x17, length)
  | .takeAttention (.header length) => some (0x18, length)
  | .peekAttention (.header length) => some (0x19, length)
  | .readStatus (.header length) => some (0x1A, length)
  | .resetDirectory (.header length) => some (0x1B, length)
  | .abort (.header length) => some (0x1C, length)
  | .readLane (.header length) => some (0x1D, length)
  | _ => none

/-- The command code and body of the event that a whole frame of a store-step command is (R164). -/
def eventFrame : Instr → Option (Byte × List Word)
  | .createItem (.received body) => some (0x01, body)
  | .loadManifest (.received body) => some (0x02, body)
  | .readItem (.received body) | .readItemByCursor (.received body) => some (0x03, body)
  | .amendItem (.received body) => some (0x04, body)
  | .restoreItem (.received body) => some (0x05, body)
  | .retireItem (.received body) => some (0x06, body)
  | .defineOutlet (.received body) => some (0x07, body)
  | .undefineOutlet (.received body) => some (0x08, body)
  | .setCapacity (.received body) => some (0x09, body)
  | .closeOutlet (.received body) => some (0x0A, body)
  | .openOutlet (.received body) => some (0x0B, body)
  | .readOutlet (.received body) => some (0x0C, body)
  | .clearOutlet (.received body) => some (0x0D, body)
  | .defineGroup (.received body) => some (0x0F, body)
  | .readGroup (.received body) => some (0x10, body)
  | .writeRule (.received body) => some (0x11, body)
  | .readRule (.received body) => some (0x12, body)
  | .startLane (.received body) => some (0x13, body)
  | .stopLane (.received body) => some (0x14, body)
  | .setLaneParameters (.received body) => some (0x15, body)
  | .setCursor (.received body) => some (0x16, body)
  | .search (.received body) => some (0x17, body)
  | .takeAttention (.received body) => some (0x18, body)
  | .peekAttention (.received body) => some (0x19, body)
  | .resetDirectory (.received body) => some (0x1B, body)
  | .readLane (.received body) => some (0x1D, body)
  | _ => none

/-- The judging of the body of a store-step command, by its code (R125, R128). -/
def judgeOf (code : Byte) : Option (List Word → Judged) :=
  match code.toNat with
  | 0x01 => some judgeCreateItem
  | 0x02 => some judgeLoadManifest
  | 0x03 => some judgeReadItem
  | 0x04 => some judgeAmendItem
  | 0x05 => some judgeRestoreItem
  | 0x06 => some judgeRetireItem
  | 0x07 => some judgeDefineOutlet
  | 0x08 => some judgeUndefineOutlet
  | 0x09 => some judgeSetCapacity
  | 0x0A => some judgeCloseOutlet
  | 0x0B => some judgeOpenOutlet
  | 0x0C => some judgeReadOutlet
  | 0x0D => some judgeClearOutlet
  | 0x0F => some judgeDefineGroup
  | 0x10 => some judgeReadGroup
  | 0x11 => some judgeWriteRule
  | 0x12 => some judgeReadRule
  | 0x13 => some judgeStartLane
  | 0x14 => some judgeStopLane
  | 0x15 => some judgeSetLaneParameters
  | 0x16 => some judgeSetCursor
  | 0x17 => some judgeSearch
  | 0x18 => some judgeTakeAttention
  | 0x19 => some judgePeekAttention
  | 0x1B => some judgeResetDirectory
  | 0x1D => some judgeReadLane
  | _ => none

/-! ### What a step leaves alone, and how a record moves -/

/-- The host engine, the arbiter, the clock, the reset pin, the queue of events and the rule table are as they
were. -/
def State.sameElsewhere (s t : State) : Prop :=
  t.host = s.host ∧ t.arbiter = s.arbiter ∧ t.timebase = s.timebase ∧ t.pending = s.pending ∧
    t.resetHeld = s.resetHeld ∧ t.store.rules = s.store.rules

/-- The completion of a changing step: the cursors have slipped by R141, and the lines show the attention
list. -/
def State.followsUp (s t : State) : Prop := (∀ c, t.cursor c = slipCursor s t (s.cursor c)) ∧ t.linesLaw

/-- Of the records, `r` alone has changed, to `new`; the counts follow it from its old state to its new
one, and keys, index and serials are as they were. -/
def State.recordBecomes (s t : State) (r new : ItemRecord) : Prop :=
  t.store.records = s.store.records.map (fun q => if q.ref = r.ref then new else q) ∧
    t.store.keyIndex = s.store.keyIndex ∧ t.store.serialCounter = s.store.serialCounter ∧
    t.store.counts = s.store.counts.move (stateKind r.state) (stateKind new.state)

/-- R20, R28, R72: the entry of outlet `k` once a record has left the list it is in, if that list is the
outlet's. -/
def OutletEntry.without (o : OutletEntry) (k : OutletId) (r : ItemRecord) : OutletEntry :=
  match r.state with
  | .routed (.outlet j) _ _ =>
    if j = k then { o with reserved := o.reserved - 1, expected := o.expected.erase r.ref } else o
  | .sorted j _ _ => if j = k then { o with held := o.held - 1, content := o.content.erase r.ref } else o
  | .routed .bin _ _ | .expected | .recirculating | .rejected => o

/-- R32: the bin of lane `l` once a record has left the list it is in, if that list is the bin's. -/
def Bin.without (b : Bin) (l : Lane) (r : ItemRecord) : Bin :=
  match r.state with
  | .routed .bin _ _ =>
    if r.lane = some l then { reserved := b.reserved - 1, expected := b.expected.erase r.ref } else b
  | .routed (.outlet _) _ _ | .sorted _ _ _ | .expected | .recirculating | .rejected => b

/-- R88, R93, R94, R97, R104: the lane unit once the pending revision of a record is gone: its entry is closed, the
count falls by one, and the REVISE of its ordinal leaves the outbound queue if it stands there unsent. That the
ordinal tells it is log entry 15. -/
def LaneUnit.settled (u : LaneUnit) (ref : Ref) (ordinal : Word32) : LaneUnit :=
  let others := fun ms : List Message => ms.filter fun m => decide (m.reviseOrdinal ≠ some ordinal)
  { u with
    reviseEntries := u.reviseEntries.filter fun e => decide (e.ref ≠ ref)
    pendingCount := u.pendingCount - 1
    outbound := if u.sending then u.outbound.take 1 ++ others (u.outbound.drop 1) else others u.outbound }

/-- R94: the unit of lane `l` once a record that is ROUTED on it is so no more: a pending revision of the
record is cleared (`LaneUnit.settled`). -/
def LaneUnit.without (u : LaneUnit) (l : Lane) (r : ItemRecord) : LaneUnit :=
  match r.state with
  | .routed _ ordinal (some _) => if r.lane = some l then u.settled r.ref ordinal else u
  | .routed _ _ none | .sorted _ _ _ | .expected | .recirculating | .rejected => u

/-- R110: whether the record is the last that is ROUTED on lane `l`, while the lane is DRAINING. -/
def State.lastOf (s : State) (l : Lane) (r : ItemRecord) : Bool :=
  decide ((s.lane l).state = .draining ∧ stateKind r.state = .routed ∧ r.lane = some l ∧ s.routedCount l = 1)

/-- R94, R110: the unit of lane `l` after a step in which the record has left its place on the lane: the lane
is STOPPED if it was DRAINING and this was its last record. -/
def State.laneWithout (s : State) (l : Lane) (r : ItemRecord) : LaneUnit :=
  let u := (s.lane l).without l r
  if s.lastOf l r then { u with state := .stopped, ordinalCounter := 0, exhausted := false } else u

/-- R110: the DRAINED reason of the lane that the record leaves as the last. -/
def State.drainedBy (s : State) (r : ItemRecord) : List (Subject × Reason) :=
  (allLanes.filter fun l => s.lastOf l r).map fun l => (.lane l, .drained)

/-- R74 to R78: the outcome that lane `l` is told of an arrival at outlet `k` of a record that is not SORTED
there: in or out of order at its assigned outlet, revised at the target of its pending revision, and a stray
elsewhere or when it is not ROUTED on the lane. -/
def State.arrivalOutcome (s : State) (l : Lane) (k : OutletId) (r : ItemRecord) : NoteOutcome :=
  match r.state with
  | .routed p _ pending =>
    if r.lane = some l then
      if p = .outlet k then
        if (s.outlet k).expected.head? = some r.ref then .sorted else .sortedOutOfOrder
      else if pending = some (.outlet k) then .sortedRevised
      else .stray
    else .stray
  | .expected | .sorted _ _ _ | .recirculating | .rejected => .stray

/-- R27: the FULL reason of an outlet that the step has moved from OPEN to FULL. -/
def filled (s t : State) (k : OutletId) : List (Subject × Reason) :=
  if (s.outlet k).state = .opened ∧ (t.outlet k).state = .full then [(.outlet k, .full)] else []

/-- R27 for a place: a bin is never full. -/
def filledAt (s t : State) : Place → List (Subject × Reason)
  | .bin => []
  | .outlet k => filled s t k

/-- R158: the attention list after the reasons of one step are added in their order. -/
def withReasons (es : List AttentionEntry) (xs : List (Subject × Reason)) : List AttentionEntry :=
  (inSubjectOrder xs).foldl (fun acc x => addReason x acc) es

/-- R20: a record is retired: its slot is free, its key and its attention entry are gone, it has left its
list and its lane, and the counts have followed. -/
def State.retires (s t : State) (r : ItemRecord) : Prop :=
  t.store.records = s.store.records.filter (fun q => decide (q.ref ≠ r.ref)) ∧
    t.store.keyIndex = s.store.keyIndex.filter (fun e => decide (e.ref ≠ r.ref)) ∧
    t.store.counts = s.store.counts.remove (stateKind r.state) ∧
    t.store.attention =
      withReasons (s.store.attention.filter fun e => decide (e.subject ≠ .item r.ref)) (s.drainedBy r) ∧
    (∀ k, t.outlet k = (s.outlet k).without k r) ∧ (∀ l, t.bin l = (s.bin l).without l r) ∧
    (∀ l, t.lane l = s.laneWithout l r) ∧ t.store.groups = s.store.groups ∧
    t.store.serialCounter = s.store.serialCounter ∧ s.sameElsewhere t ∧ s.followsUp t

/-- What the statements about a record that moves assume of a state besides: its lists and their members
are as the rules say. -/
def State.listed (s : State) : Prop := s.orderly ∧ s.listsLaw ∧ s.membershipLaw

/-! ### The results of an aborted command -/

/-- R134, R145, R152, R155: what the response ABORTED of a long command carries, `s` being the state when it is
placed: the outcomes of the items done, the count examined with the slip and the position, or the count retired.
What SEARCH reports is read by inference, and so is the count alone of a clearing without its start step (log
entry 8). -/
def partialResults (s : State) (f : InFlight) : List Word :=
  match f.command with
  | .loadManifest _ =>
    word f.progress.outcomes.length :: (f.progress.outcomes.map fun o => match o with
      | .created ref => [1, word ref.slot] ++ words32 ref.serial
      | .existing => [2]
      | .full => [3]).flatten
  | .search q =>
    [word f.progress.examined, if 0 < f.stepsDone ∧ (s.cursor q.cursor).slipped = true then 1 else 0] ++
      match (s.cursor q.cursor).position with
      | .record ref => [0, word ref.slot] ++ words32 ref.serial
      | .beforeFirst => [1]
      | .afterLast => [2]
  | .clearOutlet _ | .resetDirectory => [word f.progress.retired]
  | _ => []

end Sys2Proof.Machine
end

