-- ==== Sys2Proof/WellFormed.lean ====
section
/-!
DEFINITION. Which terms of `Instr` are events the ports can carry: host bodies of at most 255 words
(R124), lane requests whose key has passed R99, bad frames that are bad, whole lane frames that R99
discards.
-/
namespace Sys2Proof

/-- A host body has at most 255 words: its length is a byte of the header (R124, R164). -/
def bodyFits (body : List Word) : Bool := decide (body.length ≤ Config.bodyLimit)

/-- The body of a frame, when the event carries one, fits. -/
def FramePart.fits : FramePart → Bool
  | .header _ => true
  | .received body => bodyFits body

/-- The body of a command's frame, when the event carries one, fits. -/
def CommandPart.fits : CommandPart → Bool
  | .header _ => true
  | .received body => bodyFits body
  | .step => true

/-- A bad frame's code names no command, or its reception was cut short (R125). -/
def BadFramePart.fits : BadFramePart → Bool
  | .header code _ => !codeAssigned code
  | .received code body => !codeAssigned code && bodyFits body
  | .truncated _ => true

/-- The events that the part's ports can carry. -/
def Instr.wellFormed : Instr → Bool
  | .powerOnReset _ | .hostChannelReset | .hostChannelResetRelease => true
  | .badFrame part => part.fits
  | .readResponse words => decide (1 ≤ words)
  | .createItem part | .readItem part | .readItemByCursor part | .amendItem part
  | .restoreItem part | .retireItem part | .defineOutlet part | .undefineOutlet part
  | .setCapacity part | .closeOutlet part | .openOutlet part | .readOutlet part
  | .defineGroup part | .readGroup part | .writeRule part | .readRule part
  | .startLane part | .stopLane part | .setLaneParameters part | .readLane part
  | .setCursor part | .takeAttention part | .peekAttention part => part.fits
  | .loadManifest part | .clearOutlet part | .search part | .readStatus part
  | .resetDirectory part | .abort part => part.fits
  | .loadManifestItemStep | .clearOutletStartStep | .clearOutletRetiringStep
  | .clearOutletFinishStep | .clearOutletEndingStep | .searchStep
  | .resetDirectoryRetiringStep | .resetDirectoryFinishStep => true
  | .lookup _ key _ | .confirm _ key _ | .miss _ key => keyValid key
  | .discardedFrame _ bytes => wholeLaneFrame bytes && (judgeLaneFrame bytes).isNone
  | .reviseAnswer _ _ _ | .restart _ | .serviceStart _ | .lookupStep _ _ | .confirmStep _ _
  | .missStep _ _ | .restartStep _ _ | .decisionWindowExpiry _ _ | .reviseTimerExpiry _ _
  | .lateNoticeStep _ _ | .linkFaultNoticeStep _ _ | .answeredTakenStep _ _
  | .answeredTooLateStep _ _ | .expiredStep _ _ | .messageSent _ => true

end Sys2Proof
end

