-- ==== Sys2Proof/Certificates/Slice0/Obligations.lean ====
section
/-!
DEFINITION. The statements for the provers. Each docstring names the rule it formalises, or says that the
statement is the model's choice and names the log entry.
-/
section
open Sys2Proof Sys2Proof.Machine

/-! ### The machine as a whole -/

/-- The step of a state whose queue has an event in front is that event's meaning on the queue's rest. -/
def Obligations.StepTakesTheFrontEvent : Prop :=
  ∀ (s : State) (c : Instr) (rest : List Instr), s.pending = c :: rest →
    step s = exec c { s with pending := rest }

/-- R105, and the model's choice of log entry 4: with no event waiting one microsecond passes on the timebase, and
each link that has a message and is sending none begins to send it (that a message may be sent that stands in the
queue no more is log entry 18). R168: while the power-on reset pin is asserted both are held in reset. -/
def Obligations.EmptyQueuePassesOneMicrosecond : Prop :=
  ∀ s : State, s.pending = [] →
    (s.resetHeld = true → step s = .next s) ∧
    (s.resetHeld = false → ∃ t, step s = .next t ∧ t.timebase = s.timebase + 1 ∧ t.store = s.store ∧ t.host = s.host ∧
      t.arbiter = s.arbiter ∧ t.urgentLine = s.urgentLine ∧ t.routineLine = s.routineLine ∧
      t.resetHeld = false ∧ t.pending = [] ∧
      ∀ l, t.lane l = { s.lane l with
        sending := (s.lane l).sending || ((s.lane l).finishing.isNone && !(s.lane l).outbound.isEmpty) })

/-- R117, for the completion of a step: it never meets a condition it cannot settle. For every other event this is the
model's choice: one that the present state does not give rise to leaves the state as it is (log entry 1), and the
queue of events is the sender's, which no event changes, power-on reset included (log entry 14). -/
def Obligations.NoEventStopsOrTouchesTheQueue : Prop :=
  ∀ (i : Instr) (s : State), ∃ t : State, exec i s = .next t ∧ t.pending = s.pending

/-- R22, R48, R66, R98, R105, R116, R120, R131, R136, R163: what power-on reset leaves. R168: released after at least
10 µs it has given every block that value; while the pin is asserted every block is held there, and no event but its
release changes anything in the part. The level of the host-channel reset line and the events that wait for the part
are outside it. That the line counts as released at State.reset and keeps its level through a power-on reset is the
model's choice (log entry 3), that the assertion holds the part at once is read by inference (log entry 21), and the
start of the tickets at 0 is the model's choice (log entry 5). -/
def Obligations.PowerOnResetLeavesTheStatedValues : Prop :=
  (∀ (heldMicros : Nat) (s : State),
    let host := { State.reset.host with lineHeld := s.host.lineHeld }
    (10 ≤ heldMicros →
      exec (.powerOnReset (.released heldMicros)) s = .next
        { State.reset with host := host, pending := s.pending }) ∧
    exec (.powerOnReset .asserted) s = .next
      { State.reset with host := host, resetHeld := true, pending := s.pending }) ∧
  (∀ s t : State, s.resetLaw → step s = .next t → t.resetLaw) ∧
  State.reset.store.records = [] ∧ State.reset.store.keyIndex = [] ∧
  State.reset.store.serialCounter = 1 ∧
  State.reset.store.counts =
    { inUse := 0, expected := 0, routed := 0, sorted := 0, recirculating := 0, rejected := 0 } ∧
  (∀ k, State.reset.outlet k =
    { definition := none, closed := false, clearing := none, reserved := 0, held := 0, foreign := 0,
      arrivalCounter := 0, expected := [], content := [] }) ∧
  (∀ l, State.reset.bin l = { reserved := 0, expected := [] }) ∧
  (∀ g, State.reset.group g =
    { members := [], policy := .first, overflow := none, pointers := Vector.replicate 4 0 }) ∧
  (∀ n, State.reset.rule n =
    { enabled := false, pattern := { positions := [], minLength := 4, maxLength := 20 },
      priority := 0, group := 0 }) ∧
  State.reset.store.attention = [] ∧
  (∀ c, State.reset.cursor c = { view := .key, position := .beforeFirst, slipped := false }) ∧
  (∀ l, (State.reset.lane l).state = .stopped ∧ (State.reset.lane l).decisionWindow = 2000 ∧
    (State.reset.lane l).reviseWindow = 5000 ∧ (State.reset.lane l).lapLimit = 3 ∧
    (State.reset.lane l).holdGroup = 0 ∧ (State.reset.lane l).ordinalCounter = 0 ∧
    (State.reset.lane l).exhausted = false ∧ (State.reset.lane l).requests = [] ∧
    (State.reset.lane l).inHand = none ∧ (State.reset.lane l).outbound = [] ∧
    (State.reset.lane l).sending = false ∧ (State.reset.lane l).finishing = none ∧
    (State.reset.lane l).workList = [] ∧ (State.reset.lane l).reviseEntries = [] ∧
    (State.reset.lane l).pendingCount = 0) ∧
  (∀ l : Lane, State.reset.arbiter.laneRequests[l] = false) ∧ State.reset.arbiter.hostRequest = false ∧
  State.reset.arbiter.lastLane = 3 ∧ State.reset.arbiter.hostWait = 0 ∧
  State.reset.host.inFlight = none ∧ State.reset.host.responses = [] ∧ State.reset.host.reception = none ∧
  State.reset.timebase = 0 ∧ State.reset.urgentLine = false ∧ State.reset.routineLine = false ∧
  State.reset.resetHeld = false

/-- The laws of the next statements hold after power-on reset. -/
def Obligations.LawsHoldAtReset : Prop :=
  State.reset.recordsLaw ∧ State.reset.indexLaw ∧ State.reset.listsLaw ∧ State.reset.membershipLaw ∧
  State.reset.orderLaw ∧ State.reset.cursorsLaw ∧ State.reset.attentionLaw ∧ State.reset.linesLaw ∧
  State.reset.lanesLaw ∧ State.reset.arbiterLaw ∧ State.reset.resetLaw ∧ State.reset.channelLaw ∧
  State.reset.pendingLaw ∧
  ∀ l, (State.reset.lane l).flowLaw ∧ (State.reset.lane l).reviseLaw ∧ State.reset.outboundLaw l

/-! ### The laws that every step keeps -/

/-- R3, R7, R8, R11: every step leaves the records in distinct slots below 8192, the counts in agreement with them,
and the key index in strict key order with exactly their keys. R156, R158, R159: and it leaves at most one attention
entry for each subject, none with an empty reason set or with a reason twice, and no ITEM entry of a record that is
not in use. -/
def Obligations.RecordsAndKeyIndexStayInOrder : Prop :=
  ∀ s t : State, s.noShortPowerOn → s.recordsLaw → s.indexLaw → step s = .next t →
    t.recordsLaw ∧ t.indexLaw ∧ (s.attentionLaw → t.attentionLaw)

/-- R28, R41, R62, R81: every step leaves reserved and held equal to the lengths of the lists, an outlet that is not
defined with its reset entry, each ROUTED record in one expected list and each SORTED record in one content list, and
no other record in any. R29, R30, R31, R61: it leaves every expected list in strictly ascending induction ordinal and
every content list in strictly ascending arrival ordinal, below the outlet's counter, and the ordinals on a lane
distinct and below the lane's counter. -/
def Obligations.ListsHoldTheRightRecords : Prop :=
  ∀ s t : State, s.noShortPowerOn → s.recordsLaw → s.listsLaw → s.membershipLaw → step s = .next t →
    t.listsLaw ∧ t.membershipLaw ∧ (s.lanesLaw → s.orderLaw → t.orderLaw)

/-- R141: every step leaves each cursor at an end of its view or on a member of it. -/
def Obligations.CursorsLawIsKept : Prop :=
  ∀ s t : State, s.noShortPowerOn → s.cursorsLaw → step s = .next t → t.cursorsLaw

/-- R162: at the completion of every step the two lines show what the attention list holds. -/
def Obligations.AlertLinesFollowTheList : Prop :=
  ∀ s t : State, s.noShortPowerOn → s.linesLaw → step s = .next t → t.linesLaw

/-- R110: every step leaves a STOPPED lane's counter at 0 and a DRAINING lane with routed records. -/
def Obligations.LanesLawIsKept : Prop :=
  ∀ s t : State, s.noShortPowerOn → s.lanesLaw → step s = .next t → t.lanesLaw

/-- R101: the outstanding requests of a lane never exceed 8. The clauses about tickets are the model's own (log entry
5). -/
def Obligations.OutstandingNeverExceedsEight : Prop :=
  ∀ s t : State, s.noShortPowerOn → (∀ l, (s.lane l).flowLaw) → step s = .next t → ∀ l, (t.lane l).flowLaw

/-- R97, R103: the pending-revision count of a lane is the number of its records that carry a pending revision and
never exceeds 8, nor do its WAITING entries and revise items together. R87, R97, R101: each REVISE in the outbound
queue that has not begun to be sent corresponds to one pending revision of the lane, at most 8 stand there with the
one being sent, and the queue never holds more than 16 messages. That one being sent gives up its place in the queue
to a ninth is the model's choice (log entry 18), and that an answer withdraws an unsent one is read by inference (log
entry 17). -/
def Obligations.PendingRevisionsNeverExceedEight : Prop :=
  ∀ s t : State, s.noShortPowerOn → s.recordsLaw → s.pendingLaw → (∀ l, (s.lane l).reviseLaw) →
    step s = .next t → (t.pendingLaw ∧ ∀ l, (t.lane l).reviseLaw) ∧
      (s.orderLaw → (∀ l, (s.lane l).flowLaw) → (∀ l, s.outboundLaw l) → ∀ l, t.outboundLaw l ∧
        (t.lane l).outbound.countP (fun m => m.reviseOrdinal.isSome) ≤ 8 ∧ (t.lane l).outbound.length ≤ 16)

/-- R120, R121: the host wait count stays at most 4, and no request stands while the store is free. -/
def Obligations.ArbiterLawIsKept : Prop :=
  ∀ s t : State, s.noShortPowerOn → s.arbiterLaw → step s = .next t → t.arbiterLaw

/-- R126: the response queue never holds more than 4 responses. R124: a frame in reception has body words to come,
since one of body length 0 is received with its header. -/
def Obligations.ResponsesNeverExceedFour : Prop :=
  ∀ s t : State, s.noShortPowerOn → s.channelLaw → step s = .next t →
    t.channelLaw ∧ t.host.responses.length ≤ 4

/-! ### The host channel (chapters 8 and 12) -/

/-- R124, R126: a header word cuts short a frame in reception, which is answered BAD_FRAME with its own code; it is
acknowledged while the response queue holds at most 2, and not while a reset is asserted (R131, R168). A frame of body
length 0 is received when its header is acknowledged. -/
def Obligations.HeaderIsAcknowledgedWithRoom : Prop :=
  ∀ (i : Instr) (code length : Byte) (s : State), eventHeader i = some (code, length) →
    let t : State :=
      if s.host.lineHeld ∨ s.resetHeld then s
      else
        let rs := s.host.responses ++
          (s.host.reception.map fun r => ({ code := r.code, body := [2] } : Response)).toList
        { s with
          host := { s.host with
            responses := rs
            reception := if rs.length ≤ 2 then some { code := code, length := length } else none } }
    (length ≠ 0 → exec i s = .next t) ∧
    (length = 0 → i.wellFormed = true → exec i s = exec (hostFrameEvent code []) t)

/-- R125, R127, R128: a whole frame of a store-step command is answered BUSY while a command is in flight, and is
refused with what its judging says otherwise. In both cases nothing else changes. -/
def Obligations.FrameIsAnsweredBusyOrRefused : Prop :=
  ∀ (i : Instr) (code : Byte) (body : List Word) (judge : List Word → Judged) (s : State),
    eventFrame i = some (code, body) → judgeOf code = some judge → s.takesFrame code body →
    (s.host.inFlight.isSome = true → exec i s = .next (s.answered code [1])) ∧
    (s.host.inFlight = none → ∀ status results, judge body = .refused status results →
      exec i s = .next (s.answered code (status.word :: results)))

/-- R120, R121, R127: a command that passes its checks becomes the command in flight: its first step is granted at
once when the store is free, and its request stands when it is not. -/
def Obligations.AcceptedCommandAsksForItsStep : Prop :=
  ∀ (i : Instr) (code : Byte) (body : List Word) (judge : List Word → Judged) (c : HostCommand) (s : State),
    eventFrame i = some (code, body) → judgeOf code = some judge → s.takesFrame code body →
    s.host.inFlight = none → judge body = .command c → s.arbiterLaw →
    let flight := fun condition => some
      ({ command := c, condition := condition, stepsDone := 0, abortMark := false, silent := false,
         progress := { outcomes := [], examined := 0, retired := 0, foreignAside := 0 } } : InFlight)
    exec i s = .next
      (if s.arbiter.busy = none then
        { s with
          host := { s.host with reception := none, inFlight := flight .stepping }
          arbiter := { s.arbiter with busy := some .host } }
       else
        { s with
          host := { s.host with reception := none, inFlight := flight .waiting }
          arbiter := { s.arbiter with hostRequest := true } })

/-- R124, R125, R129, R135: a code that names no command, a frame cut short, and a body for ABORT or READ STATUS draw
BAD_FRAME with the code as received, and nothing else changes. While a reset is asserted nothing is cut short (R131,
R168). That a frame cut short without a header event before it is answered only if its header could be acknowledged is
the model's choice (log entry 9). -/
def Obligations.BadFramesAreAnsweredBadFrame : Prop :=
  (∀ (code : Byte) (body : List Word) (s : State),
    (code.toNat = 0 ∨ code.toNat = 0x0E ∨ 0x1D < code.toNat) → s.takesFrame code body →
    exec (.badFrame (.received code body)) s = .next (s.answered code [2])) ∧
  (∀ (code : Byte) (s : State), s.host.lineHeld = true ∨ s.resetHeld = true →
    exec (.badFrame (.truncated code)) s = .next s) ∧
  (∀ (code : Byte) (r : Reception) (s : State), s.host.lineHeld = false → s.resetHeld = false →
    s.host.reception = some r →
    exec (.badFrame (.truncated code)) s = .next (s.answered r.code [2])) ∧
  (∀ (code : Byte) (s : State), s.host.lineHeld = false → s.resetHeld = false → s.host.reception = none →
    s.host.responses.length ≤ 2 →
    exec (.badFrame (.truncated code)) s = .next (s.answered code [2])) ∧
  (∀ (body : List Word) (s : State), body ≠ [] → s.takesFrame 0x1A body →
    exec (.readStatus (.received body)) s = .next (s.answered 0x1A [2])) ∧
  ∀ (body : List Word) (s : State), body ≠ [] → s.takesFrame 0x1C body →
    exec (.abort (.received body)) s = .next (s.answered 0x1C [2])

/-- R124, R126: turning the direction line cuts short a frame in reception; the response at the head leaves the queue
when its header and all its body words have been read; while a reset is asserted no word passes (R131, R168). R135:
READ STATUS is answered at once, in flight or idle, with the part code, a capital letter, the counts, the lane states
and the command in flight. That one event reads so many words is the model's choice (log entry 9), and the numbers of
the lane states and of the condition are read by inference (log entry 7). -/
def Obligations.ResponsesAreReadAndStatusIsReported : Prop :=
  (∀ (words : Nat) (s : State), s.host.lineHeld = true ∨ s.resetHeld = true →
    exec (.readResponse words) s = .next s) ∧
  (∀ (words : Nat) (s : State), s.host.lineHeld = false → s.resetHeld = false →
    let rs := s.host.responses ++
      (s.host.reception.map fun r => ({ code := r.code, body := [2] } : Response)).toList
    exec (.readResponse words) s = .next
      { s with
        host := { s.host with
          reception := none
          responses := match rs with
            | [] => []
            | r :: rest => if r.body.length + 1 ≤ words then rest else r :: rest } }) ∧
  ∃ letter : Nat, 65 ≤ letter ∧ letter ≤ 90 ∧
    ∀ s : State, s.takesFrame 0x1A [] →
      let c := s.store.counts
      let laneWord := fun l : Lane => match (s.lane l).state with
        | .stopped => (1 : Word)
        | .running => 2
        | .draining => 3
      exec (.readStatus (.received [])) s = .next (s.answered 0x1A
        ([0, 0x0480, word letter, word c.inUse, word c.expected, word c.routed, word c.sorted,
          word c.recirculating, word c.rejected, laneWord 0, laneWord 1, laneWord 2, laneWord 3] ++
        match s.host.inFlight with
        | none => [0]
        | some f => [1, word f.command.code.toNat,
            match f.condition with
            | .waiting => 1
            | .stepping => 2
            | .ending => 3,
            word f.stepsDone, if f.abortMark then 1 else 0]))

/-- R129, R130: ABORT by the condition of the command in flight. A waiting command is ended at once with ABORTED and
its partial results, or enters ENDING when it is a clearing that has started; a stepping one is marked; an ending one
goes on. R134, R145, R152, R155: the partial results (`partialResults`); what an aborted SEARCH reports is read by
inference (log entry 8). -/
def Obligations.AbortGoesByTheCondition : Prop :=
  ∀ s : State, s.takesFrame 0x1C [] →
    (s.host.inFlight = none → exec (.abort (.received [])) s = .next (s.answered 0x1C [19])) ∧
    ∀ f, s.host.inFlight = some f →
      (f.condition = .waiting → s.arbiter.busy ≠ none →
        exec (.abort (.received [])) s = .next
          (let a := s.answered 0x1C [0]
           if (∃ k, f.command = .clearOutlet k) ∧ 0 < f.stepsDone then
            { a with
              host := { a.host with inFlight := some { f with condition := .ending } }
              arbiter := { s.arbiter with hostRequest := true, hostWait := 0 } }
           else
            { a with
              host := { a.host with
                inFlight := none
                responses := a.host.responses ++
                  if f.silent then []
                  else [{ code := f.command.code, body := 18 :: partialResults s f }] }
              arbiter := { s.arbiter with hostRequest := false, hostWait := 0 } })) ∧
      (f.condition = .stepping →
        exec (.abort (.received [])) s = .next
          (let a := s.answered 0x1C [0]
           { a with host := { a.host with inFlight := some { f with abortMark := true } } })) ∧
      (f.condition = .ending → exec (.abort (.received [])) s = .next (s.answered 0x1C [0]))

/-- R131: the assertion of the host-channel reset line discards the frame in reception and the responses and aborts
the command in flight, whose response will not be placed; its release lets frames in again. The record store and the
lane units are as they were. -/
def Obligations.HostChannelResetDiscardsResponses : Prop :=
  (∀ s : State, s.host.lineHeld = false →
    (s.host.inFlight = none →
      exec .hostChannelReset s = .next
        { s with host := { inFlight := none, responses := [], reception := none, lineHeld := true } }) ∧
    ∀ f, s.host.inFlight = some f →
      (f.condition = .waiting → s.arbiter.busy ≠ none →
        exec .hostChannelReset s = .next
          (if (∃ k, f.command = .clearOutlet k) ∧ 0 < f.stepsDone then
            { s with
              host := { inFlight := some { f with silent := true, condition := .ending },
                        responses := [], reception := none, lineHeld := true }
              arbiter := { s.arbiter with hostRequest := true, hostWait := 0 } }
           else
            { s with
              host := { inFlight := none, responses := [], reception := none, lineHeld := true }
              arbiter := { s.arbiter with hostRequest := false, hostWait := 0 } })) ∧
      (f.condition = .stepping →
        exec .hostChannelReset s = .next
          { s with host := { inFlight := some { f with silent := true, abortMark := true },
                             responses := [], reception := none, lineHeld := true } }) ∧
      (f.condition = .ending →
        exec .hostChannelReset s = .next
          { s with host := { inFlight := some { f with silent := true },
                             responses := [], reception := none, lineHeld := true } })) ∧
  ∀ s : State, exec .hostChannelResetRelease s = .next { s with host := { s.host with lineHeld := false } }

/-! ### The store arbiter and the completion of steps (chapters 7 and 8) -/

/-- R121: the host engine is granted at its share of 4, otherwise the requesting lane that comes first after the last
lane granted, otherwise the host engine; R120: what each grant does to the arbiter. While a step is in progress,
requests wait. -/
def Obligations.GrantsFollowTheArbiterOrder : Prop :=
  (∀ (s : State) (r : Requester), s.arbiter.busy = some r → s.arbitrate = s) ∧
  ∀ s : State, s.arbiter.busy = none →
    ((s.arbiter.hostRequest = true ∧ s.arbiter.hostWait = 4 ∨
        s.arbiter.hostRequest = true ∧ ∀ l : Lane, s.arbiter.laneRequests[l] = false) →
      s.arbitrate =
        { s with
          arbiter := { s.arbiter with hostRequest := false, hostWait := 0, busy := some .host }
          host := { s.host with
            inFlight := s.host.inFlight.map fun f =>
              if f.condition = .waiting then { f with condition := .stepping } else f } }) ∧
    (∀ l : Lane, s.arbiter.laneRequests[l] = true →
      ¬(s.arbiter.hostRequest = true ∧ s.arbiter.hostWait = 4) →
      (∀ j : Lane, s.arbiter.laneRequests[j] = true →
        l - s.arbiter.lastLane - 1 ≤ j - s.arbiter.lastLane - 1) →
      s.arbitrate =
        { s with
          arbiter := { s.arbiter with
            laneRequests := s.arbiter.laneRequests.set l.val false l.isLt
            lastLane := l
            hostWait := if s.arbiter.hostRequest then s.arbiter.hostWait + 1 else s.arbiter.hostWait
            busy := some (.lane l) } }) ∧
    (s.arbiter.hostRequest = false → (∀ l : Lane, s.arbiter.laneRequests[l] = false) → s.arbitrate = s)

/-- R117, R119, R127, R129: what the completion of a host step does besides its store work. The last step places the
response, unless a host-channel reset has discarded it, and the engine is idle; after another step the next one is
requested, or the abort pending mark ends the command. R64, R71, R103, R111: at the completion of a lane step the
reply joins the outbound queue and nothing is in hand; where a RESTART waited for the completion, the reply is
discarded and the RESTART is in service and asks for its step. Then the arbiter grants. That the operand `takeUp` says
whether the lane unit takes up what comes next at once is the model's choice (log entry 11), and that an abort pending
mark stays set in ENDING is read by inference (log entry 19). R134, R145, R155: a command ended by its mark reports
its partial results (`partialResults`; SEARCH by inference, log entry 8). -/
def Obligations.StepsCompleteForTheirRequester : Prop :=
  (∀ (s : State) (f : InFlight),
    let free := { s.arbiter with busy := none }
    (∀ status results, s.completeHostStep f (.done status results) =
      State.arbitrate { s with
        arbiter := free
        host := { s.host with
          inFlight := none
          responses := s.host.responses ++
            if f.silent then [] else [{ code := f.command.code, body := Status.word status :: results }] } }) ∧
    ∀ p : Progress,
      let g := { f with stepsDone := f.stepsDone + 1, progress := p }
      (f.abortMark = false → s.completeHostStep f (.more p) =
        State.arbitrate { s with
          arbiter := { free with hostRequest := true }
          host := { s.host with inFlight := some { g with condition := .waiting } } }) ∧
      (f.abortMark = true → (∃ k, f.command = .clearOutlet k) → s.completeHostStep f (.more p) =
        State.arbitrate { s with
          arbiter := { free with hostRequest := true }
          host := { s.host with inFlight := some { g with condition := .ending } } }) ∧
      (f.abortMark = true → (∀ k, f.command ≠ .clearOutlet k) → s.completeHostStep f (.more p) =
        State.arbitrate { s with
          arbiter := free
          host := { s.host with
            inFlight := none
            responses := s.host.responses ++
              if f.silent then [] else [{ code := f.command.code, body := 18 :: partialResults s g }] } })) ∧
  ∀ (s : State) (l : Lane) (reply : Option Message) (takeUp : Bool),
    let u := s.lane l
    let rest := if u.inHand = some .workItem then u.workList.tail else u.workList
    let freed := { s with arbiter := { s.arbiter with busy := none } }
    (u.restartWaiting = false → u.discardReply = false →
      let done := freed.setLane l
        { u with outbound := u.outbound ++ reply.toList, workList := rest, inHand := none }
      s.completeLaneStep l reply takeUp = (if takeUp then done.takeUpAll l else done).arbitrate) ∧
    (u.restartWaiting = true → u.discardReply = true →
      s.completeLaneStep l reply takeUp =
        ((freed.setLane l
          { u with workList := rest, inHand := some .restart, restartWaiting := false,
                   discardReply := false }).requestLaneStep l).arbitrate)

/-! ### Host commands that read (chapters 1 to 6) -/

/-- R15 and section 12.1.1: READ ITEM by slot and serial or by key returns the record in its layout, or NOT_FOUND, and
changes nothing of the record store. The unused half of a key's last word is a free value (log entry 22). -/
def Obligations.ReadItemReturnsTheRecord : Prop :=
  ∀ (s : State) (f : InFlight) (d : Designation), s.hostSteps f (.readItem d) →
    (s.designated? d = none →
      exec (.readItem .step) s = .next (s.completeHostStep f (.done .notFound []))) ∧
    ∀ r, s.designated? d = some r →
      exec (.readItem .step) s = .next (s.completeHostStep f (.done .ok
        ([word r.ref.slot, r.ref.serial.extractLsb' 16 16, r.ref.serial.extractLsb' 0 16, r.revision,
          match r.state with
            | .expected => 1
            | .routed _ _ _ => 2
            | .sorted _ _ _ => 3
            | .recirculating => 4
            | .rejected => 5,
          match r.origin with
            | .manifest => 0
            | .rule n => word (256 + n.val),
          word (256 * r.destination.val + r.hold.getD 0),
          word (256 * r.laps + (r.lane.map Fin.val).getD 0),
          word ((if r.hostTag.isSome then 1 else 0)
            + (match r.state with
              | .routed _ _ (some _) => 2
              | .sorted _ _ true => 4
              | _ => 0)
            + (if r.lane.isSome then 8 else 0)),
          (r.hostTag.getD 0).extractLsb' 16 16, (r.hostTag.getD 0).extractLsb' 0 16] ++
        (match r.state with
          | .routed p n pending =>
            [word (placeNumber p), n.extractLsb' 16 16, n.extractLsb' 0 16,
              word ((pending.map placeNumber).getD 0)]
          | .sorted k n _ => [word (outletNumber k), n.extractLsb' 16 16, n.extractLsb' 0 16, 0]
          | _ => [0, 0, 0, 0]) ++
        word r.key.length :: packBytes (Config.unusedKeyHalf r.key) r.key)))

/-- R45, R115: READ OUTLET of an outlet or a bin and READ LANE return what stands, field by field, and change nothing
of the record store or the lane units. The places and numbers of their words are read by inference (log entry 7), and
that a message finished outside the outbound queue is not counted there is the model's choice (log entry 18). -/
def Obligations.ReadOutletAndReadLaneReportWhatStands : Prop :=
  (∀ (s : State) (f : InFlight) (k : OutletId), s.hostSteps f (.readOutlet (.outlet k)) →
    let o := s.outlet k
    let head := fun (number : Ref → Word32) (refs : List Ref) => match refs with
      | [] => ([0] : List Word)
      | q :: _ => 1 :: word q.slot :: words32 q.serial ++ words32 (number q)
    exec (.readOutlet .step) s = .next (s.completeHostStep f (.done .ok
      ([word (outletStateNumber o.state), flagWord o.definition.isSome] ++
        (match o.definition with
          | none => [0, 0]
          | some d => [1, word d.lane.val, 1, word d.capacity]) ++
        [flagWord o.closed, flagWord o.clearing.isSome, word o.reserved, word o.held, word o.foreign,
          word (o.reserved + o.held + o.foreign)] ++
        words32 o.arrivalCounter ++ head s.ordinalOf o.expected ++ head s.arrivalOf o.content)))) ∧
  (∀ (s : State) (f : InFlight) (l : Lane), s.hostSteps f (.readOutlet (.bin l)) →
    exec (.readOutlet .step) s = .next (s.completeHostStep f (.done .ok
      ([word l.val, word (s.bin l).reserved] ++
        match (s.bin l).expected with
        | [] => [0]
        | q :: _ => 1 :: word q.slot :: words32 q.serial ++ words32 (s.ordinalOf q))))) ∧
  ∀ (s : State) (f : InFlight) (l : Lane), s.hostSteps f (.readLane l) →
    let u := s.lane l
    exec (.readLane .step) s = .next (s.completeHostStep f (.done .ok
      ([word (laneStateNumber u.state), word u.decisionWindow, word u.reviseWindow, word u.lapLimit,
          word u.holdGroup.val] ++ words32 u.ordinalCounter ++
        [flagWord u.exhausted, word (s.routedCount l), word u.pendingCount, word u.requests.length] ++
        (match u.inHand with
          | some (.request (.lookup _ _ _ _ _)) => [1, 1]
          | some (.request (.confirm _ _)) => [1, 2]
          | some (.request (.miss _)) => [1, 3]
          | some .restart => [1, 4]
          | some .workItem | none => [0]) ++
        [word u.outbound.length, word u.outstanding, word u.workList.length])))

/-- R46, R47, R69, R70: WRITE RULE and DEFINE GROUP replace their entry as a whole, the group's four rotation pointers
with 0, and READ RULE and READ GROUP return the entry as it stands. The places of the words that are read are read by
inference (log entry 7). -/
def Obligations.RulesAndGroupsAreWrittenAndReadWhole : Prop :=
  (∀ (s : State) (f : InFlight) (n : RuleId) (e : RuleEntry), s.hostSteps f (.writeRule n e) →
    ∃ t : State, exec (.writeRule .step) s = .next (t.completeHostStep f (.done .ok [])) ∧
      (∀ m, t.rule m = if m = n then e else s.rule m) ∧
      t = { s with store := { s.store with rules := t.store.rules } }) ∧
  (∀ (s : State) (f : InFlight) (n : RuleId), s.hostSteps f (.readRule n) →
    let e := s.rule n
    exec (.readRule .step) s = .next (s.completeHostStep f (.done .ok
      ([flagWord e.enabled, word e.pattern.positions.length] ++
        e.pattern.positions.map (fun b => word ((b.map BitVec.toNat).getD 0)) ++
        [word e.pattern.minLength, word e.pattern.maxLength, word e.priority, word e.group.val])))) ∧
  (∀ (s : State) (f : InFlight) (g : GroupId) (members : List OutletId) (policy : Policy)
    (overflow : Option GroupId), s.hostSteps f (.defineGroup g members policy overflow) →
    ∃ t : State, exec (.defineGroup .step) s = .next (t.completeHostStep f (.done .ok [])) ∧
      (∀ h, t.group h = if h = g then
        { members := members, policy := policy, overflow := overflow, pointers := Vector.replicate 4 0 }
        else s.group h) ∧
      t = { s with store := { s.store with groups := t.store.groups } }) ∧
  ∀ (s : State) (f : InFlight) (g : GroupId), s.hostSteps f (.readGroup g) →
    let e := s.group g
    exec (.readGroup .step) s = .next (s.completeHostStep f (.done .ok
      (word e.members.length :: e.members.map (fun k => word (outletNumber k)) ++
        [match e.policy with
          | .first => (1 : Word)
          | .rotate => 2
          | .least => 3] ++
        (match e.overflow with
          | none => [0]
          | some h => [1, word (groupNumber h)]) ++
        [word e.pointers[0], word e.pointers[1], word e.pointers[2], word e.pointers[3]])))

/-- R158: a reason added for a subject joins its entry, which keeps its place, or places a new entry at the tail; one
that stands already changes nothing. The reasons of one step are added in the order ITEM, OUTLET, LANE, DIRECTORY and
by ascending slot, outlet or lane, those of one subject as they came. R160, R161: TAKE ATTENTION removes the head of
the list, or its first urgent entry, and PEEK ATTENTION leaves it; both report it with the number of entries that
stand at the completion and how many are urgent. Where no entry can be chosen, both answer EMPTY. -/
def Obligations.AttentionIsTakenInListOrder : Prop :=
  (∀ (es : List AttentionEntry) (subject : Subject) (reason : Reason),
    ((∀ e ∈ es, e.subject ≠ subject) →
      addReason (subject, reason) es = es ++ [{ subject := subject, reasons := [reason] }]) ∧
    ∀ pre e post, es = pre ++ e :: post → (∀ x ∈ pre, x.subject ≠ subject) → e.subject = subject →
      (e.reasons.Pairwise fun a b => reasonBit a < reasonBit b) →
      (reason ∈ e.reasons → addReason (subject, reason) es = es) ∧
      (reason ∉ e.reasons → ∃ set, (∀ x, x ∈ set ↔ x = reason ∨ x ∈ e.reasons) ∧
        (set.Pairwise fun a b => reasonBit a < reasonBit b) ∧
        addReason (subject, reason) es = pre ++ { subject := subject, reasons := set } :: post)) ∧
  (∀ (es : List AttentionEntry) (xs : List (Subject × Reason)),
    let ys := inSubjectOrder xs
    let rank := fun x : Subject => match x with
      | .item ref => (0, ref.slot)
      | .outlet k => (1, k.val)
      | .lane l => (2, l.val)
      | .directory => (3, 0)
    withReasons es xs = ys.foldl (fun acc x => addReason x acc) es ∧ ys.Perm xs ∧
    ((∀ ref reason, (.item ref, reason) ∈ xs → ref.slot < 8192) →
      ys.Pairwise fun a b => (rank a.1).1 < (rank b.1).1 ∨
        (rank a.1).1 = (rank b.1).1 ∧ (rank a.1).2 ≤ (rank b.1).2) ∧
    ∀ subject, ys.filter (fun x => decide (x.1 = subject)) = xs.filter fun x => decide (x.1 = subject)) ∧
  ∀ (s : State) (f : InFlight) (urgentOnly : Bool),
    let told := fun (e : AttentionEntry) (es : List AttentionEntry) =>
      StepResult.done .ok (subjectWords e.subject ++
        [word (e.reasons.map fun r => 2 ^ reasonBit r).sum, word es.length,
          word (es.countP AttentionEntry.urgent)])
    (∀ pre e post, s.store.attention = pre ++ e :: post →
      (∀ x ∈ pre, urgentOnly = true ∧ x.urgent = false) → (urgentOnly = true → e.urgent = true) →
      (s.hostSteps f (.takeAttention urgentOnly) →
        exec (.takeAttention .step) s = .next
          (({ s with
              store := { s.store with attention := pre ++ post }
              urgentLine := (pre ++ post).any AttentionEntry.urgent
              routineLine := (pre ++ post).any fun x => !x.urgent } : State).completeHostStep f
            (told e (pre ++ post)))) ∧
      (s.hostSteps f (.peekAttention urgentOnly) →
        exec (.peekAttention .step) s = .next (s.completeHostStep f (told e s.store.attention)))) ∧
    ((∀ x ∈ s.store.attention, urgentOnly = true ∧ x.urgent = false) →
      (s.hostSteps f (.takeAttention urgentOnly) →
        exec (.takeAttention .step) s = .next (s.completeHostStep f (.done .empty []))) ∧
      (s.hostSteps f (.peekAttention urgentOnly) →
        exec (.peekAttention .step) s = .next (s.completeHostStep f (.done .empty []))))

/-! ### Host commands on lanes and outlets (chapters 2 and 6) -/

/-- R108, R109, R110: START LANE makes the lane RUNNING, and STOP LANE makes a RUNNING lane DRAINING while it has
routed records and STOPPED with the reason DRAINED when it has none. R114: SET LANE PARAMETERS replaces the parameters
it names, and those alone; that a parameter named twice takes the later value is the model's choice (log entry 6). The
numbers of the lane states are read by inference (log entry 7). -/
def Obligations.LanesAreStartedStoppedAndSet : Prop :=
  (∀ (s : State) (f : InFlight) (l : Lane),
    (s.hostSteps f (.startLane l) →
      exec (.startLane .step) s = .next
        ((s.setLane l { s.lane l with state := .running }).completeHostStep f (.done .ok [2]))) ∧
    (s.hostSteps f (.stopLane l) →
      exec (.stopLane .step) s = .next
        (match (s.lane l).state with
        | .stopped => s.completeHostStep f (.done .ok [1])
        | .draining => s.completeHostStep f (.done .ok [3])
        | .running =>
          if 0 < s.routedCount l then
            (s.setLane l { s.lane l with state := .draining }).completeHostStep f (.done .ok [3])
          else
            let es := addReason (.lane l, .drained) s.store.attention
            ({ s.setLane l { s.lane l with state := .stopped, ordinalCounter := 0, exhausted := false } with
              store := { s.store with attention := es }
              urgentLine := es.any AttentionEntry.urgent
              routineLine := es.any fun e => !e.urgent } : State).completeHostStep f (.done .ok [1])))) ∧
  ∀ (s : State) (f : InFlight) (l : Lane) (ps : List Parameter), s.hostSteps f (.setLaneParameters l ps) →
    let u := s.lane l
    exec (.setLaneParameters .step) s = .next ((s.setLane l
      { u with
        decisionWindow := (ps.reverse.findSome? fun p => match p with
          | .decisionWindow n => some n
          | _ => none).getD u.decisionWindow
        reviseWindow := (ps.reverse.findSome? fun p => match p with
          | .reviseWindow n => some n
          | _ => none).getD u.reviseWindow
        lapLimit := (ps.reverse.findSome? fun p => match p with
          | .lapLimit n => some n
          | _ => none).getD u.lapLimit
        holdGroup := (ps.reverse.findSome? fun p => match p with
          | .holdGroup g => some g
          | _ => none).getD u.holdGroup }).completeHostStep f (.done .ok []))

/-- R42, R43, R44, R27: CLOSE OUTLET, OPEN OUTLET and SET CAPACITY change their field of a defined outlet and answer
with the state derived from it; an outlet that SET CAPACITY moves from OPEN to FULL receives FULL. An outlet that is
not defined draws WRONG_STATE. The numbers of the derived states are read by inference (log entry 7). -/
def Obligations.OutletFieldsAreSet : Prop :=
  ∀ (s : State) (f : InFlight) (k : OutletId), s.orderly →
    let o := s.outlet k
    (∀ i c, (i = .closeOutlet .step ∧ c = .closeOutlet k ∨ i = .openOutlet .step ∧ c = .openOutlet k ∨
        i = .setCapacity .step ∧ ∃ n, c = .setCapacity k n) →
      o.definition = none → s.hostSteps f c →
      exec i s = .next (s.completeHostStep f (.done .wrongState []))) ∧
    ∀ d, o.definition = some d →
      (s.hostSteps f (.closeOutlet k) →
        exec (.closeOutlet .step) s = .next ((s.setOutlet k { o with closed := true }).completeHostStep f
          (.done .ok [if o.clearing.isSome then 2 else 3]))) ∧
      (s.hostSteps f (.openOutlet k) →
        exec (.openOutlet .step) s = .next ((s.setOutlet k { o with closed := false }).completeHostStep f
          (.done .ok [if o.clearing.isSome then 2
            else if d.capacity ≤ o.reserved + o.held + o.foreign then 4 else 5]))) ∧
      ∀ n, s.hostSteps f (.setCapacity k n) →
        let es := if o.clearing = none ∧ o.closed = false ∧ o.reserved + o.held + o.foreign < d.capacity ∧
            n ≤ o.reserved + o.held + o.foreign
          then addReason (.outlet k, .full) s.store.attention else s.store.attention
        exec (.setCapacity .step) s = .next
          (({ s.setOutlet k { o with definition := some { lane := d.lane, capacity := n } } with
              urgentLine := es.any AttentionEntry.urgent
              routineLine := es.any fun e => !e.urgent } : State).setAttention es |>.completeHostStep f
            (.done .ok [if o.clearing.isSome then 2 else if o.closed then 3
              else if n ≤ o.reserved + o.held + o.foreign then 4 else 5]))

/-- R40, R41: DEFINE OUTLET and UNDEFINE OUTLET refuse an outlet that holds records or foreign arrivals; otherwise the
one gives the outlet its lane and capacity and fresh counts, keeping a defined outlet's closed flag, and the other
takes it out of use. The numbers of the derived states are read by inference (log entry 7). -/
def Obligations.OutletsAreDefinedAndUndefined : Prop :=
  ∀ (s : State) (f : InFlight) (k : OutletId), s.orderly → s.listsLaw →
    let o := s.outlet k
    let holds := o.expected ≠ [] ∨ o.content ≠ [] ∨ o.foreign ≠ 0
    (∀ l capacity, 1 ≤ capacity → s.hostSteps f (.defineOutlet k l capacity) →
      (o.definition.isSome = true → holds →
        exec (.defineOutlet .step) s = .next (s.completeHostStep f (.done .outletNotEmpty []))) ∧
      (¬holds →
        exec (.defineOutlet .step) s = .next ((s.setOutlet k
          { definition := some { lane := l, capacity := capacity }
            closed := o.definition.isSome && o.closed, clearing := none, reserved := 0, held := 0
            foreign := 0, arrivalCounter := 0, expected := [], content := [] }).completeHostStep f
          (.done .ok [if o.definition.isSome && o.closed then 3 else 5])))) ∧
    (s.hostSteps f (.undefineOutlet k) →
      (o.definition = none →
        exec (.undefineOutlet .step) s = .next (s.completeHostStep f (.done .wrongState []))) ∧
      (o.definition.isSome = true → holds →
        exec (.undefineOutlet .step) s = .next (s.completeHostStep f (.done .outletNotEmpty []))) ∧
      (o.definition.isSome = true → ¬holds →
        exec (.undefineOutlet .step) s = .next ((s.setOutlet k
          { definition := none, closed := false, clearing := none, reserved := 0, held := 0, foreign := 0,
            arrivalCounter := 0, expected := [], content := [] }).completeHostStep f (.done .ok []))))

/-! ### Host commands on records (chapters 1 and 5) -/

/-- R3, R4, R12, R13, R133: CREATE ITEM and the item step of LOAD MANIFEST create a record in EXPECTED in the lowest
free slot with the counter's serial; a key in use draws EXISTS and a full directory FULL. -/
def Obligations.CreationTakesTheLowestFreeSlot : Prop :=
  ∀ (s : State) (f : InFlight) (d : ItemDefinition), s.orderly →
    let free := fun n : Nat => n < 8192 ∧ ∀ r ∈ s.store.records, r.ref.slot ≠ n
    let outcome := fun (o : ManifestOutcome) (t : State) =>
      (s.hostSteps f (.createItem d) → exec (.createItem .step) s = .next (t.completeHostStep f
        (.done
          (match o with
            | .created _ => .ok
            | .existing => .existing
            | .full => .full)
          (match o with
            | .created ref => [word ref.slot] ++ words32 ref.serial ++ [0]
            | .existing | .full => [])))) ∧
      ∀ items, s.hostSteps f (.loadManifest items) → items[f.progress.outcomes.length]? = some d →
        exec .loadManifestItemStep s = .next (t.completeHostStep f
          (if f.progress.outcomes.length + 1 < items.length then
            .more { f.progress with outcomes := f.progress.outcomes ++ [o] }
          else .done .ok (outcomesWords (f.progress.outcomes ++ [o]))))
    ((s.recordOfKey? d.key).isSome = true → outcome .existing s) ∧
    (s.recordOfKey? d.key = none → (∀ n, ¬free n) → outcome .full s) ∧
    ∀ slot, s.recordOfKey? d.key = none → free slot → (∀ n, n < slot → ¬free n) →
      let ref : Ref := { slot := slot, serial := s.store.serialCounter }
      let c := s.store.counts
      outcome (.created ref)
        { s with
          store := { s.store with
            records := insertRecord
              { ref := ref, key := d.key, origin := .manifest, state := .expected,
                destination := d.destination, hold := d.hold, hostTag := d.hostTag, laps := 0, lane := none,
                revision := 0 } s.store.records
            keyIndex := insertIndex { key := d.key, ref := ref } s.store.keyIndex
            serialCounter :=
              if s.store.serialCounter = 0xFFFFFFFF then 1 else s.store.serialCounter + 1
            counts := { c with inUse := c.inUse + 1, expected := c.expected + 1 } } }

/-- R9, R16, R17, R85: AMEND ITEM is refused for a record that does not exist, a guard that differs and a pending
revision; otherwise a record that is not ROUTED, or whose changes weigh no redirection, takes the changes alone, its
revision advancing by one when a field has changed. That a field named twice takes the later value is the model's
choice (log entry 6), and the place of the note in the response is read by inference (log entry 7). -/
def Obligations.AmendChangesTheNamedFields : Prop :=
  ∀ (s : State) (f : InFlight) (a : Amendment), s.orderly → s.hostSteps f (.amendItem a) →
    (s.designated? a.designation = none →
      exec (.amendItem .step) s = .next (s.completeHostStep f (.done .notFound []))) ∧
    ∀ r, s.designated? a.designation = some r →
      (∀ v, a.guardRevision = some v → v ≠ r.revision →
        exec (.amendItem .step) s = .next (s.completeHostStep f (.done .stale [r.revision]))) ∧
      ((∀ v, a.guardRevision = some v → v = r.revision) →
        ((pendingField r.state).isSome = true →
          exec (.amendItem .step) s = .next (s.completeHostStep f (.done .revisePending []))) ∧
        let r1 : ItemRecord :=
          { r with
            destination := (a.changes.reverse.findSome? fun c => match c with
              | .destination g => some g
              | _ => none).getD r.destination
            hold := (a.changes.reverse.findSome? fun c => match c with
              | .setHold n => some (some n)
              | .clearHold => some none
              | _ => none).getD r.hold
            hostTag := (a.changes.reverse.findSome? fun c => match c with
              | .setTag tag => some (some tag)
              | .clearTag => some none
              | _ => none).getD r.hostTag }
        (pendingField r.state = none →
          (stateKind r.state ≠ .routed ∨
            r1.destination = r.destination ∧ r1.hold.isSome = r.hold.isSome) →
          let r2 := if r1 = r then r else { r1 with revision := r.revision + 1 }
          exec (.amendItem .step) s = .next
            (({ s with
                store := { s.store with
                  records := s.store.records.map fun q => if q.ref = r.ref then r2 else q } } :
              State).completeHostStep f (.done .ok [r2.revision, 0]))))

/-- R9, R85, R86, R87: AMEND ITEM of a ROUTED record whose changes weigh a redirection applies them and makes the
redirection selection. Another place than the assigned one makes the lane send a REVISE, with an entry and a timer,
when the lane has room for one; otherwise the response carries the note REVISE_NOT_SENT. The selection makes the lap
test with the lane's lap limit as it stands, then starts from its hold group or from the destination, the assigned
outlet taken as without the record's own place. That of 8 REVISEs which stand in the outbound queue already the one
being sent gives up its place is the model's choice (log entry 18). That a field named twice takes the later value is
the model's choice (log entry 6), and the places of the note and the target in the response are read by inference (log
entry 7). -/
def Obligations.AmendOfARoutedRecordIssuesARevision : Prop :=
  ∀ (s : State) (f : InFlight) (a : Amendment) (r : ItemRecord) (assigned : Place) (ordinal : Word32)
    (l : Lane), s.orderly → s.hostSteps f (.amendItem a) → s.designated? a.designation = some r →
    (∀ v, a.guardRevision = some v → v = r.revision) → r.state = .routed assigned ordinal none →
    r.lane = some l →
    let r1 : ItemRecord :=
      { r with
        destination := (a.changes.reverse.findSome? fun c => match c with
          | .destination g => some g
          | _ => none).getD r.destination
        hold := (a.changes.reverse.findSome? fun c => match c with
          | .setHold n => some (some n)
          | .clearHold => some none
          | _ => none).getD r.hold
        hostTag := (a.changes.reverse.findSome? fun c => match c with
          | .setTag tag => some (some tag)
          | .clearTag => some none
          | _ => none).getD r.hostTag }
    (r1.destination ≠ r.destination ∨ r1.hold.isSome ≠ r.hold.isSome) →
    let u := s.lane l
    let given := match assigned with
      | .bin => none
      | .outlet k => some k
    let selected := s.select l (if r1.hold.isSome then u.holdGroup else r1.destination) given
    let target := if u.lapLimit ≤ r1.laps then .bin else selected.1
    let full : Bool := u.sending && (u.outbound.head?.bind Message.reviseOrdinal).isSome &&
      decide (8 ≤ u.outbound.countP fun m => m.reviseOrdinal.isSome)
    let changed : ItemRecord → State := fun new =>
      { s with
        store := { s.store with
          records := s.store.records.map fun q => if q.ref = r.ref then new else q
          groups := (if u.lapLimit ≤ r1.laps then s else selected.2.2).store.groups } }
    exec (.amendItem .step) s = .next
      (if target = assigned then
        (changed { r1 with revision := r.revision + 1 }).completeHostStep f (.done .ok [r.revision + 1, 0])
      else if u.pendingCount < 8 ∧
          u.reviseEntries.countP (fun e => decide (e.condition = .waiting)) +
            u.workList.countP isReviseItem < 8 then
        ((changed { r1 with revision := r.revision + 1, state := .routed assigned ordinal (some target) }).setLane l
          { u with
            pendingCount := u.pendingCount + 1
            reviseEntries := u.reviseEntries ++
              [{ ref := r.ref, ordinal := ordinal, target := target,
                 expiry := s.timebase + BitVec.ofNat 32 u.reviseWindow, condition := .waiting }]
            outbound := (if full then u.outbound.drop 1 else u.outbound) ++ [.revise ordinal target]
            sending := u.sending && !full
            finishing := if full then u.outbound.head? else u.finishing }).completeHostStep f
          (.done .ok [r.revision + 1, 0, word (placeNumber target)])
      else
        (changed { r1 with revision := r.revision + 1 }).completeHostStep f
          (.done .ok [r.revision + 1, 1, word (placeNumber target)]))

/-- R18: RESTORE ITEM returns a REJECTED or RECIRCULATING record to EXPECTED with laps 0 and no lane, and refuses a
record in another state with WRONG_STATE. -/
def Obligations.RestoreReturnsToExpected : Prop :=
  ∀ (s : State) (f : InFlight) (d : Designation), s.orderly → s.hostSteps f (.restoreItem d) →
    (s.designated? d = none →
      exec (.restoreItem .step) s = .next (s.completeHostStep f (.done .notFound []))) ∧
    ∀ r, s.designated? d = some r →
      (r.state ≠ .recirculating → r.state ≠ .rejected →
        exec (.restoreItem .step) s = .next (s.completeHostStep f (.done .wrongState []))) ∧
      (r.state = .recirculating ∨ r.state = .rejected →
        ∃ t : State, exec (.restoreItem .step) s = .next (t.completeHostStep f (.done .ok [r.revision + 1])) ∧
          s.recordBecomes t r
            { r with state := .expected, laps := 0, lane := none, revision := r.revision + 1 } ∧
          (∀ k, t.outlet k = s.outlet k) ∧ (∀ l, t.bin l = s.bin l) ∧ t.lanes = s.lanes ∧
          t.store.groups = s.store.groups ∧ t.store.attention = s.store.attention ∧
          s.sameElsewhere t ∧ s.followsUp t)

/-- R19, R20, R94, R110: RETIRE ITEM retires the record, unless it is ROUTED and FORCE is not given, and answers with
the slot, the serial and the state it was in. How the REVISE of a pending revision is found is log entry 15. -/
def Obligations.RetireRemovesTheRecord : Prop :=
  ∀ (s : State) (f : InFlight) (d : Designation) (force : Bool), s.listed →
    s.hostSteps f (.retireItem d force) →
    (s.designated? d = none →
      exec (.retireItem .step) s = .next (s.completeHostStep f (.done .notFound []))) ∧
    ∀ r, s.designated? d = some r →
      (stateKind r.state = .routed → force = false →
        exec (.retireItem .step) s = .next (s.completeHostStep f (.done .inTransit []))) ∧
      (stateKind r.state ≠ .routed ∨ force = true →
        ∃ t : State, s.retires t r ∧ exec (.retireItem .step) s = .next (t.completeHostStep f
          (.done .ok ([word r.ref.slot] ++ words32 r.ref.serial ++ [word (stateNumber (stateKind r.state))]))))

/-! ### Cursors and search (chapter 9) -/

/-- R8, R137: the members of the five kinds of view and their order: key order compares byte by byte, a proper prefix
first; KEY holds every record in use and STATE those of one state, both in key order; the EXPECTED and CONTENT views
are the lists, in their order. R141: a cursor on a record that a step removes from its view goes to the first member
that followed it and still is one, or to AFTER_LAST, with its flag set; any other cursor stays. -/
def Obligations.CursorsSlipToTheNextMember : Prop :=
  (∀ a b : Key, keyBefore a b = true ↔ ∃ i, a.take i = b.take i ∧
    (a.length = i ∧ i < b.length ∨ ∃ x y, a[i]? = some x ∧ b[i]? = some y ∧ x.toNat < y.toNat)) ∧
  (∀ s : State, s.recordsLaw → s.indexLaw →
    let inKeyOrder := fun refs : List Ref => refs.Pairwise fun a b =>
      ∃ q r, s.record? a = some q ∧ s.record? b = some r ∧ keyBefore q.key r.key = true
    let holds := fun (v : View) (p : ItemRecord → Prop) =>
      inKeyOrder (s.members v) ∧ ∀ ref, ref ∈ s.members v ↔ ∃ r ∈ s.store.records, r.ref = ref ∧ p r
    holds .key (fun _ => True) ∧
    holds (.state .expected) (fun r => r.state = .expected) ∧
    holds (.state .routed) (fun r => ∃ p n pending, r.state = .routed p n pending) ∧
    holds (.state .sorted) (fun r => ∃ k n stray, r.state = .sorted k n stray) ∧
    holds (.state .recirculating) (fun r => r.state = .recirculating) ∧
    holds (.state .rejected) (fun r => r.state = .rejected) ∧
    (∀ k, s.members (.expected k) = (s.outlet k).expected ∧ s.members (.content k) = (s.outlet k).content) ∧
    (∀ l, s.members (.expectedBin l) = (s.bin l).expected) ∧
    (s.orderLaw →
      (∀ k, risesBy s.ordinalOf (s.members (.expected k)) ∧ risesBy s.arrivalOf (s.members (.content k))) ∧
      ∀ l, risesBy s.ordinalOf (s.members (.expectedBin l)))) ∧
  ∀ (s t : State) (c : Cursor),
    (∀ ref pre post, c.position = .record ref → s.members c.view = pre ++ ref :: post → ref ∉ pre →
      ref ∉ t.members c.view →
      slipCursor s t c =
        { c with
          slipped := true
          position := match post.find? (fun q => decide (q ∈ t.members c.view)) with
            | some q => .record q
            | none => .afterLast }) ∧
    ((∀ ref, c.position = .record ref → ref ∈ s.members c.view → ref ∈ t.members c.view) →
      slipCursor s t c = c)

/-- R138: SET CURSOR gives the cursor its view, clears its flag and places it at the first or the last member, on a
member it designates, or at the first member whose key is not before the key given. The words of its response are read
by inference (log entry 7). -/
def Obligations.SetCursorPlacesTheCursor : Prop :=
  ∀ (s : State) (f : InFlight) (c : CursorId) (v : View) (p : Placement), s.hostSteps f (.setCursor c v p) →
    let placed := fun q : Position =>
      exec (.setCursor .step) s = .next
        ((s.setCursor c { view := v, position := q, slipped := false }).completeHostStep f
          (match q with
          | .record ref => .done .ok (word ref.slot :: words32 ref.serial)
          | .beforeFirst => .done .endOfView [1]
          | .afterLast => .done .endOfView [2]))
    match p with
    | .first => placed ((s.members v).head?.elim .afterLast .record)
    | .last => placed ((s.members v).getLast?.elim .beforeFirst .record)
    | .atKey key =>
      placed (((s.members v).find? fun ref =>
        match s.record? ref with
        | some r => !keyBefore r.key key
        | none => false).elim .afterLast .record)
    | .atRecord d =>
      (s.designated? d = none →
        exec (.setCursor .step) s = .next (s.completeHostStep f (.done .notFound []))) ∧
      ∀ r, s.designated? d = some r →
        (r.ref ∉ s.members v →
          exec (.setCursor .step) s = .next (s.completeHostStep f (.done .notMember []))) ∧
        (r.ref ∈ s.members v → placed (.record r.ref))

/-- R139, R140: READ ITEM by cursor moves the cursor by its step, returns the record it ends on with the value of the
slipped flag, or END with the position, and clears the flag. -/
def Obligations.ReadByCursorMovesAndReads : Prop :=
  ∀ (s : State) (f : InFlight) (c : CursorId) (step : CursorStep) (access : CursorAccess),
    s.hostSteps f (.readItemByCursor c step access) → s.cursorsLaw →
    let v := s.cursor c
    let ms := s.members v.view
    ms.Nodup → (∀ ref ∈ ms, (s.record? ref).isSome = true) →
    let goal : Position := match step, v.position with
      | .hold, p => p
      | .next, .beforeFirst => ms.head?.elim .afterLast .record
      | .next, .record ref =>
        if v.slipped then .record ref
        else (ms.dropWhile fun q => decide (q ≠ ref))[1]?.elim .afterLast .record
      | .next, .afterLast => .afterLast
      | .prev, .beforeFirst => .beforeFirst
      | .prev, .record ref =>
        (ms.takeWhile fun q => decide (q ≠ ref)).getLast?.elim .beforeFirst .record
      | .prev, .afterLast => ms.getLast?.elim .beforeFirst .record
    let flag : Word := if v.slipped then 1 else 0
    exec (.readItemByCursor .step) s = .next
      ((s.setCursor c { v with position := goal, slipped := false }).completeHostStep f
        (match goal with
        | .beforeFirst => .done .endOfView [flag, 1]
        | .afterLast => .done .endOfView [flag, 2]
        | .record ref => .done .ok (flag :: (s.record? ref).elim [] fun r =>
            match access with
            | .read => recordWords r
            | .skip => [word r.ref.slot] ++ words32 r.ref.serial ++
                [r.revision, word (stateNumber (stateKind r.state))])))

/-- R143, R144, R145: the first step of SEARCH places the cursor by the start, NEXT as READ ITEM NEXT does and HOLD
where it stands, from BEFORE_FIRST on the first member. Each step examines the record its cursor is on. A record that
meets every condition, each by its own test, ends the search with OK; otherwise the cursor goes on to the next member,
and the search ends with END where there is none and with LIMIT at its limit. The words of a position are read by
inference (log entry 7). -/
def Obligations.SearchExaminesOneRecord : Prop :=
  ∀ (s : State) (f : InFlight) (q : SearchQuery), s.hostSteps f (.search q) →
    let v := s.cursor q.cursor
    let examined := f.progress.examined + 1
    let flag : Word := if f.stepsDone ≠ 0 ∧ v.slipped = true then 1 else 0
    let first := f.stepsDone = 0
    let ms := s.members v.view
    let start : Position := match v.position, q.startNext with
      | .beforeFirst, _ => ms.head?.elim .afterLast .record
      | .record ref, true =>
        if v.slipped then .record ref else (ms.dropWhile fun x => decide (x ≠ ref))[1]?.elim .afterLast .record
      | .record ref, false => .record ref
      | .afterLast, _ => .afterLast
    let here : Position := if first then start else v.position
    let met := fun (r : ItemRecord) (c : Condition) => match c with
      | .key p => p.minLength ≤ r.key.length ∧ r.key.length ≤ p.maxLength ∧
        ∀ (i : Nat) (b x : Byte), p.positions[i]? = some (some b) → r.key[i]? = some x → x = b
      | .state ks => stateKind r.state ∈ ks
      | .origin fromRule => fromRule = true ↔ ∃ n, r.origin = .rule n
      | .ruleNumber n => r.origin = .rule n
      | .destination g => r.destination = g
      | .hold .absent => r.hold = none
      | .hold .present => r.hold ≠ none
      | .hold (.value n) => r.hold = some n
      | .hostTag .absent => r.hostTag = none
      | .hostTag .present => r.hostTag ≠ none
      | .hostTag (.value tag) => r.hostTag = some tag
      | .lane l => r.lane = some l
      | .laps n => n ≤ r.laps
      | .stray => ∃ k n, r.state = .sorted k n true
      | .pending => ∃ p n target, r.state = .routed p n (some target)
    let endAt := fun (p : Position) (status : Status) (n : Nat) (words : List Word) =>
      exec .searchStep s = .next
        ((s.setCursor q.cursor { v with position := p, slipped := false }).completeHostStep f
          (.done status ([word n, flag] ++ words)))
    (∀ ref r pre post,
      here = .record ref → s.record? ref = some r → ms = pre ++ ref :: post → ref ∉ pre →
      ((∀ c ∈ q.conditions, met r c) →
        endAt (.record ref) .ok examined ([word r.ref.slot] ++ words32 r.ref.serial ++
          [word (stateNumber (stateKind r.state)), r.revision])) ∧
      ((∃ c ∈ q.conditions, ¬met r c) →
        match post with
        | [] => endAt .afterLast .endOfView examined []
        | next :: _ =>
          if examined = q.limit then
            endAt (.record next) .limit examined (word next.slot :: words32 next.serial)
          else
            exec .searchStep s = .next
              ((s.setCursor q.cursor
                { v with position := .record next, slipped := v.slipped && decide (¬first) }).completeHostStep f
                (.more { f.progress with examined := examined })))) ∧
    (here = .afterLast → endAt .afterLast .endOfView f.progress.examined [])

/-! ### Clearing and directory reset (chapter 10) -/

/-- R148, R150, R152: the start step of CLEAR OUTLET sets the boundary; each retiring step retires the head of the
content list while it lies below the boundary; the finish step ends the clearing with CLEAR_DONE, and the ending step
of an aborted one without. -/
def Obligations.ClearingRetiresBelowTheBoundary : Prop :=
  ∀ (s : State) (f : InFlight) (k : OutletId), s.listed →
    let o := s.outlet k
    (s.hostSteps f (.clearOutlet k) → f.stepsDone = 0 →
      (o.definition = none →
        exec .clearOutletStartStep s = .next (s.completeHostStep f (.done .wrongState []))) ∧
      (o.definition.isSome = true →
        exec .clearOutletStartStep s = .next
          ((s.setOutlet k { o with clearing := some o.arrivalCounter, foreign := 0 }).completeHostStep f
            (.more { f.progress with foreignAside := o.foreign })))) ∧
    ∀ boundary, o.clearing = some boundary →
      let told := word f.progress.retired :: words32 boundary ++ [word f.progress.foreignAside]
      let es := addReason (.outlet k, .clearDone) s.store.attention
      (∀ ref rest r, s.hostSteps f (.clearOutlet k) → f.stepsDone ≠ 0 → o.content = ref :: rest →
        s.record? ref = some r → (s.arrivalOf ref).toNat < boundary.toNat →
        ∃ t : State, s.retires t r ∧ exec .clearOutletRetiringStep s = .next (t.completeHostStep f
          (.more { f.progress with retired := f.progress.retired + 1 }))) ∧
      (s.hostSteps f (.clearOutlet k) → f.stepsDone ≠ 0 →
        (∀ ref, o.content.head? = some ref → boundary.toNat ≤ (s.arrivalOf ref).toNat) →
        exec .clearOutletFinishStep s = .next
          (({ s.setOutlet k { o with clearing := none } with
              urgentLine := es.any AttentionEntry.urgent
              routineLine := es.any fun e => !e.urgent } : State).setAttention es |>.completeHostStep f
            (.done .ok told))) ∧
      (s.arbiter.busy = some .host → s.host.inFlight = some f → f.condition = .ending →
        f.command = .clearOutlet k →
        exec .clearOutletEndingStep s = .next
          ((s.setOutlet k { o with clearing := none }).completeHostStep f (.done .aborted told)))

/-- R153, R154: RESET DIRECTORY is refused at its first step unless every lane is STOPPED; each step retires the
record of the lowest slot in use, and the finish step empties what is left and reports the number retired. -/
def Obligations.ResetDirectoryRetiresEveryRecord : Prop :=
  ∀ (s : State) (f : InFlight), s.listed → s.hostSteps f .resetDirectory →
    (f.stepsDone = 0 → (∃ l, (s.lane l).state ≠ .stopped) →
      exec .resetDirectoryRetiringStep s = .next (s.completeHostStep f (.done .laneNotStopped []))) ∧
    ((f.stepsDone = 0 → ∀ l, (s.lane l).state = .stopped) →
      (∀ r ∈ s.store.records, (∀ q ∈ s.store.records, r.ref.slot ≤ q.ref.slot) →
        ∃ t : State, s.retires t r ∧ exec .resetDirectoryRetiringStep s = .next (t.completeHostStep f
          (.more { f.progress with retired := f.progress.retired + 1 }))) ∧
      (s.store.records = [] →
        ∃ t : State, exec .resetDirectoryFinishStep s = .next
            (t.completeHostStep f (.done .ok [word f.progress.retired])) ∧
          (∀ k, t.outlet k = if (s.outlet k).definition.isSome then
            { s.outlet k with held := 0, content := [], foreign := 0, arrivalCounter := 0 }
            else s.outlet k) ∧
          (∀ c, t.cursor c = { s.cursor c with position := .beforeFirst, slipped := false }) ∧
          t.store.attention = [] ∧ t.urgentLine = false ∧ t.routineLine = false ∧
          t.store.records = [] ∧ t.store.keyIndex = s.store.keyIndex ∧ t.store.counts = s.store.counts ∧
          (∀ l, t.bin l = s.bin l) ∧ t.lanes = s.lanes ∧ t.store.groups = s.store.groups ∧
          t.store.serialCounter = s.store.serialCounter ∧ s.sameElsewhere t))

/-! ### Frames that read back as what was sent (chapters 6, 8 and 12) -/

/-- R99, R166, R167: a lane frame built in the form of its kind, with its check, is received as the request it stands
for; one whose check is wrong, whose kind the part does not receive, whose body has not the form of its kind, or whose
key or answer is not valid, is discarded. Bytes outside a frame are skipped up to a start delimiter, and a frame ends
where its own length says, whatever bytes stand in it. -/
def Obligations.LaneFramesReadBackAsTheirRequests : Prop :=
  ∀ l : Lane,
    (∀ key : Key, keyValid key = true →
      let sized := BitVec.ofNat 8 key.length :: key
      (∀ tag, laneFrameEvent l (laneFrame 0x11 (bytes16 tag ++ sized)) = .lookup l key tag) ∧
      (∀ outlet, laneFrameEvent l (laneFrame 0x12 (outlet :: sized)) = .confirm l key outlet) ∧
      laneFrameEvent l (laneFrame 0x13 sized) = .miss l key) ∧
    (∀ ordinal,
      laneFrameEvent l (laneFrame 0x14 (bytes32 ordinal ++ [1])) = .reviseAnswer l ordinal .taken ∧
      laneFrameEvent l (laneFrame 0x14 (bytes32 ordinal ++ [2])) = .reviseAnswer l ordinal .tooLate) ∧
    laneFrameEvent l (laneFrame 0x15 []) = .restart l ∧
    (∀ (kind : Byte) (body : List Byte) (check : Word), body.length ≤ 255 →
      check ≠ crc16 (kind :: BitVec.ofNat 8 body.length :: body) →
      let frame := 0xA5 :: kind :: BitVec.ofNat 8 body.length :: body ++ bytes16 check
      laneFrameEvent l frame = .discardedFrame l frame) ∧
    (∀ body : List Byte, body.length ≤ 255 →
      let discarded := fun kind : Byte =>
        laneFrameEvent l (laneFrame kind body) = .discardedFrame l (laneFrame kind body)
      let noKey := fun (n : Byte) (key : List Byte) => key.length ≠ n.toNat ∨ keyValid key = false
      (∀ kind : Byte, kind.toNat < 0x11 ∨ 0x15 < kind.toNat → discarded kind) ∧
      ((∀ a b n key, body = a :: b :: n :: key → noKey n key) → discarded 0x11) ∧
      ((∀ a n key, body = a :: n :: key → noKey n key) → discarded 0x12) ∧
      ((∀ n key, body = n :: key → noKey n key) → discarded 0x13) ∧
      ((∀ a b c d answer, body = [a, b, c, d, answer] → answer ≠ 1 ∧ answer ≠ 2) → discarded 0x14) ∧
      (body ≠ [] → discarded 0x15)) ∧
    ∀ skipped : List Byte, 0xA5 ∉ skipped →
      (∀ (kind length : Byte) (inside rest : List Byte), inside.length = length.toNat + 2 →
        let frame := 0xA5 :: kind :: length :: inside
        linkEvents l (skipped ++ frame ++ rest) = laneFrameEvent l frame :: linkEvents l rest) ∧
      linkEvents l skipped = [] ∧ linkEvents l (skipped ++ [0xA5]) = [] ∧
      (∀ kind, linkEvents l (skipped ++ [0xA5, kind]) = []) ∧
      ∀ (kind length : Byte) (inside : List Byte), inside.length < length.toNat + 2 →
        linkEvents l (skipped ++ 0xA5 :: kind :: length :: inside) = []

/-- R164, R165 and each command's own rule: the body of a command in its form is judged to be the command it stands
for, whatever stands in the unused half of a key's last word, the members of DEFINE GROUP in any order. R125: a body
longer or shorter than its form draws BAD_FRAME. R128: an argument out of range, an unknown kind and a combination
that is not allowed draw BAD_ARGUMENT, whatever the keys hold (`OutOfRange`), and a key that is not valid draws
BAD_KEY where nothing draws BAD_ARGUMENT; R132: for LOAD MANIFEST with the index of the first item that fails. The
model's choices are the treatment of a change or parameter named twice (log entry 6), and read by inference are the
refusal of an enabled word other than 1 and 0 (log entry 16) and the order of some words (log entry 7). -/
def Obligations.CreateItemBodyReadsBack : Prop :=
  (∀ (c : HostCommand) (unused : Byte) (judge : List Word → Judged), judgeOf c.code = some judge → c.inRange →
    let body := c.form unused
    ((∀ k ∈ c.keysSent, keyValid k = true) → judge body = .command c) ∧
    ((∃ k ∈ c.keysSent, keyValid k = false) → (∀ items, c ≠ .loadManifest items) →
      judge body = .refused .badKey []) ∧
    (∀ w ws, judge (body ++ w :: ws) = .refused .badFrame []) ∧
    ∀ n, n < body.length → judge (body.take n) = .refused .badFrame []) ∧
  (∀ (unused code : Byte) (body : List Word) (judge : List Word → Judged), OutOfRange unused code body →
    judgeOf code = some judge → judge body = .refused .badArgument []) ∧
  (∀ (pre post : List ItemDefinition) (unused : Byte) (key : Key) (destination : Word) (hold : Option Word)
    (tag : Option Word32),
    (∀ d ∈ pre, d.inRange ∧ keyValid d.key = true) → (∀ d ∈ post, d.key.length < 65536) → key.length < 65536 →
    pre.length + 1 + post.length ≤ 12 →
    let body := word (pre.length + 1 + post.length) :: (pre.map (itemForm unused)).flatten ++
      sentItem unused key destination hold tag ++ (post.map (itemForm unused)).flatten
    let fits := destination.toNat ≤ 15 ∧ ∀ h, hold = some h → within 1 15 h
    (¬fits → judgeLoadManifest body = .refused .badArgument [word (pre.length + 1)]) ∧
    (fits → keyValid key = false → judgeLoadManifest body = .refused .badKey [word (pre.length + 1)])) ∧
  ∀ (g : GroupId) (members sent : List OutletId) (policy : Policy) (overflow : Option GroupId) (unused : Byte),
    (HostCommand.defineGroup g members policy overflow).inRange → sent.Perm members →
    judgeDefineGroup ((HostCommand.defineGroup g sent policy overflow).form unused) =
      .command (.defineGroup g members policy overflow)

/-! ### The lane links and queues (chapters 5 and 6) -/

/-- R6, R99, R100, R101, R102: a LOOKUP, CONFIRM or MISS with a valid key joins the queue while fewer than 8 are
outstanding, a LOOKUP with its expiry and the lane parameters of its arrival. Otherwise, and for a whole frame that
R99 discards, a link fault is marked; bytes that are no whole frame mark none (that such bytes can be an event is the
model's choice, log entry 20). R168: while the power-on reset pin is asserted no frame is received. -/
def Obligations.RequestsJoinTheQueueWithinTheLimit : Prop :=
  ∀ (s : State) (l : Lane) (key : Key),
    let u := s.lane l
    let valid := 4 ≤ key.length ∧ key.length ≤ 20 ∧ ∀ b ∈ key, 33 ≤ b.toNat ∧ b.toNat ≤ 126
    let joined := fun r : Request => s.setLane l { u with requests := u.requests ++ [r] }
    let faulted := s.setLane l
      { u with workList := if .linkFault ∈ u.workList then u.workList else u.workList ++ [.linkFault] }
    let frame := fun (kind length : Byte) (rest : List Byte) => 0xA5 :: kind :: length :: rest
    (s.resetHeld = false → valid → u.outstanding < 8 →
      (∀ tag, exec (.lookup l key tag) s = .next (joined
        (.lookup key tag (s.timebase + BitVec.ofNat 32 u.decisionWindow) u.lapLimit u.holdGroup))) ∧
      (∀ outlet, exec (.confirm l key outlet) s = .next (joined (.confirm key outlet))) ∧
      exec (.miss l key) s = .next (joined (.miss key))) ∧
    (s.resetHeld = false → ¬valid ∨ 8 ≤ u.outstanding →
      (∀ tag, exec (.lookup l key tag) s = .next faulted) ∧
      (∀ outlet, exec (.confirm l key outlet) s = .next faulted) ∧
      exec (.miss l key) s = .next faulted) ∧
    (∀ (kind length : Byte) (rest : List Byte), s.resetHeld = false → rest.length = length.toNat + 2 →
      judgeLaneFrame (frame kind length rest) = none →
      exec (.discardedFrame l (frame kind length rest)) s = .next faulted) ∧
    (∀ bytes : List Byte,
      (∀ kind length rest, bytes = frame kind length rest → rest.length ≠ length.toNat + 2) →
      exec (.discardedFrame l bytes) s = .next s) ∧
    (s.resetHeld = true →
      (∀ tag, exec (.lookup l key tag) s = .next s) ∧ (∀ outlet, exec (.confirm l key outlet) s = .next s) ∧
      exec (.miss l key) s = .next s ∧ (∀ bytes, exec (.discardedFrame l bytes) s = .next s) ∧
      (∀ ordinal reply, exec (.reviseAnswer l ordinal reply) s = .next s) ∧ exec (.restart l) s = .next s)

/-- R88, R89, R93: a REVISE ANSWER settles the WAITING entry of its ordinal and puts it on the internal work list; the
entry's timer does so when it has run out. Without such an entry an answer is discarded. That a timer counts as run
out for 2^31 microseconds from its expiry is the model's choice (log entry 4), and so is that an expiry event changes
nothing while the timer runs or where there is none (log entry 1). -/
def Obligations.AnswersAndTimersSettleTheWaitingEntry : Prop :=
  ∀ (s : State) (l : Lane) (ordinal : Word32),
    let u := s.lane l
    let waits := fun e : ReviseEntry => e.condition = .waiting ∧ e.ordinal = ordinal
    (∀ pre e post, u.reviseEntries = pre ++ e :: post → (∀ q ∈ pre, ¬waits q) → waits e → e ∉ post →
      let settled := fun c : ReviseCondition =>
        s.setLane l
          { u with
            reviseEntries := pre ++ { e with condition := c } :: post
            workList := u.workList ++ [.revise { e with condition := c }] }
      (s.resetHeld = false →
        exec (.reviseAnswer l ordinal .taken) s = .next (settled .answeredTaken) ∧
        exec (.reviseAnswer l ordinal .tooLate) s = .next (settled .answeredTooLate)) ∧
      ((s.timebase - e.expiry).toNat < 2 ^ 31 →
        exec (.reviseTimerExpiry l ordinal) s = .next (settled .expired))) ∧
    ((∀ e ∈ u.reviseEntries, ¬waits e) → ∀ reply, exec (.reviseAnswer l ordinal reply) s = .next s) ∧
    ((∀ e ∈ u.reviseEntries, waits e → 2 ^ 31 ≤ (s.timebase - e.expiry).toNat) →
      exec (.reviseTimerExpiry l ordinal) s = .next s)

/-- R111: a RESTART discards the requests, the unsent messages, the revise entries and all of the internal work list
but the link-fault notice. It becomes the request in service and asks for its step, or, while a step of the lane is in
progress, waits for that step's completion, whose reply will be discarded. What becomes of a ticket is the model's own
(log entry 5); a message finished outside the outbound queue goes on (log entry 18). -/
def Obligations.RestartEmptiesTheLaneUnit : Prop :=
  ∀ (s : State) (l : Lane),
    let u := s.lane l
    let kept := if u.sending then u.outbound.take 1 else []
    let faults := fun ws : List WorkItem => ws.filter fun w => decide (w = .linkFault)
    (s.resetHeld = false → s.arbiter.busy ≠ some (.lane l) →
      exec (.restart l) s = .next (((s.setLane l
        { u with requests := [], outbound := kept, workList := faults u.workList, reviseEntries := [],
                 inHand := some .restart, restartWaiting := false, discardReply := false }).requestLaneStep
          l).arbitrate)) ∧
    (s.resetHeld = false → s.arbiter.busy = some (.lane l) →
      let waiting := fun ws : List WorkItem =>
        { u with requests := [], outbound := kept, workList := ws, reviseEntries := [],
                 restartWaiting := true, discardReply := true }
      (u.inHand ≠ some .workItem → exec (.restart l) s = .next (s.setLane l (waiting (faults u.workList)))) ∧
      ∀ w ws, u.inHand = some .workItem → u.workList = w :: ws →
        exec (.restart l) s = .next (s.setLane l (waiting
          ((match w with
            | .lateNotice key (some t) =>
              .lateNotice key (if ∃ m ∈ kept, m.ticket = some t then some t else none)
            | w => w) :: faults ws))))

/-- R50, R103, R104, R106: a decision window that has run out takes its LOOKUP from the queue with ANSWER LATE and a
late notice; a message sent leaves the head of the outbound queue; and a lane unit with nothing in hand takes up its
oldest work item, else the head of its request queue, answering a LOOKUP of a STOPPED or DRAINING lane without a step.
That taking up all that comes next (`takeUpAll`) ends when it has something in hand or nothing waits is the model's
choice (log entry 11). The tickets are the model's own (log entry 5). A message that stands in the queue no more is
finished first (log entry 18). The model's choices are the test of the window against 2^31 microseconds and that a
message may be sent before it was seen to begin (log entry 4), and that an expiry event changes nothing while the
window runs (log entry 1). -/
def Obligations.LaneQueuesMoveOn : Prop :=
  ∀ (s : State) (l : Lane),
    let u := s.lane l
    let itemInHand := (s.setLane l { u with inHand := some .workItem }).requestLaneStep l
    let inService := fun (r : Request) (rest : List Request) =>
      (s.setLane l { u with requests := rest, inHand := some (.request r) }).requestLaneStep l
    let answered := fun (tag : Word) (reason : AnswerReason) (rest : List Request) =>
      s.setLane l { u with requests := rest, outbound := u.outbound ++ [.answer tag .bin reason none] }
    ((u.inHand ≠ none ∨ u.workList = [] ∧ u.requests = []) → s.takeUpAll l = s) ∧
    (∀ n key tag expiry lapLimit holdGroup,
      u.requests[n]? = some (.lookup key tag expiry lapLimit holdGroup) →
      exec (.decisionWindowExpiry l n) s = .next
        (if (s.timebase - expiry).toNat < 2 ^ 31 then
          s.setLane l
            { u with
              requests := u.requests.eraseIdx n
              outbound := u.outbound ++ [.answer tag .bin .late (some u.lateTickets)]
              workList := u.workList ++ [.lateNotice key (some u.lateTickets)]
              lateTickets := u.lateTickets + 1 }
        else s)) ∧
    (u.finishing.isSome = true → exec (.messageSent l) s = .next (s.setLane l { u with finishing := none })) ∧
    (∀ m ms, u.finishing = none → u.outbound = m :: ms →
      exec (.messageSent l) s = .next (s.setLane l
        { u with
          outbound := ms
          sending := false
          workList := match m with
            | .answer _ _ _ (some t) => u.workList.map fun w => match w with
              | .lateNotice key (some n) => .lateNotice key (if n = t then none else some n)
              | w => w
            | _ => u.workList })) ∧
    (u.inHand = none →
      (u.workList ≠ [] →
        exec (.serviceStart l) s = .next itemInHand.arbitrate ∧ s.takeUpAll l = itemInHand) ∧
      ∀ r rest, u.workList = [] → u.requests = r :: rest →
        (∀ reason, (u.state = .stopped ∧ reason = .stopped ∨ u.state = .draining ∧ reason = .draining) →
          ∀ key tag expiry lapLimit holdGroup, r = .lookup key tag expiry lapLimit holdGroup →
          exec (.serviceStart l) s = .next (answered tag reason rest).arbitrate ∧
            s.takeUpAll l = (answered tag reason rest).takeUpAll l) ∧
        ((u.state = .running ∨ (∃ key outlet, r = .confirm key outlet) ∨ ∃ key, r = .miss key) →
          exec (.serviceStart l) s = .next (inService r rest).arbitrate ∧ s.takeUpAll l = inService r rest))

/-! ### The LOOKUP step (chapters 2 and 3) -/

/-- R67, R68: a rule wins when it is enabled, its pattern matches the key, and among such rules it has the highest
priority and, among equals, the lowest number. -/
def Obligations.TheBestMatchingRuleWins : Prop :=
  ∀ (s : State) (key : Key),
    let wins := fun n : RuleId =>
      (s.rule n).enabled = true ∧ (s.rule n).pattern.minLength ≤ key.length ∧
        key.length ≤ (s.rule n).pattern.maxLength ∧
        ∀ (i : Nat) (b c : Byte), (s.rule n).pattern.positions[i]? = some (some b) → key[i]? = some c → c = b
    (s.matchRule key = none ↔ ∀ n, ¬wins n) ∧
    ∀ n, s.matchRule key = some n ↔ wins n ∧ ∀ m, wins m → m ≠ n →
      (s.rule m).priority < (s.rule n).priority ∨
        (s.rule m).priority = (s.rule n).priority ∧ n < m

/-- R35, R36, R37, R38, R39: a group's policy chooses among the members that are defined on the lane and OPEN;
selection goes to the overflow group only when there is none, one level only, and to the bin otherwise. -/
def Obligations.SelectionFollowsPolicyAndOverflow : Prop :=
  (∀ (s : State) (g : GroupId) (l : Lane) (given : Option OutletId),
    let e := s.group g
    let load := fun k : OutletId =>
      (s.outlet k).reserved + (s.outlet k).held + (s.outlet k).foreign - if given = some k then 1 else 0
    let candidate := fun k : OutletId => k ∈ e.members ∧ ∃ d, (s.outlet k).definition = some d ∧
      d.lane = l ∧ (s.outlet k).clearing = none ∧ (s.outlet k).closed = false ∧ load k < d.capacity
    (s.choose g l given = none ↔ ∀ k, ¬candidate k) ∧
    ∀ k t, s.choose g l given = some (k, t) → candidate k ∧
      match e.policy with
      | .first => t = s ∧ ∀ j, candidate j → k ≤ j
      | .least => t = s ∧ ∀ j, candidate j → load k < load j ∨ load k = load j ∧ k ≤ j
      | .rotate =>
        t = s.setGroup g { e with pointers := e.pointers.set l.val (outletNumber k) l.isLt } ∧
        ((∃ j, candidate j ∧ e.pointers[l] < outletNumber j) →
          e.pointers[l] < outletNumber k ∧ ∀ j, candidate j → e.pointers[l] < outletNumber j → k ≤ j) ∧
        ((∀ j, candidate j → outletNumber j ≤ e.pointers[l]) → ∀ j, candidate j → k ≤ j)) ∧
  ∀ (s : State) (l : Lane) (given : Option OutletId),
    s.select l 0 given = (.bin, .rejectGroup, s) ∧
    ∀ (g : GroupId) (n : Destination), n.val = g.val + 1 →
      (∀ k t, s.choose g l given = some (k, t) → s.select l n given = (.outlet k, .primary, t)) ∧
      (s.choose g l given = none →
        ((s.group g).overflow = none → s.select l n given = (.bin, .noOutlet, s)) ∧
        ∀ h, (s.group g).overflow = some h →
          (∀ k t, s.choose h l given = some (k, t) → s.select l n given = (.outlet k, .overflow, t)) ∧
          (s.choose h l given = none → s.select l n given = (.bin, .noOutlet, s)))

/-- R50 to R55, R61, R63: a LOOKUP step that routes nothing answers STOPPED or DRAINING by the lane state, REPEAT for
a record already ROUTED on the lane, UNKNOWN where no rule matches, DIRECTORY_FULL where no slot is free, which alone
adds a reason, and DRAINING where the counter is exhausted. -/
def Obligations.LookupAnswersWithoutRouting : Prop :=
  ∀ (s : State) (l : Lane) (takeUp : Bool) (key : Key) (tag : Word) (expiry : Word32) (lapLimit : Nat)
    (holdGroup : Destination), s.laneSteps l (.request (.lookup key tag expiry lapLimit holdGroup)) →
    let u := s.lane l
    let answers := fun (t : State) (p : Place) (reason : AnswerReason) =>
      exec (.lookupStep l takeUp) s = .next
        (t.completeLaneStep l (some (.answer tag p reason none)) takeUp)
    (u.state = .stopped → answers s .bin .stopped) ∧
    (u.state = .draining → answers s .bin .draining) ∧
    (u.state = .running →
      (s.recordOfKey? key = none →
        (s.matchRule key = none → answers s .bin .unknown) ∧
        ((s.matchRule key).isSome = true →
          ((∀ n, n < 8192 → ∃ r ∈ s.store.records, r.ref.slot = n) →
            let es := addReason (.directory, .directoryFull) s.store.attention
            answers
              (({ s with
                  urgentLine := es.any AttentionEntry.urgent
                  routineLine := es.any fun e => !e.urgent } : State).setAttention es) .bin .directoryFull) ∧
          (∀ n, n < 8192 → (∀ r ∈ s.store.records, r.ref.slot ≠ n) → u.exhausted = true →
            answers s .bin .draining))) ∧
      ∀ r, s.recordOfKey? key = some r →
        (∀ p ordinal pending, r.state = .routed p ordinal pending → r.lane = some l →
          answers s p .repeated) ∧
        (¬(stateKind r.state = .routed ∧ r.lane = some l) → u.exhausted = true →
          answers s .bin .draining))

/-- R54 to R63: a LOOKUP step routes a record that is not ROUTED on the lane: by the lap test to the bin, else by
selection from the hold group or the destination. The record leaves its old list and lane, joins the tail of the
place's expected list with the lane's next ordinal, and the counter advances, or is marked exhausted at its last
value. How the REVISE of a pending revision is found is log entry 15. -/
def Obligations.LookupRoutesTheRecord : Prop :=
  ∀ (s : State) (l : Lane) (takeUp : Bool) (key : Key) (tag : Word) (expiry : Word32) (lapLimit : Nat)
    (holdGroup : Destination) (r : ItemRecord),
    s.laneSteps l (.request (.lookup key tag expiry lapLimit holdGroup)) → s.listed →
    (s.lane l).state = .running → s.recordOfKey? key = some r →
    ¬(stateKind r.state = .routed ∧ r.lane = some l) → (s.lane l).exhausted = false →
    let u := s.lane l
    let last := u.ordinalCounter = 0xFFFFFFFF
    let selected := (s.leaveLists r).select l (if r.hold.isSome then holdGroup else r.destination) none
    let p := if lapLimit ≤ r.laps then .bin else selected.1
    let reason : AnswerReason :=
      if lapLimit ≤ r.laps then .lapLimit
      else match selected.2.1 with
        | .primary | .rejectGroup => if r.hold.isSome then .held else .direct
        | .overflow => .overflow
        | .noOutlet => .noOutlet
    ∃ t : State, exec (.lookupStep l takeUp) s = .next
        (t.completeLaneStep l (some (.answer tag p reason none)) takeUp) ∧
      s.recordBecomes t r
        { r with state := .routed p u.ordinalCounter none, lane := some l, revision := r.revision + 1 } ∧
      (∀ k, t.outlet k =
        let o := (s.outlet k).without k r
        if p = .outlet k then { o with reserved := o.reserved + 1, expected := o.expected ++ [r.ref] } else o) ∧
      (∀ j, t.bin j =
        let b := (s.bin j).without j r
        if p = .bin ∧ j = l then { reserved := b.reserved + 1, expected := b.expected ++ [r.ref] } else b) ∧
      (∀ j, t.lane j =
        if j = l then
          if last then { u with exhausted := true, state := .draining }
          else { u with ordinalCounter := u.ordinalCounter + 1 }
        else s.laneWithout j r) ∧
      t.store.groups = (if lapLimit ≤ r.laps then s else selected.2.2).store.groups ∧
      t.store.attention = withReasons s.store.attention
        ((if lapLimit ≤ r.laps then [(.item r.ref, .lapLimit)] else []) ++
          (if last then [(.lane l, .ordinalExhausted)] else []) ++ filledAt s t p ++ s.drainedBy r) ∧
      s.sameElsewhere t ∧ s.followsUp t

/-- R14, R52, R60, R61, R63: a LOOKUP of a key without a record creates one from the winning rule, in the lowest free
slot with the counter's serial, and routes it from the rule's group. -/
def Obligations.LookupCreatesFromTheWinningRule : Prop :=
  ∀ (s : State) (l : Lane) (takeUp : Bool) (key : Key) (tag : Word) (expiry : Word32) (lapLimit : Nat)
    (holdGroup : Destination) (n : RuleId) (slot : Nat),
    s.laneSteps l (.request (.lookup key tag expiry lapLimit holdGroup)) → s.orderly →
    (s.lane l).state = .running → s.recordOfKey? key = none → s.matchRule key = some n → slot < 8192 →
    (∀ r ∈ s.store.records, r.ref.slot ≠ slot) →
    (∀ m, m < slot → ∃ r ∈ s.store.records, r.ref.slot = m) → (s.lane l).exhausted = false →
    let u := s.lane l
    let last := u.ordinalCounter = 0xFFFFFFFF
    let ref : Ref := { slot := slot, serial := s.store.serialCounter }
    let selected := s.select l (s.rule n).group none
    let p := selected.1
    let c := s.store.counts
    ∃ t : State, exec (.lookupStep l takeUp) s = .next
        (t.completeLaneStep l (some (.answer tag p
          (match selected.2.1 with
            | .primary | .rejectGroup => .rule
            | .overflow => .overflow
            | .noOutlet => .noOutlet) none)) takeUp) ∧
      t.store.records = insertRecord
        { ref := ref, key := key, origin := .rule n, state := .routed p u.ordinalCounter none,
          destination := (s.rule n).group, hold := none, hostTag := none, laps := 0, lane := some l,
          revision := 0 } s.store.records ∧
      t.store.keyIndex = insertIndex { key := key, ref := ref } s.store.keyIndex ∧
      t.store.serialCounter =
        (if s.store.serialCounter = 0xFFFFFFFF then 1 else s.store.serialCounter + 1) ∧
      t.store.counts = { c with inUse := c.inUse + 1, routed := c.routed + 1 } ∧
      (∀ k, t.outlet k =
        let o := s.outlet k
        if p = .outlet k then { o with reserved := o.reserved + 1, expected := o.expected ++ [ref] } else o) ∧
      (∀ j, t.bin j =
        let b := s.bin j
        if p = .bin ∧ j = l then { reserved := b.reserved + 1, expected := b.expected ++ [ref] } else b) ∧
      (∀ j, t.lane j =
        if j = l then
          if last then { u with exhausted := true, state := .draining }
          else { u with ordinalCounter := u.ordinalCounter + 1 }
        else s.lane j) ∧
      t.store.groups = selected.2.2.store.groups ∧
      t.store.attention = withReasons s.store.attention
        ((if last then [(.lane l, .ordinalExhausted)] else []) ++ filledAt s t p) ∧
      s.sameElsewhere t ∧ s.followsUp t

/-! ### The CONFIRM and MISS steps (chapter 4) -/

/-- R74 to R78, R81: a CONFIRM at an outlet of the lane files the record there with the outlet's next arrival ordinal.
It is SORTED or SORTED_OUT_OF_ORDER at its assigned outlet, SORTED_REVISED at the target of its pending revision, and
a STRAY, with its mark and reason, elsewhere; at the outlet it is SORTED at, it is a DUPLICATE and nothing changes.
How the REVISE of a pending revision is found is log entry 15. -/
def Obligations.ConfirmFilesTheArrival : Prop :=
  ∀ (s : State) (l : Lane) (takeUp : Bool) (key : Key) (k : OutletId) (d : OutletDefinition) (r : ItemRecord),
    s.laneSteps l (.request (.confirm key (BitVec.ofNat 8 (k.val + 1)))) → s.listed →
    (s.outlet k).definition = some d → d.lane = l → s.recordOfKey? key = some r →
    let notes := fun (t : State) (outcome : NoteOutcome) =>
      exec (.confirmStep l takeUp) s = .next
        (t.completeLaneStep l (some (.note (key.take 4) outcome)) takeUp)
    ((∃ arrival stray, r.state = .sorted k arrival stray) → notes s .duplicate) ∧
    ((∀ arrival stray, r.state ≠ .sorted k arrival stray) → (s.outlet k).arrivalCounter ≠ 0xFFFFFFFF →
      let outcome := s.arrivalOutcome l k r
      ∃ t : State, notes t outcome ∧
        s.recordBecomes t r
          { r with state := .sorted k (s.outlet k).arrivalCounter (decide (outcome = .stray)),
                   revision := r.revision + 1 } ∧
        (∀ j, t.outlet j =
          let o := (s.outlet j).without j r
          if j = k then
            { o with held := o.held + 1, content := o.content ++ [r.ref],
                     arrivalCounter := o.arrivalCounter + 1 }
          else o) ∧
        (∀ j, t.bin j = (s.bin j).without j r) ∧ (∀ j, t.lane j = s.laneWithout j r) ∧
        t.store.groups = s.store.groups ∧
        t.store.attention = withReasons s.store.attention
          ((if outcome = .stray then [(.item r.ref, .stray)] else []) ++ filled s t k ++ s.drainedBy r) ∧
        s.sameElsewhere t ∧ s.followsUp t)

/-- R31, R74 to R78: an outlet whose arrival counter stands at its last value renumbers its content list before an
arrival: the members take 0, 1, 2 and so on in their order, the counter their number, and a clearing's boundary the
number of members that lay below it. A CONFIRM step that files a record there does so: a member whose ordinal changes
advances its revision, and the record arrives behind the members with their number as its ordinal. How the REVISE of a
pending revision is found is log entry 15. -/
def Obligations.ContentIsRenumberedAtTheLastOrdinal : Prop :=
  (∀ (s : State) (k : OutletId), s.recordsLaw → s.membershipLaw → (s.outlet k).content.length ≤ 8192 →
    let o := s.outlet k
    let t := s.renumberIfDue k
    (o.arrivalCounter ≠ 0xFFFFFFFF → t = s) ∧
    (o.arrivalCounter = 0xFFFFFFFF →
      t.outlet k =
        { o with
          arrivalCounter := BitVec.ofNat 32 o.content.length
          clearing := o.clearing.map fun b =>
            BitVec.ofNat 32 (o.content.countP fun q => decide ((s.arrivalOf q).toNat < b.toNat)) } ∧
      (∀ i ref, o.content[i]? = some ref → (t.arrivalOf ref).toNat = i) ∧
      (∀ ref, ref ∉ o.content → t.record? ref = s.record? ref) ∧
      (∀ ref r, s.record? ref = some r → ∃ q, t.record? ref = some q ∧ stateKind q.state = stateKind r.state ∧
        { q with state := r.state } = r) ∧
      (∀ j, j ≠ k → t.outlet j = s.outlet j) ∧
      t = { s with store := { s.store with records := t.store.records, outlets := t.store.outlets } })) ∧
  ∀ (s : State) (l : Lane) (takeUp : Bool) (key : Key) (k : OutletId) (d : OutletDefinition) (r : ItemRecord),
    s.laneSteps l (.request (.confirm key (BitVec.ofNat 8 (k.val + 1)))) → s.listed →
    (s.outlet k).definition = some d → d.lane = l → s.recordOfKey? key = some r →
    (∀ arrival stray, r.state ≠ .sorted k arrival stray) → (s.outlet k).arrivalCounter = 0xFFFFFFFF →
    let o := (s.outlet k).without k r
    let n := o.content.length
    let outcome := s.arrivalOutcome l k r
    let arrived : ItemRecord :=
      { r with state := .sorted k (BitVec.ofNat 32 n) (decide (outcome = .stray)), revision := r.revision + 1 }
    let renumbered := fun q : ItemRecord =>
      match q.state, o.content.findIdx? (fun ref => decide (ref = q.ref)) with
      | .sorted j arrival stray, some i =>
        if arrival = BitVec.ofNat 32 i then q
        else { q with state := .sorted j (BitVec.ofNat 32 i) stray, revision := q.revision + 1 }
      | _, _ => q
    ∃ t : State,
      exec (.confirmStep l takeUp) s = .next
        (t.completeLaneStep l (some (.note (key.take 4) outcome)) takeUp) ∧
      t.store.records = s.store.records.map (fun q => if q.ref = r.ref then arrived else renumbered q) ∧
      t.store.keyIndex = s.store.keyIndex ∧ t.store.serialCounter = s.store.serialCounter ∧
      t.store.counts = s.store.counts.move (stateKind r.state) .sorted ∧
      t.outlet k =
        { o with
          held := o.held + 1
          content := o.content ++ [r.ref]
          arrivalCounter := BitVec.ofNat 32 (n + 1)
          clearing := o.clearing.map fun b =>
            BitVec.ofNat 32 (o.content.countP fun q => decide ((s.arrivalOf q).toNat < b.toNat)) } ∧
      (∀ j, j ≠ k → t.outlet j = (s.outlet j).without j r) ∧
      (∀ j, t.bin j = (s.bin j).without j r) ∧ (∀ j, t.lane j = s.laneWithout j r) ∧
      t.store.groups = s.store.groups ∧
      t.store.attention = withReasons s.store.attention
        ((if outcome = .stray then [(.item r.ref, .stray)] else []) ++ filled s t k ++ s.drainedBy r) ∧
      s.sameElsewhere t ∧ s.followsUp t

/-- R73, R79, R80: a CONFIRM at an outlet that is not the lane's is noted BAD_OUTLET with LINK_FAULT for the lane; one
of a key without a record is a foreign arrival, counted up to 4095, or UNKNOWN at the bin; and one of a record at the
bin makes it REJECTED, unless it is so already. How the REVISE of a pending revision is found is log entry 15. -/
def Obligations.ConfirmOfBadOutletForeignOrBin : Prop :=
  ∀ (s : State) (l : Lane) (takeUp : Bool) (key : Key) (outlet : Byte),
    s.laneSteps l (.request (.confirm key outlet)) → s.listed →
    let notes := fun (t : State) (outcome : NoteOutcome) =>
      exec (.confirmStep l takeUp) s = .next
        (t.completeLaneStep l (some (.note (key.take 4) outcome)) takeUp)
    let withList := fun (t : State) (es : List AttentionEntry) =>
      ({ t with
          urgentLine := es.any AttentionEntry.urgent
          routineLine := es.any fun e => !e.urgent } : State).setAttention es
    let belongs := fun k : OutletId => outlet.toNat = k.val + 1 ∧
      ∃ d, (s.outlet k).definition = some d ∧ d.lane = l
    (outlet ≠ 0 → (∀ k, ¬belongs k) →
      notes (withList s (addReason (.lane l, .linkFault) s.store.attention)) .badOutlet) ∧
    (∀ k, belongs k → s.recordOfKey? key = none →
      let o := s.outlet k
      let t := s.setOutlet k { o with foreign := min 4095 (o.foreign + 1) }
      o.foreign ≤ 4095 →
      notes (withList t (withReasons s.store.attention ((.outlet k, .foreign) :: filled s t k))) .foreign) ∧
    (outlet = 0 →
      (s.recordOfKey? key = none → notes s .unknown) ∧
      ∀ r, s.recordOfKey? key = some r →
        (r.state = .rejected → notes s .duplicate) ∧
        (r.state ≠ .rejected →
          ∃ t : State, notes t .rejected ∧
            s.recordBecomes t r { r with state := .rejected, revision := r.revision + 1 } ∧
            (∀ k, t.outlet k = (s.outlet k).without k r) ∧ (∀ j, t.bin j = (s.bin j).without j r) ∧
            (∀ j, t.lane j = s.laneWithout j r) ∧ t.store.groups = s.store.groups ∧
            t.store.attention =
              withReasons s.store.attention ((.item r.ref, .rejected) :: s.drainedBy r) ∧
            s.sameElsewhere t ∧ s.followsUp t))

/-- R82, R83: a MISS of a record ROUTED on the lane recirculates it with one lap more, up to 7, and the reason
LAP_LIMIT at the lane's limit; of another record it is IGNORED, and of an unknown key UNKNOWN. How the REVISE of a
pending revision is found is log entry 15. -/
def Obligations.MissRecirculatesTheRecord : Prop :=
  ∀ (s : State) (l : Lane) (takeUp : Bool) (key : Key), s.laneSteps l (.request (.miss key)) → s.listed →
    let notes := fun (t : State) (outcome : NoteOutcome) =>
      exec (.missStep l takeUp) s = .next
        (t.completeLaneStep l (some (.note (key.take 4) outcome)) takeUp)
    (s.recordOfKey? key = none → notes s .unknown) ∧
    ∀ r, s.recordOfKey? key = some r →
      (¬(stateKind r.state = .routed ∧ r.lane = some l) → notes s .ignored) ∧
      (stateKind r.state = .routed → r.lane = some l →
        let laps := if r.laps < 7 then r.laps + 1 else r.laps
        ∃ t : State, notes t .recirculating ∧
          s.recordBecomes t r { r with state := .recirculating, laps := laps, revision := r.revision + 1 } ∧
          (∀ k, t.outlet k = (s.outlet k).without k r) ∧ (∀ j, t.bin j = (s.bin j).without j r) ∧
          (∀ j, t.lane j = s.laneWithout j r) ∧ t.store.groups = s.store.groups ∧
          t.store.attention = withReasons s.store.attention
            ((if (s.lane l).lapLimit ≤ laps then [(.item r.ref, .lapLimit)] else []) ++ s.drainedBy r) ∧
          s.sameElsewhere t ∧ s.followsUp t)

/-! ### RESTART and the internal work list (chapters 5 and 6) -/

/-- R110, R112: a RESTART step recirculates every record ROUTED on the lane with its laps as they were, empties the
expected lists of the lane's outlets and bin, drops its revisions and their unsent REVISEs, adds RESTARTED and stops a
DRAINING lane; RESTART DONE is its reply. -/
def Obligations.RestartStepRecirculatesTheLane : Prop :=
  ∀ (s : State) (l : Lane) (takeUp : Bool), s.laneSteps l .restart → s.orderly →
    let u := s.lane l
    let there := fun r : ItemRecord => decide (stateKind r.state = .routed ∧ r.lane = some l)
    let n := s.store.records.countP there
    let c := s.store.counts
    let replies := fun ms : List Message => ms.filter fun m => m.reviseOrdinal.isNone
    let v :=
      { u with
        pendingCount := 0
        reviseEntries := []
        outbound := if u.sending then u.outbound.take 1 ++ replies (u.outbound.drop 1) else replies u.outbound }
    ∃ t : State, exec (.restartStep l takeUp) s = .next (t.completeLaneStep l (some .restartDone) takeUp) ∧
      t.store.records = s.store.records.map (fun r =>
        if there r then { r with state := .recirculating, revision := r.revision + 1 } else r) ∧
      t.store.keyIndex = s.store.keyIndex ∧ t.store.serialCounter = s.store.serialCounter ∧
      t.store.counts = { c with routed := c.routed - n, recirculating := c.recirculating + n } ∧
      (∀ k, t.outlet k =
        if ∃ d, (s.outlet k).definition = some d ∧ d.lane = l then
          { s.outlet k with reserved := 0, expected := [] }
        else s.outlet k) ∧
      (∀ j, t.bin j = if j = l then { reserved := 0, expected := [] } else s.bin j) ∧
      (∀ j, t.lane j =
        if j = l then
          if u.state = .draining then { v with state := .stopped, ordinalCounter := 0, exhausted := false }
          else v
        else s.lane j) ∧
      t.store.groups = s.store.groups ∧
      t.store.attention = withReasons s.store.attention
        ((.lane l, .restarted) :: if u.state = .draining then [(.lane l, .drained)] else []) ∧
      s.sameElsewhere t ∧ s.followsUp t

/-- R100, R107: the step of a late notice adds LATE for the record of its key, if there is one, and that of the
link-fault notice adds LINK_FAULT for the lane. Nothing else changes. -/
def Obligations.NoticesAddTheirReason : Prop :=
  ∀ (s : State) (l : Lane) (takeUp : Bool),
    let adds := fun x : Subject × Reason =>
      let es := addReason x s.store.attention
      ({ s with
          urgentLine := es.any AttentionEntry.urgent
          routineLine := es.any fun e => !e.urgent } : State).setAttention es
    (∀ key ticket, s.itemSteps l (.lateNotice key ticket) →
      (s.recordOfKey? key = none →
        exec (.lateNoticeStep l takeUp) s = .next (s.completeLaneStep l none takeUp)) ∧
      ∀ r, s.recordOfKey? key = some r →
        exec (.lateNoticeStep l takeUp) s = .next
          ((adds (.item r.ref, .late)).completeLaneStep l none takeUp)) ∧
    (s.itemSteps l .linkFault →
      exec (.linkFaultNoticeStep l takeUp) s = .next
        ((adds (.lane l, .linkFault)).completeLaneStep l none takeUp))

/-- R90, R91: the step of an ANSWERED TAKEN entry moves the record into its target's expected list at the place of its
ordinal; where the target has left the lane, the record stays and REVISE_REFUSED is added. In both cases the pending
revision is gone and its entry closed. R90 and R91 do not name the REVISE: that one still unsent is withdrawn is read
from R97 (log entry 17), and how it is found is log entry 15. -/
def Obligations.TakenRevisionMovesTheRecord : Prop :=
  ∀ (s : State) (l : Lane) (takeUp : Bool) (e : ReviseEntry) (r : ItemRecord) (assigned old : Place),
    s.itemSteps l (.revise e) → e.condition = .answeredTaken → s.listed → s.record? e.ref = some r →
    r.state = .routed assigned e.ordinal (some old) → r.lane = some l →
    let u := s.lane l
    let onLane := ∀ k, e.target = .outlet k → ∃ d, (s.outlet k).definition = some d ∧ d.lane = l
    ∃ t : State,
      exec (.answeredTakenStep l takeUp) s = .next (t.completeLaneStep l none takeUp) ∧
      (∀ j, t.lane j = if j = l then u.settled e.ref e.ordinal else s.lane j) ∧
      t.store.groups = s.store.groups ∧ s.sameElsewhere t ∧ s.followsUp t ∧
      (onLane →
        s.recordBecomes t r
          { r with state := .routed e.target e.ordinal none, revision := r.revision + 1 } ∧
        (∀ k, t.outlet k =
          let o := (s.outlet k).without k r
          if e.target = .outlet k then
            { o with reserved := o.reserved + 1
                     expected := insertByOrdinal s.ordinalOf e.ref e.ordinal o.expected }
          else o) ∧
        (∀ j, t.bin j =
          let b := (s.bin j).without j r
          if e.target = .bin ∧ j = l then
            { reserved := b.reserved + 1
              expected := insertByOrdinal s.ordinalOf e.ref e.ordinal b.expected }
          else b) ∧
        t.store.attention = withReasons s.store.attention (filledAt s t e.target)) ∧
      (¬onLane →
        s.recordBecomes t r { r with state := .routed assigned e.ordinal none, revision := r.revision + 1 } ∧
        (∀ k, t.outlet k = s.outlet k) ∧ (∀ j, t.bin j = s.bin j) ∧
        t.store.attention = withReasons s.store.attention [(.item e.ref, .reviseRefused)])

/-- R92, R93, R95: the step of an ANSWERED TOO_LATE or an EXPIRED entry removes the pending revision and leaves the
record where it was, with REVISE_REFUSED or REVISE_UNANSWERED; the expiry withdraws an unsent REVISE, and that the
TOO_LATE step does so too is read from R97 (log entry 17). How it is found is log entry 15. An item whose revision
another step has cleared changes nothing. -/
def Obligations.OtherRevisionsLeaveTheRecord : Prop :=
  ∀ (s : State) (l : Lane) (takeUp : Bool) (e : ReviseEntry), s.itemSteps l (.revise e) →
    let runs := fun (i : Instr) (t : State) => exec i s = .next (t.completeLaneStep l none takeUp)
    ((∀ r assigned pending, s.record? e.ref = some r → r.lane = some l →
        r.state ≠ .routed assigned e.ordinal (some pending)) →
      (e.condition = .answeredTaken → runs (.answeredTakenStep l takeUp) s) ∧
      (e.condition = .answeredTooLate → runs (.answeredTooLateStep l takeUp) s) ∧
      (e.condition = .expired → runs (.expiredStep l takeUp) s)) ∧
    ∀ r assigned pending, s.orderly → s.record? e.ref = some r → r.lane = some l →
      r.state = .routed assigned e.ordinal (some pending) →
      let settles := fun (i : Instr) (reason : Reason) =>
        let es := addReason (.item e.ref, reason) s.store.attention
        let new : ItemRecord :=
          { r with state := .routed assigned e.ordinal none, revision := r.revision + 1 }
        runs i (({ s with
            store := { s.store with
              records := s.store.records.map (fun q => if q.ref = r.ref then new else q)
              attention := es }
            urgentLine := es.any AttentionEntry.urgent
            routineLine := es.any fun x => !x.urgent } : State).setLane l ((s.lane l).settled e.ref e.ordinal))
      (e.condition = .answeredTooLate → settles (.answeredTooLateStep l takeUp) .reviseRefused) ∧
      (e.condition = .expired → settles (.expiredStep l takeUp) .reviseUnanswered)

end
end

