-- ==== Sys2Proof/Laws/State.lean ====
section
/-!
SUPPORT. The small lemmas of the state's updates: what each leaves in every field, and what reading one
outlet, bin, group, rule, cursor or lane unit gives after writing one.
-/
namespace Sys2Proof.Machine

/-! ### Fields after an update -/

@[simp] theorem State.setStore_lanes (s : State) (t : Store) : (s.setStore t).lanes = s.lanes := rfl
@[simp] theorem State.setStore_host (s : State) (t : Store) : (s.setStore t).host = s.host := rfl
@[simp] theorem State.setStore_arbiter (s : State) (t : Store) : (s.setStore t).arbiter = s.arbiter := rfl
@[simp] theorem State.setStore_timebase (s : State) (t : Store) : (s.setStore t).timebase = s.timebase := rfl
@[simp] theorem State.setStore_urgentLine (s : State) (t : Store) : (s.setStore t).urgentLine = s.urgentLine := rfl
@[simp] theorem State.setStore_routineLine (s : State) (t : Store) : (s.setStore t).routineLine = s.routineLine := rfl
@[simp] theorem State.setStore_pending (s : State) (t : Store) : (s.setStore t).pending = s.pending := rfl
@[simp] theorem State.setStore_resetHeld (s : State) (t : Store) : (s.setStore t).resetHeld = s.resetHeld := rfl
@[simp] theorem State.setStore_store (s : State) (t : Store) : (s.setStore t).store = t := rfl
@[simp] theorem State.setOutlet_lanes (s : State) (k : OutletId) (o : OutletEntry) : (s.setOutlet k o).lanes = s.lanes := rfl
@[simp] theorem State.setOutlet_host (s : State) (k : OutletId) (o : OutletEntry) : (s.setOutlet k o).host = s.host := rfl
@[simp] theorem State.setOutlet_arbiter (s : State) (k : OutletId) (o : OutletEntry) : (s.setOutlet k o).arbiter = s.arbiter := rfl
@[simp] theorem State.setOutlet_timebase (s : State) (k : OutletId) (o : OutletEntry) : (s.setOutlet k o).timebase = s.timebase := rfl
@[simp] theorem State.setOutlet_urgentLine (s : State) (k : OutletId) (o : OutletEntry) : (s.setOutlet k o).urgentLine = s.urgentLine := rfl
@[simp] theorem State.setOutlet_routineLine (s : State) (k : OutletId) (o : OutletEntry) : (s.setOutlet k o).routineLine = s.routineLine := rfl
@[simp] theorem State.setOutlet_pending (s : State) (k : OutletId) (o : OutletEntry) : (s.setOutlet k o).pending = s.pending := rfl
@[simp] theorem State.setOutlet_resetHeld (s : State) (k : OutletId) (o : OutletEntry) : (s.setOutlet k o).resetHeld = s.resetHeld := rfl
@[simp] theorem State.setOutlet_records (s : State) (k : OutletId) (o : OutletEntry) : (s.setOutlet k o).store.records = s.store.records := rfl
@[simp] theorem State.setOutlet_keyIndex (s : State) (k : OutletId) (o : OutletEntry) : (s.setOutlet k o).store.keyIndex = s.store.keyIndex := rfl
@[simp] theorem State.setOutlet_serialCounter (s : State) (k : OutletId) (o : OutletEntry) : (s.setOutlet k o).store.serialCounter = s.store.serialCounter := rfl
@[simp] theorem State.setOutlet_counts (s : State) (k : OutletId) (o : OutletEntry) : (s.setOutlet k o).store.counts = s.store.counts := rfl
@[simp] theorem State.setOutlet_outlets (s : State) (k : OutletId) (o : OutletEntry) : (s.setOutlet k o).store.outlets = s.store.outlets.set k.val o k.isLt := rfl
@[simp] theorem State.setOutlet_bins (s : State) (k : OutletId) (o : OutletEntry) : (s.setOutlet k o).store.bins = s.store.bins := rfl
@[simp] theorem State.setOutlet_groups (s : State) (k : OutletId) (o : OutletEntry) : (s.setOutlet k o).store.groups = s.store.groups := rfl
@[simp] theorem State.setOutlet_rules (s : State) (k : OutletId) (o : OutletEntry) : (s.setOutlet k o).store.rules = s.store.rules := rfl
@[simp] theorem State.setOutlet_attention (s : State) (k : OutletId) (o : OutletEntry) : (s.setOutlet k o).store.attention = s.store.attention := rfl
@[simp] theorem State.setOutlet_cursors (s : State) (k : OutletId) (o : OutletEntry) : (s.setOutlet k o).store.cursors = s.store.cursors := rfl
@[simp] theorem State.setBin_lanes (s : State) (l : Lane) (b : Bin) : (s.setBin l b).lanes = s.lanes := rfl
@[simp] theorem State.setBin_host (s : State) (l : Lane) (b : Bin) : (s.setBin l b).host = s.host := rfl
@[simp] theorem State.setBin_arbiter (s : State) (l : Lane) (b : Bin) : (s.setBin l b).arbiter = s.arbiter := rfl
@[simp] theorem State.setBin_timebase (s : State) (l : Lane) (b : Bin) : (s.setBin l b).timebase = s.timebase := rfl
@[simp] theorem State.setBin_urgentLine (s : State) (l : Lane) (b : Bin) : (s.setBin l b).urgentLine = s.urgentLine := rfl
@[simp] theorem State.setBin_routineLine (s : State) (l : Lane) (b : Bin) : (s.setBin l b).routineLine = s.routineLine := rfl
@[simp] theorem State.setBin_pending (s : State) (l : Lane) (b : Bin) : (s.setBin l b).pending = s.pending := rfl
@[simp] theorem State.setBin_resetHeld (s : State) (l : Lane) (b : Bin) : (s.setBin l b).resetHeld = s.resetHeld := rfl
@[simp] theorem State.setBin_records (s : State) (l : Lane) (b : Bin) : (s.setBin l b).store.records = s.store.records := rfl
@[simp] theorem State.setBin_keyIndex (s : State) (l : Lane) (b : Bin) : (s.setBin l b).store.keyIndex = s.store.keyIndex := rfl
@[simp] theorem State.setBin_serialCounter (s : State) (l : Lane) (b : Bin) : (s.setBin l b).store.serialCounter = s.store.serialCounter := rfl
@[simp] theorem State.setBin_counts (s : State) (l : Lane) (b : Bin) : (s.setBin l b).store.counts = s.store.counts := rfl
@[simp] theorem State.setBin_outlets (s : State) (l : Lane) (b : Bin) : (s.setBin l b).store.outlets = s.store.outlets := rfl
@[simp] theorem State.setBin_bins (s : State) (l : Lane) (b : Bin) : (s.setBin l b).store.bins = s.store.bins.set l.val b l.isLt := rfl
@[simp] theorem State.setBin_groups (s : State) (l : Lane) (b : Bin) : (s.setBin l b).store.groups = s.store.groups := rfl
@[simp] theorem State.setBin_rules (s : State) (l : Lane) (b : Bin) : (s.setBin l b).store.rules = s.store.rules := rfl
@[simp] theorem State.setBin_attention (s : State) (l : Lane) (b : Bin) : (s.setBin l b).store.attention = s.store.attention := rfl
@[simp] theorem State.setBin_cursors (s : State) (l : Lane) (b : Bin) : (s.setBin l b).store.cursors = s.store.cursors := rfl
@[simp] theorem State.setGroup_lanes (s : State) (g : GroupId) (e : GroupEntry) : (s.setGroup g e).lanes = s.lanes := rfl
@[simp] theorem State.setGroup_host (s : State) (g : GroupId) (e : GroupEntry) : (s.setGroup g e).host = s.host := rfl
@[simp] theorem State.setGroup_arbiter (s : State) (g : GroupId) (e : GroupEntry) : (s.setGroup g e).arbiter = s.arbiter := rfl
@[simp] theorem State.setGroup_timebase (s : State) (g : GroupId) (e : GroupEntry) : (s.setGroup g e).timebase = s.timebase := rfl
@[simp] theorem State.setGroup_urgentLine (s : State) (g : GroupId) (e : GroupEntry) : (s.setGroup g e).urgentLine = s.urgentLine := rfl
@[simp] theorem State.setGroup_routineLine (s : State) (g : GroupId) (e : GroupEntry) : (s.setGroup g e).routineLine = s.routineLine := rfl
@[simp] theorem State.setGroup_pending (s : State) (g : GroupId) (e : GroupEntry) : (s.setGroup g e).pending = s.pending := rfl
@[simp] theorem State.setGroup_resetHeld (s : State) (g : GroupId) (e : GroupEntry) : (s.setGroup g e).resetHeld = s.resetHeld := rfl
@[simp] theorem State.setGroup_records (s : State) (g : GroupId) (e : GroupEntry) : (s.setGroup g e).store.records = s.store.records := rfl
@[simp] theorem State.setGroup_keyIndex (s : State) (g : GroupId) (e : GroupEntry) : (s.setGroup g e).store.keyIndex = s.store.keyIndex := rfl
@[simp] theorem State.setGroup_serialCounter (s : State) (g : GroupId) (e : GroupEntry) : (s.setGroup g e).store.serialCounter = s.store.serialCounter := rfl
@[simp] theorem State.setGroup_counts (s : State) (g : GroupId) (e : GroupEntry) : (s.setGroup g e).store.counts = s.store.counts := rfl
@[simp] theorem State.setGroup_outlets (s : State) (g : GroupId) (e : GroupEntry) : (s.setGroup g e).store.outlets = s.store.outlets := rfl
@[simp] theorem State.setGroup_bins (s : State) (g : GroupId) (e : GroupEntry) : (s.setGroup g e).store.bins = s.store.bins := rfl
@[simp] theorem State.setGroup_groups (s : State) (g : GroupId) (e : GroupEntry) : (s.setGroup g e).store.groups = s.store.groups.set g.val e g.isLt := rfl
@[simp] theorem State.setGroup_rules (s : State) (g : GroupId) (e : GroupEntry) : (s.setGroup g e).store.rules = s.store.rules := rfl
@[simp] theorem State.setGroup_attention (s : State) (g : GroupId) (e : GroupEntry) : (s.setGroup g e).store.attention = s.store.attention := rfl
@[simp] theorem State.setGroup_cursors (s : State) (g : GroupId) (e : GroupEntry) : (s.setGroup g e).store.cursors = s.store.cursors := rfl
@[simp] theorem State.setRule_lanes (s : State) (n : RuleId) (e : RuleEntry) : (s.setRule n e).lanes = s.lanes := rfl
@[simp] theorem State.setRule_host (s : State) (n : RuleId) (e : RuleEntry) : (s.setRule n e).host = s.host := rfl
@[simp] theorem State.setRule_arbiter (s : State) (n : RuleId) (e : RuleEntry) : (s.setRule n e).arbiter = s.arbiter := rfl
@[simp] theorem State.setRule_timebase (s : State) (n : RuleId) (e : RuleEntry) : (s.setRule n e).timebase = s.timebase := rfl
@[simp] theorem State.setRule_urgentLine (s : State) (n : RuleId) (e : RuleEntry) : (s.setRule n e).urgentLine = s.urgentLine := rfl
@[simp] theorem State.setRule_routineLine (s : State) (n : RuleId) (e : RuleEntry) : (s.setRule n e).routineLine = s.routineLine := rfl
@[simp] theorem State.setRule_pending (s : State) (n : RuleId) (e : RuleEntry) : (s.setRule n e).pending = s.pending := rfl
@[simp] theorem State.setRule_resetHeld (s : State) (n : RuleId) (e : RuleEntry) : (s.setRule n e).resetHeld = s.resetHeld := rfl
@[simp] theorem State.setRule_records (s : State) (n : RuleId) (e : RuleEntry) : (s.setRule n e).store.records = s.store.records := rfl
@[simp] theorem State.setRule_keyIndex (s : State) (n : RuleId) (e : RuleEntry) : (s.setRule n e).store.keyIndex = s.store.keyIndex := rfl
@[simp] theorem State.setRule_serialCounter (s : State) (n : RuleId) (e : RuleEntry) : (s.setRule n e).store.serialCounter = s.store.serialCounter := rfl
@[simp] theorem State.setRule_counts (s : State) (n : RuleId) (e : RuleEntry) : (s.setRule n e).store.counts = s.store.counts := rfl
@[simp] theorem State.setRule_outlets (s : State) (n : RuleId) (e : RuleEntry) : (s.setRule n e).store.outlets = s.store.outlets := rfl
@[simp] theorem State.setRule_bins (s : State) (n : RuleId) (e : RuleEntry) : (s.setRule n e).store.bins = s.store.bins := rfl
@[simp] theorem State.setRule_groups (s : State) (n : RuleId) (e : RuleEntry) : (s.setRule n e).store.groups = s.store.groups := rfl
@[simp] theorem State.setRule_rules (s : State) (n : RuleId) (e : RuleEntry) : (s.setRule n e).store.rules = s.store.rules.set n.val e n.isLt := rfl
@[simp] theorem State.setRule_attention (s : State) (n : RuleId) (e : RuleEntry) : (s.setRule n e).store.attention = s.store.attention := rfl
@[simp] theorem State.setRule_cursors (s : State) (n : RuleId) (e : RuleEntry) : (s.setRule n e).store.cursors = s.store.cursors := rfl
@[simp] theorem State.setCursor_lanes (s : State) (c : CursorId) (v : Cursor) : (s.setCursor c v).lanes = s.lanes := rfl
@[simp] theorem State.setCursor_host (s : State) (c : CursorId) (v : Cursor) : (s.setCursor c v).host = s.host := rfl
@[simp] theorem State.setCursor_arbiter (s : State) (c : CursorId) (v : Cursor) : (s.setCursor c v).arbiter = s.arbiter := rfl
@[simp] theorem State.setCursor_timebase (s : State) (c : CursorId) (v : Cursor) : (s.setCursor c v).timebase = s.timebase := rfl
@[simp] theorem State.setCursor_urgentLine (s : State) (c : CursorId) (v : Cursor) : (s.setCursor c v).urgentLine = s.urgentLine := rfl
@[simp] theorem State.setCursor_routineLine (s : State) (c : CursorId) (v : Cursor) : (s.setCursor c v).routineLine = s.routineLine := rfl
@[simp] theorem State.setCursor_pending (s : State) (c : CursorId) (v : Cursor) : (s.setCursor c v).pending = s.pending := rfl
@[simp] theorem State.setCursor_resetHeld (s : State) (c : CursorId) (v : Cursor) : (s.setCursor c v).resetHeld = s.resetHeld := rfl
@[simp] theorem State.setCursor_records (s : State) (c : CursorId) (v : Cursor) : (s.setCursor c v).store.records = s.store.records := rfl
@[simp] theorem State.setCursor_keyIndex (s : State) (c : CursorId) (v : Cursor) : (s.setCursor c v).store.keyIndex = s.store.keyIndex := rfl
@[simp] theorem State.setCursor_serialCounter (s : State) (c : CursorId) (v : Cursor) : (s.setCursor c v).store.serialCounter = s.store.serialCounter := rfl
@[simp] theorem State.setCursor_counts (s : State) (c : CursorId) (v : Cursor) : (s.setCursor c v).store.counts = s.store.counts := rfl
@[simp] theorem State.setCursor_outlets (s : State) (c : CursorId) (v : Cursor) : (s.setCursor c v).store.outlets = s.store.outlets := rfl
@[simp] theorem State.setCursor_bins (s : State) (c : CursorId) (v : Cursor) : (s.setCursor c v).store.bins = s.store.bins := rfl
@[simp] theorem State.setCursor_groups (s : State) (c : CursorId) (v : Cursor) : (s.setCursor c v).store.groups = s.store.groups := rfl
@[simp] theorem State.setCursor_rules (s : State) (c : CursorId) (v : Cursor) : (s.setCursor c v).store.rules = s.store.rules := rfl
@[simp] theorem State.setCursor_attention (s : State) (c : CursorId) (v : Cursor) : (s.setCursor c v).store.attention = s.store.attention := rfl
@[simp] theorem State.setCursor_cursors (s : State) (c : CursorId) (v : Cursor) : (s.setCursor c v).store.cursors = s.store.cursors.set c.val v c.isLt := rfl
@[simp] theorem State.setRecords_lanes (s : State) (rs : List ItemRecord) : (s.setRecords rs).lanes = s.lanes := rfl
@[simp] theorem State.setRecords_host (s : State) (rs : List ItemRecord) : (s.setRecords rs).host = s.host := rfl
@[simp] theorem State.setRecords_arbiter (s : State) (rs : List ItemRecord) : (s.setRecords rs).arbiter = s.arbiter := rfl
@[simp] theorem State.setRecords_timebase (s : State) (rs : List ItemRecord) : (s.setRecords rs).timebase = s.timebase := rfl
@[simp] theorem State.setRecords_urgentLine (s : State) (rs : List ItemRecord) : (s.setRecords rs).urgentLine = s.urgentLine := rfl
@[simp] theorem State.setRecords_routineLine (s : State) (rs : List ItemRecord) : (s.setRecords rs).routineLine = s.routineLine := rfl
@[simp] theorem State.setRecords_pending (s : State) (rs : List ItemRecord) : (s.setRecords rs).pending = s.pending := rfl
@[simp] theorem State.setRecords_resetHeld (s : State) (rs : List ItemRecord) : (s.setRecords rs).resetHeld = s.resetHeld := rfl
@[simp] theorem State.setRecords_records (s : State) (rs : List ItemRecord) : (s.setRecords rs).store.records = rs := rfl
@[simp] theorem State.setRecords_keyIndex (s : State) (rs : List ItemRecord) : (s.setRecords rs).store.keyIndex = s.store.keyIndex := rfl
@[simp] theorem State.setRecords_serialCounter (s : State) (rs : List ItemRecord) : (s.setRecords rs).store.serialCounter = s.store.serialCounter := rfl
@[simp] theorem State.setRecords_counts (s : State) (rs : List ItemRecord) : (s.setRecords rs).store.counts = s.store.counts := rfl
@[simp] theorem State.setRecords_outlets (s : State) (rs : List ItemRecord) : (s.setRecords rs).store.outlets = s.store.outlets := rfl
@[simp] theorem State.setRecords_bins (s : State) (rs : List ItemRecord) : (s.setRecords rs).store.bins = s.store.bins := rfl
@[simp] theorem State.setRecords_groups (s : State) (rs : List ItemRecord) : (s.setRecords rs).store.groups = s.store.groups := rfl
@[simp] theorem State.setRecords_rules (s : State) (rs : List ItemRecord) : (s.setRecords rs).store.rules = s.store.rules := rfl
@[simp] theorem State.setRecords_attention (s : State) (rs : List ItemRecord) : (s.setRecords rs).store.attention = s.store.attention := rfl
@[simp] theorem State.setRecords_cursors (s : State) (rs : List ItemRecord) : (s.setRecords rs).store.cursors = s.store.cursors := rfl
@[simp] theorem State.setKeyIndex_lanes (s : State) (es : List IndexEntry) : (s.setKeyIndex es).lanes = s.lanes := rfl
@[simp] theorem State.setKeyIndex_host (s : State) (es : List IndexEntry) : (s.setKeyIndex es).host = s.host := rfl
@[simp] theorem State.setKeyIndex_arbiter (s : State) (es : List IndexEntry) : (s.setKeyIndex es).arbiter = s.arbiter := rfl
@[simp] theorem State.setKeyIndex_timebase (s : State) (es : List IndexEntry) : (s.setKeyIndex es).timebase = s.timebase := rfl
@[simp] theorem State.setKeyIndex_urgentLine (s : State) (es : List IndexEntry) : (s.setKeyIndex es).urgentLine = s.urgentLine := rfl
@[simp] theorem State.setKeyIndex_routineLine (s : State) (es : List IndexEntry) : (s.setKeyIndex es).routineLine = s.routineLine := rfl
@[simp] theorem State.setKeyIndex_pending (s : State) (es : List IndexEntry) : (s.setKeyIndex es).pending = s.pending := rfl
@[simp] theorem State.setKeyIndex_resetHeld (s : State) (es : List IndexEntry) : (s.setKeyIndex es).resetHeld = s.resetHeld := rfl
@[simp] theorem State.setKeyIndex_records (s : State) (es : List IndexEntry) : (s.setKeyIndex es).store.records = s.store.records := rfl
@[simp] theorem State.setKeyIndex_keyIndex (s : State) (es : List IndexEntry) : (s.setKeyIndex es).store.keyIndex = es := rfl
@[simp] theorem State.setKeyIndex_serialCounter (s : State) (es : List IndexEntry) : (s.setKeyIndex es).store.serialCounter = s.store.serialCounter := rfl
@[simp] theorem State.setKeyIndex_counts (s : State) (es : List IndexEntry) : (s.setKeyIndex es).store.counts = s.store.counts := rfl
@[simp] theorem State.setKeyIndex_outlets (s : State) (es : List IndexEntry) : (s.setKeyIndex es).store.outlets = s.store.outlets := rfl
@[simp] theorem State.setKeyIndex_bins (s : State) (es : List IndexEntry) : (s.setKeyIndex es).store.bins = s.store.bins := rfl
@[simp] theorem State.setKeyIndex_groups (s : State) (es : List IndexEntry) : (s.setKeyIndex es).store.groups = s.store.groups := rfl
@[simp] theorem State.setKeyIndex_rules (s : State) (es : List IndexEntry) : (s.setKeyIndex es).store.rules = s.store.rules := rfl
@[simp] theorem State.setKeyIndex_attention (s : State) (es : List IndexEntry) : (s.setKeyIndex es).store.attention = s.store.attention := rfl
@[simp] theorem State.setKeyIndex_cursors (s : State) (es : List IndexEntry) : (s.setKeyIndex es).store.cursors = s.store.cursors := rfl
@[simp] theorem State.setCounts_lanes (s : State) (c : Counts) : (s.setCounts c).lanes = s.lanes := rfl
@[simp] theorem State.setCounts_host (s : State) (c : Counts) : (s.setCounts c).host = s.host := rfl
@[simp] theorem State.setCounts_arbiter (s : State) (c : Counts) : (s.setCounts c).arbiter = s.arbiter := rfl
@[simp] theorem State.setCounts_timebase (s : State) (c : Counts) : (s.setCounts c).timebase = s.timebase := rfl
@[simp] theorem State.setCounts_urgentLine (s : State) (c : Counts) : (s.setCounts c).urgentLine = s.urgentLine := rfl
@[simp] theorem State.setCounts_routineLine (s : State) (c : Counts) : (s.setCounts c).routineLine = s.routineLine := rfl
@[simp] theorem State.setCounts_pending (s : State) (c : Counts) : (s.setCounts c).pending = s.pending := rfl
@[simp] theorem State.setCounts_resetHeld (s : State) (c : Counts) : (s.setCounts c).resetHeld = s.resetHeld := rfl
@[simp] theorem State.setCounts_records (s : State) (c : Counts) : (s.setCounts c).store.records = s.store.records := rfl
@[simp] theorem State.setCounts_keyIndex (s : State) (c : Counts) : (s.setCounts c).store.keyIndex = s.store.keyIndex := rfl
@[simp] theorem State.setCounts_serialCounter (s : State) (c : Counts) : (s.setCounts c).store.serialCounter = s.store.serialCounter := rfl
@[simp] theorem State.setCounts_counts (s : State) (c : Counts) : (s.setCounts c).store.counts = c := rfl
@[simp] theorem State.setCounts_outlets (s : State) (c : Counts) : (s.setCounts c).store.outlets = s.store.outlets := rfl
@[simp] theorem State.setCounts_bins (s : State) (c : Counts) : (s.setCounts c).store.bins = s.store.bins := rfl
@[simp] theorem State.setCounts_groups (s : State) (c : Counts) : (s.setCounts c).store.groups = s.store.groups := rfl
@[simp] theorem State.setCounts_rules (s : State) (c : Counts) : (s.setCounts c).store.rules = s.store.rules := rfl
@[simp] theorem State.setCounts_attention (s : State) (c : Counts) : (s.setCounts c).store.attention = s.store.attention := rfl
@[simp] theorem State.setCounts_cursors (s : State) (c : Counts) : (s.setCounts c).store.cursors = s.store.cursors := rfl
@[simp] theorem State.setAttention_lanes (s : State) (es : List AttentionEntry) : (s.setAttention es).lanes = s.lanes := rfl
@[simp] theorem State.setAttention_host (s : State) (es : List AttentionEntry) : (s.setAttention es).host = s.host := rfl
@[simp] theorem State.setAttention_arbiter (s : State) (es : List AttentionEntry) : (s.setAttention es).arbiter = s.arbiter := rfl
@[simp] theorem State.setAttention_timebase (s : State) (es : List AttentionEntry) : (s.setAttention es).timebase = s.timebase := rfl
@[simp] theorem State.setAttention_urgentLine (s : State) (es : List AttentionEntry) : (s.setAttention es).urgentLine = s.urgentLine := rfl
@[simp] theorem State.setAttention_routineLine (s : State) (es : List AttentionEntry) : (s.setAttention es).routineLine = s.routineLine := rfl
@[simp] theorem State.setAttention_pending (s : State) (es : List AttentionEntry) : (s.setAttention es).pending = s.pending := rfl
@[simp] theorem State.setAttention_resetHeld (s : State) (es : List AttentionEntry) : (s.setAttention es).resetHeld = s.resetHeld := rfl
@[simp] theorem State.setAttention_records (s : State) (es : List AttentionEntry) : (s.setAttention es).store.records = s.store.records := rfl
@[simp] theorem State.setAttention_keyIndex (s : State) (es : List AttentionEntry) : (s.setAttention es).store.keyIndex = s.store.keyIndex := rfl
@[simp] theorem State.setAttention_serialCounter (s : State) (es : List AttentionEntry) : (s.setAttention es).store.serialCounter = s.store.serialCounter := rfl
@[simp] theorem State.setAttention_counts (s : State) (es : List AttentionEntry) : (s.setAttention es).store.counts = s.store.counts := rfl
@[simp] theorem State.setAttention_outlets (s : State) (es : List AttentionEntry) : (s.setAttention es).store.outlets = s.store.outlets := rfl
@[simp] theorem State.setAttention_bins (s : State) (es : List AttentionEntry) : (s.setAttention es).store.bins = s.store.bins := rfl
@[simp] theorem State.setAttention_groups (s : State) (es : List AttentionEntry) : (s.setAttention es).store.groups = s.store.groups := rfl
@[simp] theorem State.setAttention_rules (s : State) (es : List AttentionEntry) : (s.setAttention es).store.rules = s.store.rules := rfl
@[simp] theorem State.setAttention_attention (s : State) (es : List AttentionEntry) : (s.setAttention es).store.attention = es := rfl
@[simp] theorem State.setAttention_cursors (s : State) (es : List AttentionEntry) : (s.setAttention es).store.cursors = s.store.cursors := rfl
@[simp] theorem State.setLane_lanes (s : State) (l : Lane) (u : LaneUnit) : (s.setLane l u).lanes = s.lanes.set l.val u l.isLt := rfl
@[simp] theorem State.setLane_host (s : State) (l : Lane) (u : LaneUnit) : (s.setLane l u).host = s.host := rfl
@[simp] theorem State.setLane_arbiter (s : State) (l : Lane) (u : LaneUnit) : (s.setLane l u).arbiter = s.arbiter := rfl
@[simp] theorem State.setLane_timebase (s : State) (l : Lane) (u : LaneUnit) : (s.setLane l u).timebase = s.timebase := rfl
@[simp] theorem State.setLane_urgentLine (s : State) (l : Lane) (u : LaneUnit) : (s.setLane l u).urgentLine = s.urgentLine := rfl
@[simp] theorem State.setLane_routineLine (s : State) (l : Lane) (u : LaneUnit) : (s.setLane l u).routineLine = s.routineLine := rfl
@[simp] theorem State.setLane_pending (s : State) (l : Lane) (u : LaneUnit) : (s.setLane l u).pending = s.pending := rfl
@[simp] theorem State.setLane_resetHeld (s : State) (l : Lane) (u : LaneUnit) : (s.setLane l u).resetHeld = s.resetHeld := rfl
@[simp] theorem State.setLane_store (s : State) (l : Lane) (u : LaneUnit) : (s.setLane l u).store = s.store := rfl
@[simp] theorem State.setHost_lanes (s : State) (h : HostEngine) : (s.setHost h).lanes = s.lanes := rfl
@[simp] theorem State.setHost_host (s : State) (h : HostEngine) : (s.setHost h).host = h := rfl
@[simp] theorem State.setHost_arbiter (s : State) (h : HostEngine) : (s.setHost h).arbiter = s.arbiter := rfl
@[simp] theorem State.setHost_timebase (s : State) (h : HostEngine) : (s.setHost h).timebase = s.timebase := rfl
@[simp] theorem State.setHost_urgentLine (s : State) (h : HostEngine) : (s.setHost h).urgentLine = s.urgentLine := rfl
@[simp] theorem State.setHost_routineLine (s : State) (h : HostEngine) : (s.setHost h).routineLine = s.routineLine := rfl
@[simp] theorem State.setHost_pending (s : State) (h : HostEngine) : (s.setHost h).pending = s.pending := rfl
@[simp] theorem State.setHost_resetHeld (s : State) (h : HostEngine) : (s.setHost h).resetHeld = s.resetHeld := rfl
@[simp] theorem State.setHost_store (s : State) (h : HostEngine) : (s.setHost h).store = s.store := rfl
@[simp] theorem State.setArbiter_lanes (s : State) (a : Arbiter) : (s.setArbiter a).lanes = s.lanes := rfl
@[simp] theorem State.setArbiter_host (s : State) (a : Arbiter) : (s.setArbiter a).host = s.host := rfl
@[simp] theorem State.setArbiter_arbiter (s : State) (a : Arbiter) : (s.setArbiter a).arbiter = a := rfl
@[simp] theorem State.setArbiter_timebase (s : State) (a : Arbiter) : (s.setArbiter a).timebase = s.timebase := rfl
@[simp] theorem State.setArbiter_urgentLine (s : State) (a : Arbiter) : (s.setArbiter a).urgentLine = s.urgentLine := rfl
@[simp] theorem State.setArbiter_routineLine (s : State) (a : Arbiter) : (s.setArbiter a).routineLine = s.routineLine := rfl
@[simp] theorem State.setArbiter_pending (s : State) (a : Arbiter) : (s.setArbiter a).pending = s.pending := rfl
@[simp] theorem State.setArbiter_resetHeld (s : State) (a : Arbiter) : (s.setArbiter a).resetHeld = s.resetHeld := rfl
@[simp] theorem State.setArbiter_store (s : State) (a : Arbiter) : (s.setArbiter a).store = s.store := rfl

/-! ### Accessors after an update of something else -/

@[simp] theorem State.setStore_lane (s : State) (t : Store) (j : Lane) : (s.setStore t).lane j = s.lane j := rfl
@[simp] theorem State.setOutlet_bin (s : State) (k : OutletId) (o : OutletEntry) (j : Lane) : (s.setOutlet k o).bin j = s.bin j := rfl
@[simp] theorem State.setOutlet_group (s : State) (k : OutletId) (o : OutletEntry) (j : GroupId) : (s.setOutlet k o).group j = s.group j := rfl
@[simp] theorem State.setOutlet_rule (s : State) (k : OutletId) (o : OutletEntry) (j : RuleId) : (s.setOutlet k o).rule j = s.rule j := rfl
@[simp] theorem State.setOutlet_cursor (s : State) (k : OutletId) (o : OutletEntry) (j : CursorId) : (s.setOutlet k o).cursor j = s.cursor j := rfl
@[simp] theorem State.setOutlet_lane (s : State) (k : OutletId) (o : OutletEntry) (j : Lane) : (s.setOutlet k o).lane j = s.lane j := rfl
@[simp] theorem State.setOutlet_record (s : State) (k : OutletId) (o : OutletEntry) (r : Ref) : (s.setOutlet k o).record? r = s.record? r := rfl
@[simp] theorem State.setOutlet_recordOfKey (s : State) (k : OutletId) (o : OutletEntry) (key : Key) : (s.setOutlet k o).recordOfKey? key = s.recordOfKey? key := rfl
@[simp] theorem State.setBin_outlet (s : State) (l : Lane) (b : Bin) (j : OutletId) : (s.setBin l b).outlet j = s.outlet j := rfl
@[simp] theorem State.setBin_group (s : State) (l : Lane) (b : Bin) (j : GroupId) : (s.setBin l b).group j = s.group j := rfl
@[simp] theorem State.setBin_rule (s : State) (l : Lane) (b : Bin) (j : RuleId) : (s.setBin l b).rule j = s.rule j := rfl
@[simp] theorem State.setBin_cursor (s : State) (l : Lane) (b : Bin) (j : CursorId) : (s.setBin l b).cursor j = s.cursor j := rfl
@[simp] theorem State.setBin_lane (s : State) (l : Lane) (b : Bin) (j : Lane) : (s.setBin l b).lane j = s.lane j := rfl
@[simp] theorem State.setBin_record (s : State) (l : Lane) (b : Bin) (r : Ref) : (s.setBin l b).record? r = s.record? r := rfl
@[simp] theorem State.setBin_recordOfKey (s : State) (l : Lane) (b : Bin) (key : Key) : (s.setBin l b).recordOfKey? key = s.recordOfKey? key := rfl
@[simp] theorem State.setGroup_outlet (s : State) (g : GroupId) (e : GroupEntry) (j : OutletId) : (s.setGroup g e).outlet j = s.outlet j := rfl
@[simp] theorem State.setGroup_bin (s : State) (g : GroupId) (e : GroupEntry) (j : Lane) : (s.setGroup g e).bin j = s.bin j := rfl
@[simp] theorem State.setGroup_rule (s : State) (g : GroupId) (e : GroupEntry) (j : RuleId) : (s.setGroup g e).rule j = s.rule j := rfl
@[simp] theorem State.setGroup_cursor (s : State) (g : GroupId) (e : GroupEntry) (j : CursorId) : (s.setGroup g e).cursor j = s.cursor j := rfl
@[simp] theorem State.setGroup_lane (s : State) (g : GroupId) (e : GroupEntry) (j : Lane) : (s.setGroup g e).lane j = s.lane j := rfl
@[simp] theorem State.setGroup_record (s : State) (g : GroupId) (e : GroupEntry) (r : Ref) : (s.setGroup g e).record? r = s.record? r := rfl
@[simp] theorem State.setGroup_recordOfKey (s : State) (g : GroupId) (e : GroupEntry) (key : Key) : (s.setGroup g e).recordOfKey? key = s.recordOfKey? key := rfl
@[simp] theorem State.setGroup_routedCount (s : State) (g : GroupId) (e : GroupEntry) (j : Lane) : (s.setGroup g e).routedCount j = s.routedCount j := rfl
@[simp] theorem State.setRule_outlet (s : State) (n : RuleId) (e : RuleEntry) (j : OutletId) : (s.setRule n e).outlet j = s.outlet j := rfl
@[simp] theorem State.setRule_bin (s : State) (n : RuleId) (e : RuleEntry) (j : Lane) : (s.setRule n e).bin j = s.bin j := rfl
@[simp] theorem State.setRule_group (s : State) (n : RuleId) (e : RuleEntry) (j : GroupId) : (s.setRule n e).group j = s.group j := rfl
@[simp] theorem State.setRule_cursor (s : State) (n : RuleId) (e : RuleEntry) (j : CursorId) : (s.setRule n e).cursor j = s.cursor j := rfl
@[simp] theorem State.setRule_lane (s : State) (n : RuleId) (e : RuleEntry) (j : Lane) : (s.setRule n e).lane j = s.lane j := rfl
@[simp] theorem State.setRule_record (s : State) (n : RuleId) (e : RuleEntry) (r : Ref) : (s.setRule n e).record? r = s.record? r := rfl
@[simp] theorem State.setRule_recordOfKey (s : State) (n : RuleId) (e : RuleEntry) (key : Key) : (s.setRule n e).recordOfKey? key = s.recordOfKey? key := rfl
@[simp] theorem State.setRule_routedCount (s : State) (n : RuleId) (e : RuleEntry) (j : Lane) : (s.setRule n e).routedCount j = s.routedCount j := rfl
@[simp] theorem State.setCursor_outlet (s : State) (c : CursorId) (v : Cursor) (j : OutletId) : (s.setCursor c v).outlet j = s.outlet j := rfl
@[simp] theorem State.setCursor_bin (s : State) (c : CursorId) (v : Cursor) (j : Lane) : (s.setCursor c v).bin j = s.bin j := rfl
@[simp] theorem State.setCursor_group (s : State) (c : CursorId) (v : Cursor) (j : GroupId) : (s.setCursor c v).group j = s.group j := rfl
@[simp] theorem State.setCursor_rule (s : State) (c : CursorId) (v : Cursor) (j : RuleId) : (s.setCursor c v).rule j = s.rule j := rfl
@[simp] theorem State.setCursor_lane (s : State) (c : CursorId) (v : Cursor) (j : Lane) : (s.setCursor c v).lane j = s.lane j := rfl
@[simp] theorem State.setCursor_record (s : State) (c : CursorId) (v : Cursor) (r : Ref) : (s.setCursor c v).record? r = s.record? r := rfl
@[simp] theorem State.setCursor_recordOfKey (s : State) (c : CursorId) (v : Cursor) (key : Key) : (s.setCursor c v).recordOfKey? key = s.recordOfKey? key := rfl
@[simp] theorem State.setCursor_routedCount (s : State) (c : CursorId) (v : Cursor) (j : Lane) : (s.setCursor c v).routedCount j = s.routedCount j := rfl
@[simp] theorem State.setRecords_outlet (s : State) (rs : List ItemRecord) (j : OutletId) : (s.setRecords rs).outlet j = s.outlet j := rfl
@[simp] theorem State.setRecords_bin (s : State) (rs : List ItemRecord) (j : Lane) : (s.setRecords rs).bin j = s.bin j := rfl
@[simp] theorem State.setRecords_group (s : State) (rs : List ItemRecord) (j : GroupId) : (s.setRecords rs).group j = s.group j := rfl
@[simp] theorem State.setRecords_rule (s : State) (rs : List ItemRecord) (j : RuleId) : (s.setRecords rs).rule j = s.rule j := rfl
@[simp] theorem State.setRecords_cursor (s : State) (rs : List ItemRecord) (j : CursorId) : (s.setRecords rs).cursor j = s.cursor j := rfl
@[simp] theorem State.setRecords_lane (s : State) (rs : List ItemRecord) (j : Lane) : (s.setRecords rs).lane j = s.lane j := rfl
@[simp] theorem State.setRecords_routedCount (s : State) (rs : List ItemRecord) (j : Lane) : (s.setRecords rs).routedCount j = s.routedCount j := rfl
@[simp] theorem State.setKeyIndex_outlet (s : State) (es : List IndexEntry) (j : OutletId) : (s.setKeyIndex es).outlet j = s.outlet j := rfl
@[simp] theorem State.setKeyIndex_bin (s : State) (es : List IndexEntry) (j : Lane) : (s.setKeyIndex es).bin j = s.bin j := rfl
@[simp] theorem State.setKeyIndex_group (s : State) (es : List IndexEntry) (j : GroupId) : (s.setKeyIndex es).group j = s.group j := rfl
@[simp] theorem State.setKeyIndex_rule (s : State) (es : List IndexEntry) (j : RuleId) : (s.setKeyIndex es).rule j = s.rule j := rfl
@[simp] theorem State.setKeyIndex_cursor (s : State) (es : List IndexEntry) (j : CursorId) : (s.setKeyIndex es).cursor j = s.cursor j := rfl
@[simp] theorem State.setKeyIndex_lane (s : State) (es : List IndexEntry) (j : Lane) : (s.setKeyIndex es).lane j = s.lane j := rfl
@[simp] theorem State.setKeyIndex_record (s : State) (es : List IndexEntry) (r : Ref) : (s.setKeyIndex es).record? r = s.record? r := rfl
@[simp] theorem State.setKeyIndex_routedCount (s : State) (es : List IndexEntry) (j : Lane) : (s.setKeyIndex es).routedCount j = s.routedCount j := rfl
@[simp] theorem State.setCounts_outlet (s : State) (c : Counts) (j : OutletId) : (s.setCounts c).outlet j = s.outlet j := rfl
@[simp] theorem State.setCounts_bin (s : State) (c : Counts) (j : Lane) : (s.setCounts c).bin j = s.bin j := rfl
@[simp] theorem State.setCounts_group (s : State) (c : Counts) (j : GroupId) : (s.setCounts c).group j = s.group j := rfl
@[simp] theorem State.setCounts_rule (s : State) (c : Counts) (j : RuleId) : (s.setCounts c).rule j = s.rule j := rfl
@[simp] theorem State.setCounts_cursor (s : State) (c : Counts) (j : CursorId) : (s.setCounts c).cursor j = s.cursor j := rfl
@[simp] theorem State.setCounts_lane (s : State) (c : Counts) (j : Lane) : (s.setCounts c).lane j = s.lane j := rfl
@[simp] theorem State.setCounts_record (s : State) (c : Counts) (r : Ref) : (s.setCounts c).record? r = s.record? r := rfl
@[simp] theorem State.setCounts_recordOfKey (s : State) (c : Counts) (key : Key) : (s.setCounts c).recordOfKey? key = s.recordOfKey? key := rfl
@[simp] theorem State.setCounts_routedCount (s : State) (c : Counts) (j : Lane) : (s.setCounts c).routedCount j = s.routedCount j := rfl
@[simp] theorem State.setAttention_outlet (s : State) (es : List AttentionEntry) (j : OutletId) : (s.setAttention es).outlet j = s.outlet j := rfl
@[simp] theorem State.setAttention_bin (s : State) (es : List AttentionEntry) (j : Lane) : (s.setAttention es).bin j = s.bin j := rfl
@[simp] theorem State.setAttention_group (s : State) (es : List AttentionEntry) (j : GroupId) : (s.setAttention es).group j = s.group j := rfl
@[simp] theorem State.setAttention_rule (s : State) (es : List AttentionEntry) (j : RuleId) : (s.setAttention es).rule j = s.rule j := rfl
@[simp] theorem State.setAttention_cursor (s : State) (es : List AttentionEntry) (j : CursorId) : (s.setAttention es).cursor j = s.cursor j := rfl
@[simp] theorem State.setAttention_lane (s : State) (es : List AttentionEntry) (j : Lane) : (s.setAttention es).lane j = s.lane j := rfl
@[simp] theorem State.setAttention_record (s : State) (es : List AttentionEntry) (r : Ref) : (s.setAttention es).record? r = s.record? r := rfl
@[simp] theorem State.setAttention_recordOfKey (s : State) (es : List AttentionEntry) (key : Key) : (s.setAttention es).recordOfKey? key = s.recordOfKey? key := rfl
@[simp] theorem State.setAttention_routedCount (s : State) (es : List AttentionEntry) (j : Lane) : (s.setAttention es).routedCount j = s.routedCount j := rfl
@[simp] theorem State.setLane_outlet (s : State) (l : Lane) (u : LaneUnit) (j : OutletId) : (s.setLane l u).outlet j = s.outlet j := rfl
@[simp] theorem State.setLane_bin (s : State) (l : Lane) (u : LaneUnit) (j : Lane) : (s.setLane l u).bin j = s.bin j := rfl
@[simp] theorem State.setLane_group (s : State) (l : Lane) (u : LaneUnit) (j : GroupId) : (s.setLane l u).group j = s.group j := rfl
@[simp] theorem State.setLane_rule (s : State) (l : Lane) (u : LaneUnit) (j : RuleId) : (s.setLane l u).rule j = s.rule j := rfl
@[simp] theorem State.setLane_cursor (s : State) (l : Lane) (u : LaneUnit) (j : CursorId) : (s.setLane l u).cursor j = s.cursor j := rfl
@[simp] theorem State.setLane_record (s : State) (l : Lane) (u : LaneUnit) (r : Ref) : (s.setLane l u).record? r = s.record? r := rfl
@[simp] theorem State.setLane_recordOfKey (s : State) (l : Lane) (u : LaneUnit) (key : Key) : (s.setLane l u).recordOfKey? key = s.recordOfKey? key := rfl
@[simp] theorem State.setLane_routedCount (s : State) (l : Lane) (u : LaneUnit) (j : Lane) : (s.setLane l u).routedCount j = s.routedCount j := rfl
@[simp] theorem State.setHost_outlet (s : State) (h : HostEngine) (j : OutletId) : (s.setHost h).outlet j = s.outlet j := rfl
@[simp] theorem State.setHost_bin (s : State) (h : HostEngine) (j : Lane) : (s.setHost h).bin j = s.bin j := rfl
@[simp] theorem State.setHost_group (s : State) (h : HostEngine) (j : GroupId) : (s.setHost h).group j = s.group j := rfl
@[simp] theorem State.setHost_rule (s : State) (h : HostEngine) (j : RuleId) : (s.setHost h).rule j = s.rule j := rfl
@[simp] theorem State.setHost_cursor (s : State) (h : HostEngine) (j : CursorId) : (s.setHost h).cursor j = s.cursor j := rfl
@[simp] theorem State.setHost_lane (s : State) (h : HostEngine) (j : Lane) : (s.setHost h).lane j = s.lane j := rfl
@[simp] theorem State.setHost_record (s : State) (h : HostEngine) (r : Ref) : (s.setHost h).record? r = s.record? r := rfl
@[simp] theorem State.setHost_recordOfKey (s : State) (h : HostEngine) (key : Key) : (s.setHost h).recordOfKey? key = s.recordOfKey? key := rfl
@[simp] theorem State.setHost_routedCount (s : State) (h : HostEngine) (j : Lane) : (s.setHost h).routedCount j = s.routedCount j := rfl
@[simp] theorem State.setArbiter_outlet (s : State) (a : Arbiter) (j : OutletId) : (s.setArbiter a).outlet j = s.outlet j := rfl
@[simp] theorem State.setArbiter_bin (s : State) (a : Arbiter) (j : Lane) : (s.setArbiter a).bin j = s.bin j := rfl
@[simp] theorem State.setArbiter_group (s : State) (a : Arbiter) (j : GroupId) : (s.setArbiter a).group j = s.group j := rfl
@[simp] theorem State.setArbiter_rule (s : State) (a : Arbiter) (j : RuleId) : (s.setArbiter a).rule j = s.rule j := rfl
@[simp] theorem State.setArbiter_cursor (s : State) (a : Arbiter) (j : CursorId) : (s.setArbiter a).cursor j = s.cursor j := rfl
@[simp] theorem State.setArbiter_lane (s : State) (a : Arbiter) (j : Lane) : (s.setArbiter a).lane j = s.lane j := rfl
@[simp] theorem State.setArbiter_record (s : State) (a : Arbiter) (r : Ref) : (s.setArbiter a).record? r = s.record? r := rfl
@[simp] theorem State.setArbiter_recordOfKey (s : State) (a : Arbiter) (key : Key) : (s.setArbiter a).recordOfKey? key = s.recordOfKey? key := rfl
@[simp] theorem State.setArbiter_routedCount (s : State) (a : Arbiter) (j : Lane) : (s.setArbiter a).routedCount j = s.routedCount j := rfl

/-! ### Reading after writing -/

@[simp] theorem State.outlet_setOutlet_self (s : State) (k : OutletId) (x : OutletEntry) : (s.setOutlet k x).outlet k = x := by
  simp [State.outlet]

theorem State.outlet_setOutlet (s : State) (k j : OutletId) (x : OutletEntry) :
    (s.setOutlet k x).outlet j = if j = k then x else s.outlet j := by
  by_cases h : j = k
  · subst h
    simp
  · simp [State.outlet, h, Fin.val_inj, Ne.symm h]

@[simp] theorem State.outlet_setOutlet_ne (s : State) {k j : OutletId} (x : OutletEntry) (h : j ≠ k) :
    (s.setOutlet k x).outlet j = s.outlet j := by
  rw [State.outlet_setOutlet, if_neg h]

@[simp] theorem State.bin_setBin_self (s : State) (k : Lane) (x : Bin) : (s.setBin k x).bin k = x := by
  simp [State.bin]

theorem State.bin_setBin (s : State) (k j : Lane) (x : Bin) :
    (s.setBin k x).bin j = if j = k then x else s.bin j := by
  by_cases h : j = k
  · subst h
    simp
  · simp [State.bin, h, Fin.val_inj, Ne.symm h]

@[simp] theorem State.bin_setBin_ne (s : State) {k j : Lane} (x : Bin) (h : j ≠ k) :
    (s.setBin k x).bin j = s.bin j := by
  rw [State.bin_setBin, if_neg h]

@[simp] theorem State.group_setGroup_self (s : State) (k : GroupId) (x : GroupEntry) : (s.setGroup k x).group k = x := by
  simp [State.group]

theorem State.group_setGroup (s : State) (k j : GroupId) (x : GroupEntry) :
    (s.setGroup k x).group j = if j = k then x else s.group j := by
  by_cases h : j = k
  · subst h
    simp
  · simp [State.group, h, Fin.val_inj, Ne.symm h]

@[simp] theorem State.group_setGroup_ne (s : State) {k j : GroupId} (x : GroupEntry) (h : j ≠ k) :
    (s.setGroup k x).group j = s.group j := by
  rw [State.group_setGroup, if_neg h]

@[simp] theorem State.rule_setRule_self (s : State) (k : RuleId) (x : RuleEntry) : (s.setRule k x).rule k = x := by
  simp [State.rule]

theorem State.rule_setRule (s : State) (k j : RuleId) (x : RuleEntry) :
    (s.setRule k x).rule j = if j = k then x else s.rule j := by
  by_cases h : j = k
  · subst h
    simp
  · simp [State.rule, h, Fin.val_inj, Ne.symm h]

@[simp] theorem State.rule_setRule_ne (s : State) {k j : RuleId} (x : RuleEntry) (h : j ≠ k) :
    (s.setRule k x).rule j = s.rule j := by
  rw [State.rule_setRule, if_neg h]

@[simp] theorem State.cursor_setCursor_self (s : State) (k : CursorId) (x : Cursor) : (s.setCursor k x).cursor k = x := by
  simp [State.cursor]

theorem State.cursor_setCursor (s : State) (k j : CursorId) (x : Cursor) :
    (s.setCursor k x).cursor j = if j = k then x else s.cursor j := by
  by_cases h : j = k
  · subst h
    simp
  · simp [State.cursor, h, Fin.val_inj, Ne.symm h]

@[simp] theorem State.cursor_setCursor_ne (s : State) {k j : CursorId} (x : Cursor) (h : j ≠ k) :
    (s.setCursor k x).cursor j = s.cursor j := by
  rw [State.cursor_setCursor, if_neg h]

@[simp] theorem State.lane_setLane_self (s : State) (k : Lane) (x : LaneUnit) : (s.setLane k x).lane k = x := by
  simp [State.lane]

theorem State.lane_setLane (s : State) (k j : Lane) (x : LaneUnit) :
    (s.setLane k x).lane j = if j = k then x else s.lane j := by
  by_cases h : j = k
  · subst h
    simp
  · simp [State.lane, h, Fin.val_inj, Ne.symm h]

@[simp] theorem State.lane_setLane_ne (s : State) {k j : Lane} (x : LaneUnit) (h : j ≠ k) :
    (s.setLane k x).lane j = s.lane j := by
  rw [State.lane_setLane, if_neg h]

end Sys2Proof.Machine
end

