-- ==== Sys2Proof/Laws/Engines.lean ====
section
/-!
SUPPORT. What the arbiter's operations, the host engine's and the lane unit's leave as it was, and what the
completion of a step changes.
-/
namespace Sys2Proof.Machine

/-! ### The arbiter (R120, R121) -/

@[simp] theorem State.requestHostStep_store (s : State) : s.requestHostStep.store = s.store := rfl
@[simp] theorem State.requestHostStep_lanes (s : State) : s.requestHostStep.lanes = s.lanes := rfl
@[simp] theorem State.requestHostStep_timebase (s : State) : s.requestHostStep.timebase = s.timebase := rfl
@[simp] theorem State.requestHostStep_urgentLine (s : State) : s.requestHostStep.urgentLine = s.urgentLine := rfl
@[simp] theorem State.requestHostStep_routineLine (s : State) : s.requestHostStep.routineLine = s.routineLine := rfl
@[simp] theorem State.requestHostStep_pending (s : State) : s.requestHostStep.pending = s.pending := rfl
@[simp] theorem State.requestHostStep_resetHeld (s : State) : s.requestHostStep.resetHeld = s.resetHeld := rfl
@[simp] theorem State.requestHostStep_host (s : State) : s.requestHostStep.host = s.host := rfl
@[simp] theorem State.withdrawHostStep_store (s : State) : s.withdrawHostStep.store = s.store := rfl
@[simp] theorem State.withdrawHostStep_lanes (s : State) : s.withdrawHostStep.lanes = s.lanes := rfl
@[simp] theorem State.withdrawHostStep_timebase (s : State) : s.withdrawHostStep.timebase = s.timebase := rfl
@[simp] theorem State.withdrawHostStep_urgentLine (s : State) : s.withdrawHostStep.urgentLine = s.urgentLine := rfl
@[simp] theorem State.withdrawHostStep_routineLine (s : State) : s.withdrawHostStep.routineLine = s.routineLine := rfl
@[simp] theorem State.withdrawHostStep_pending (s : State) : s.withdrawHostStep.pending = s.pending := rfl
@[simp] theorem State.withdrawHostStep_resetHeld (s : State) : s.withdrawHostStep.resetHeld = s.resetHeld := rfl
@[simp] theorem State.withdrawHostStep_host (s : State) : s.withdrawHostStep.host = s.host := rfl
@[simp] theorem State.freeStore_store (s : State) : s.freeStore.store = s.store := rfl
@[simp] theorem State.freeStore_lanes (s : State) : s.freeStore.lanes = s.lanes := rfl
@[simp] theorem State.freeStore_timebase (s : State) : s.freeStore.timebase = s.timebase := rfl
@[simp] theorem State.freeStore_urgentLine (s : State) : s.freeStore.urgentLine = s.urgentLine := rfl
@[simp] theorem State.freeStore_routineLine (s : State) : s.freeStore.routineLine = s.routineLine := rfl
@[simp] theorem State.freeStore_pending (s : State) : s.freeStore.pending = s.pending := rfl
@[simp] theorem State.freeStore_resetHeld (s : State) : s.freeStore.resetHeld = s.resetHeld := rfl
@[simp] theorem State.freeStore_host (s : State) : s.freeStore.host = s.host := rfl
@[simp] theorem State.requestLaneStep_store (s : State) (l : Lane) : (s.requestLaneStep l).store = s.store := rfl
@[simp] theorem State.requestLaneStep_lanes (s : State) (l : Lane) : (s.requestLaneStep l).lanes = s.lanes := rfl
@[simp] theorem State.requestLaneStep_timebase (s : State) (l : Lane) : (s.requestLaneStep l).timebase = s.timebase := rfl
@[simp] theorem State.requestLaneStep_urgentLine (s : State) (l : Lane) : (s.requestLaneStep l).urgentLine = s.urgentLine := rfl
@[simp] theorem State.requestLaneStep_routineLine (s : State) (l : Lane) : (s.requestLaneStep l).routineLine = s.routineLine := rfl
@[simp] theorem State.requestLaneStep_pending (s : State) (l : Lane) : (s.requestLaneStep l).pending = s.pending := rfl
@[simp] theorem State.requestLaneStep_resetHeld (s : State) (l : Lane) : (s.requestLaneStep l).resetHeld = s.resetHeld := rfl
@[simp] theorem State.requestLaneStep_host (s : State) (l : Lane) : (s.requestLaneStep l).host = s.host := rfl
@[simp] theorem State.withdrawLaneStep_store (s : State) (l : Lane) : (s.withdrawLaneStep l).store = s.store := rfl
@[simp] theorem State.withdrawLaneStep_lanes (s : State) (l : Lane) : (s.withdrawLaneStep l).lanes = s.lanes := rfl
@[simp] theorem State.withdrawLaneStep_timebase (s : State) (l : Lane) : (s.withdrawLaneStep l).timebase = s.timebase := rfl
@[simp] theorem State.withdrawLaneStep_urgentLine (s : State) (l : Lane) : (s.withdrawLaneStep l).urgentLine = s.urgentLine := rfl
@[simp] theorem State.withdrawLaneStep_routineLine (s : State) (l : Lane) : (s.withdrawLaneStep l).routineLine = s.routineLine := rfl
@[simp] theorem State.withdrawLaneStep_pending (s : State) (l : Lane) : (s.withdrawLaneStep l).pending = s.pending := rfl
@[simp] theorem State.withdrawLaneStep_resetHeld (s : State) (l : Lane) : (s.withdrawLaneStep l).resetHeld = s.resetHeld := rfl
@[simp] theorem State.withdrawLaneStep_host (s : State) (l : Lane) : (s.withdrawLaneStep l).host = s.host := rfl

/-- R121: a grant changes the arbiter and the condition of the command in flight, and nothing else. -/
theorem State.arbitrate_spec (s : State) :
    s.arbitrate = s ∨ (∃ l, s.arbitrate = s.setArbiter (s.arbiter.grantLane l)) ∨
      s.arbitrate = (s.setArbiter s.arbiter.grantHost).setHost
        { s.host with inFlight := s.host.inFlight.map InFlight.granted } := by
  unfold State.arbitrate
  split
  · exact .inl rfl
  · split
    · exact .inl rfl
    · exact .inr (.inl ⟨_, rfl⟩)
    · exact .inr (.inr rfl)

@[simp] theorem State.arbitrate_store (s : State) : s.arbitrate.store = s.store := by
  rcases s.arbitrate_spec with h | ⟨l, h⟩ | h <;> rw [h] <;> rfl

@[simp] theorem State.arbitrate_lanes (s : State) : s.arbitrate.lanes = s.lanes := by
  rcases s.arbitrate_spec with h | ⟨l, h⟩ | h <;> rw [h] <;> rfl

@[simp] theorem State.arbitrate_timebase (s : State) : s.arbitrate.timebase = s.timebase := by
  rcases s.arbitrate_spec with h | ⟨l, h⟩ | h <;> rw [h] <;> rfl

@[simp] theorem State.arbitrate_urgentLine (s : State) : s.arbitrate.urgentLine = s.urgentLine := by
  rcases s.arbitrate_spec with h | ⟨l, h⟩ | h <;> rw [h] <;> rfl

@[simp] theorem State.arbitrate_routineLine (s : State) : s.arbitrate.routineLine = s.routineLine := by
  rcases s.arbitrate_spec with h | ⟨l, h⟩ | h <;> rw [h] <;> rfl

@[simp] theorem State.arbitrate_pending (s : State) : s.arbitrate.pending = s.pending := by
  rcases s.arbitrate_spec with h | ⟨l, h⟩ | h <;> rw [h] <;> rfl

@[simp] theorem State.arbitrate_resetHeld (s : State) : s.arbitrate.resetHeld = s.resetHeld := by
  rcases s.arbitrate_spec with h | ⟨l, h⟩ | h <;> rw [h] <;> rfl

/-- R121: while a step is in progress no grant is made. -/
theorem State.arbitrate_busy (s : State) {r : Requester} (h : s.arbiter.busy = some r) : s.arbitrate = s := by
  simp [State.arbitrate, h]

/-- R121: when no request stands no grant is made. -/
theorem State.arbitrate_idle (s : State) (h : s.arbiter.choice = none) : s.arbitrate = s := by
  unfold State.arbitrate
  split
  · rfl
  · simp [h]

@[simp] theorem State.arbitrate_host_responses (s : State) : s.arbitrate.host.responses = s.host.responses := by
  rcases s.arbitrate_spec with h | ⟨l, h⟩ | h <;> rw [h] <;> rfl

@[simp] theorem State.arbitrate_host_reception (s : State) : s.arbitrate.host.reception = s.host.reception := by
  rcases s.arbitrate_spec with h | ⟨l, h⟩ | h <;> rw [h] <;> rfl

@[simp] theorem State.arbitrate_host_lineHeld (s : State) : s.arbitrate.host.lineHeld = s.host.lineHeld := by
  rcases s.arbitrate_spec with h | ⟨l, h⟩ | h <;> rw [h] <;> rfl

@[simp] theorem State.arbitrate_inFlight_isSome (s : State) :
    s.arbitrate.host.inFlight.isSome = s.host.inFlight.isSome := by
  rcases s.arbitrate_spec with h | ⟨l, h⟩ | h <;> rw [h] <;> simp

/-! ### The host engine (R126, R127, R130) -/

@[simp] theorem State.respond_store (s : State) (c : Byte) (st : Status) (ws : List Word) : (s.respond c st ws).store = s.store := rfl
@[simp] theorem State.respond_lanes (s : State) (c : Byte) (st : Status) (ws : List Word) : (s.respond c st ws).lanes = s.lanes := rfl
@[simp] theorem State.respond_timebase (s : State) (c : Byte) (st : Status) (ws : List Word) : (s.respond c st ws).timebase = s.timebase := rfl
@[simp] theorem State.respond_urgentLine (s : State) (c : Byte) (st : Status) (ws : List Word) : (s.respond c st ws).urgentLine = s.urgentLine := rfl
@[simp] theorem State.respond_routineLine (s : State) (c : Byte) (st : Status) (ws : List Word) : (s.respond c st ws).routineLine = s.routineLine := rfl
@[simp] theorem State.respond_pending (s : State) (c : Byte) (st : Status) (ws : List Word) : (s.respond c st ws).pending = s.pending := rfl
@[simp] theorem State.respond_resetHeld (s : State) (c : Byte) (st : Status) (ws : List Word) : (s.respond c st ws).resetHeld = s.resetHeld := rfl
@[simp] theorem State.respond_arbiter (s : State) (c : Byte) (st : Status) (ws : List Word) : (s.respond c st ws).arbiter = s.arbiter := rfl

@[simp] theorem State.truncateReception_store (s : State) : (s.truncateReception).store = s.store := by
  unfold State.truncateReception; split <;> rfl

@[simp] theorem State.truncateReception_lanes (s : State) : (s.truncateReception).lanes = s.lanes := by
  unfold State.truncateReception; split <;> rfl

@[simp] theorem State.truncateReception_timebase (s : State) : (s.truncateReception).timebase = s.timebase := by
  unfold State.truncateReception; split <;> rfl

@[simp] theorem State.truncateReception_urgentLine (s : State) : (s.truncateReception).urgentLine = s.urgentLine := by
  unfold State.truncateReception; split <;> rfl

@[simp] theorem State.truncateReception_routineLine (s : State) : (s.truncateReception).routineLine = s.routineLine := by
  unfold State.truncateReception; split <;> rfl

@[simp] theorem State.truncateReception_pending (s : State) : (s.truncateReception).pending = s.pending := by
  unfold State.truncateReception; split <;> rfl

@[simp] theorem State.truncateReception_resetHeld (s : State) : (s.truncateReception).resetHeld = s.resetHeld := by
  unfold State.truncateReception; split <;> rfl

@[simp] theorem State.truncateReception_arbiter (s : State) : (s.truncateReception).arbiter = s.arbiter := by
  unfold State.truncateReception; split <;> rfl

@[simp] theorem State.beginFrame_store (s : State) (c n : Byte) : (s.beginFrame c n).store = s.store := by
  unfold State.beginFrame; split <;> [rfl; (dsimp only; split <;> simp)]

@[simp] theorem State.beginFrame_lanes (s : State) (c n : Byte) : (s.beginFrame c n).lanes = s.lanes := by
  unfold State.beginFrame; split <;> [rfl; (dsimp only; split <;> simp)]

@[simp] theorem State.beginFrame_timebase (s : State) (c n : Byte) : (s.beginFrame c n).timebase = s.timebase := by
  unfold State.beginFrame; split <;> [rfl; (dsimp only; split <;> simp)]

@[simp] theorem State.beginFrame_urgentLine (s : State) (c n : Byte) : (s.beginFrame c n).urgentLine = s.urgentLine := by
  unfold State.beginFrame; split <;> [rfl; (dsimp only; split <;> simp)]

@[simp] theorem State.beginFrame_routineLine (s : State) (c n : Byte) : (s.beginFrame c n).routineLine = s.routineLine := by
  unfold State.beginFrame; split <;> [rfl; (dsimp only; split <;> simp)]

@[simp] theorem State.beginFrame_pending (s : State) (c n : Byte) : (s.beginFrame c n).pending = s.pending := by
  unfold State.beginFrame; split <;> [rfl; (dsimp only; split <;> simp)]

@[simp] theorem State.beginFrame_resetHeld (s : State) (c n : Byte) : (s.beginFrame c n).resetHeld = s.resetHeld := by
  unfold State.beginFrame; split <;> [rfl; (dsimp only; split <;> simp)]

@[simp] theorem State.beginFrame_arbiter (s : State) (c n : Byte) : (s.beginFrame c n).arbiter = s.arbiter := by
  unfold State.beginFrame; split <;> [rfl; (dsimp only; split <;> simp)]

@[simp] theorem State.respondFor_store (s : State) (f : InFlight) (st : Status) (ws : List Word) : (s.respondFor f st ws).store = s.store := by
  unfold State.respondFor; split <;> rfl

@[simp] theorem State.respondFor_lanes (s : State) (f : InFlight) (st : Status) (ws : List Word) : (s.respondFor f st ws).lanes = s.lanes := by
  unfold State.respondFor; split <;> rfl

@[simp] theorem State.respondFor_timebase (s : State) (f : InFlight) (st : Status) (ws : List Word) : (s.respondFor f st ws).timebase = s.timebase := by
  unfold State.respondFor; split <;> rfl

@[simp] theorem State.respondFor_urgentLine (s : State) (f : InFlight) (st : Status) (ws : List Word) : (s.respondFor f st ws).urgentLine = s.urgentLine := by
  unfold State.respondFor; split <;> rfl

@[simp] theorem State.respondFor_routineLine (s : State) (f : InFlight) (st : Status) (ws : List Word) : (s.respondFor f st ws).routineLine = s.routineLine := by
  unfold State.respondFor; split <;> rfl

@[simp] theorem State.respondFor_pending (s : State) (f : InFlight) (st : Status) (ws : List Word) : (s.respondFor f st ws).pending = s.pending := by
  unfold State.respondFor; split <;> rfl

@[simp] theorem State.respondFor_resetHeld (s : State) (f : InFlight) (st : Status) (ws : List Word) : (s.respondFor f st ws).resetHeld = s.resetHeld := by
  unfold State.respondFor; split <;> rfl

@[simp] theorem State.respondFor_arbiter (s : State) (f : InFlight) (st : Status) (ws : List Word) : (s.respondFor f st ws).arbiter = s.arbiter := by
  unfold State.respondFor; split <;> rfl

@[simp] theorem State.endCommand_store (s : State) (f : InFlight) (st : Status) (ws : List Word) : (s.endCommand f st ws).store = s.store := by
  simp [State.endCommand]

@[simp] theorem State.endCommand_lanes (s : State) (f : InFlight) (st : Status) (ws : List Word) : (s.endCommand f st ws).lanes = s.lanes := by
  simp [State.endCommand]

@[simp] theorem State.endCommand_timebase (s : State) (f : InFlight) (st : Status) (ws : List Word) : (s.endCommand f st ws).timebase = s.timebase := by
  simp [State.endCommand]

@[simp] theorem State.endCommand_urgentLine (s : State) (f : InFlight) (st : Status) (ws : List Word) : (s.endCommand f st ws).urgentLine = s.urgentLine := by
  simp [State.endCommand]

@[simp] theorem State.endCommand_routineLine (s : State) (f : InFlight) (st : Status) (ws : List Word) : (s.endCommand f st ws).routineLine = s.routineLine := by
  simp [State.endCommand]

@[simp] theorem State.endCommand_pending (s : State) (f : InFlight) (st : Status) (ws : List Word) : (s.endCommand f st ws).pending = s.pending := by
  simp [State.endCommand]

@[simp] theorem State.endCommand_resetHeld (s : State) (f : InFlight) (st : Status) (ws : List Word) : (s.endCommand f st ws).resetHeld = s.resetHeld := by
  simp [State.endCommand]

@[simp] theorem State.endCommand_arbiter (s : State) (f : InFlight) (st : Status) (ws : List Word) : (s.endCommand f st ws).arbiter = s.arbiter := by
  simp [State.endCommand]

@[simp] theorem State.endByAbort_store (s : State) (f : InFlight) : (s.endByAbort f).store = s.store := by
  unfold State.endByAbort; split <;> simp

@[simp] theorem State.endByAbort_lanes (s : State) (f : InFlight) : (s.endByAbort f).lanes = s.lanes := by
  unfold State.endByAbort; split <;> simp

@[simp] theorem State.endByAbort_timebase (s : State) (f : InFlight) : (s.endByAbort f).timebase = s.timebase := by
  unfold State.endByAbort; split <;> simp

@[simp] theorem State.endByAbort_urgentLine (s : State) (f : InFlight) : (s.endByAbort f).urgentLine = s.urgentLine := by
  unfold State.endByAbort; split <;> simp

@[simp] theorem State.endByAbort_routineLine (s : State) (f : InFlight) : (s.endByAbort f).routineLine = s.routineLine := by
  unfold State.endByAbort; split <;> simp

@[simp] theorem State.endByAbort_pending (s : State) (f : InFlight) : (s.endByAbort f).pending = s.pending := by
  unfold State.endByAbort; split <;> simp

@[simp] theorem State.endByAbort_resetHeld (s : State) (f : InFlight) : (s.endByAbort f).resetHeld = s.resetHeld := by
  unfold State.endByAbort; split <;> simp

@[simp] theorem State.abortCommand_store (s : State) : (s.abortCommand).store = s.store := by
  unfold State.abortCommand; split <;> [rfl; (split <;> simp)]

@[simp] theorem State.abortCommand_lanes (s : State) : (s.abortCommand).lanes = s.lanes := by
  unfold State.abortCommand; split <;> [rfl; (split <;> simp)]

@[simp] theorem State.abortCommand_timebase (s : State) : (s.abortCommand).timebase = s.timebase := by
  unfold State.abortCommand; split <;> [rfl; (split <;> simp)]

@[simp] theorem State.abortCommand_urgentLine (s : State) : (s.abortCommand).urgentLine = s.urgentLine := by
  unfold State.abortCommand; split <;> [rfl; (split <;> simp)]

@[simp] theorem State.abortCommand_routineLine (s : State) : (s.abortCommand).routineLine = s.routineLine := by
  unfold State.abortCommand; split <;> [rfl; (split <;> simp)]

@[simp] theorem State.abortCommand_pending (s : State) : (s.abortCommand).pending = s.pending := by
  unfold State.abortCommand; split <;> [rfl; (split <;> simp)]

@[simp] theorem State.abortCommand_resetHeld (s : State) : (s.abortCommand).resetHeld = s.resetHeld := by
  unfold State.abortCommand; split <;> [rfl; (split <;> simp)]

@[simp] theorem State.completeHostStep_store (s : State) (f : InFlight) (r : StepResult) : (s.completeHostStep f r).store = s.store := by
  cases r <;> simp only [State.completeHostStep] <;> [simp; (split <;> simp)]

@[simp] theorem State.completeHostStep_lanes (s : State) (f : InFlight) (r : StepResult) : (s.completeHostStep f r).lanes = s.lanes := by
  cases r <;> simp only [State.completeHostStep] <;> [simp; (split <;> simp)]

@[simp] theorem State.completeHostStep_timebase (s : State) (f : InFlight) (r : StepResult) : (s.completeHostStep f r).timebase = s.timebase := by
  cases r <;> simp only [State.completeHostStep] <;> [simp; (split <;> simp)]

@[simp] theorem State.completeHostStep_urgentLine (s : State) (f : InFlight) (r : StepResult) : (s.completeHostStep f r).urgentLine = s.urgentLine := by
  cases r <;> simp only [State.completeHostStep] <;> [simp; (split <;> simp)]

@[simp] theorem State.completeHostStep_routineLine (s : State) (f : InFlight) (r : StepResult) : (s.completeHostStep f r).routineLine = s.routineLine := by
  cases r <;> simp only [State.completeHostStep] <;> [simp; (split <;> simp)]

@[simp] theorem State.completeHostStep_pending (s : State) (f : InFlight) (r : StepResult) : (s.completeHostStep f r).pending = s.pending := by
  cases r <;> simp only [State.completeHostStep] <;> [simp; (split <;> simp)]

@[simp] theorem State.completeHostStep_resetHeld (s : State) (f : InFlight) (r : StepResult) : (s.completeHostStep f r).resetHeld = s.resetHeld := by
  cases r <;> simp only [State.completeHostStep] <;> [simp; (split <;> simp)]

@[simp] theorem State.enterFlight_store (s : State) (c : HostCommand) : (s.enterFlight c).store = s.store := by
  simp [State.enterFlight]

@[simp] theorem State.enterFlight_lanes (s : State) (c : HostCommand) : (s.enterFlight c).lanes = s.lanes := by
  simp [State.enterFlight]

@[simp] theorem State.enterFlight_timebase (s : State) (c : HostCommand) : (s.enterFlight c).timebase = s.timebase := by
  simp [State.enterFlight]

@[simp] theorem State.enterFlight_urgentLine (s : State) (c : HostCommand) : (s.enterFlight c).urgentLine = s.urgentLine := by
  simp [State.enterFlight]

@[simp] theorem State.enterFlight_routineLine (s : State) (c : HostCommand) : (s.enterFlight c).routineLine = s.routineLine := by
  simp [State.enterFlight]

@[simp] theorem State.enterFlight_pending (s : State) (c : HostCommand) : (s.enterFlight c).pending = s.pending := by
  simp [State.enterFlight]

@[simp] theorem State.enterFlight_resetHeld (s : State) (c : HostCommand) : (s.enterFlight c).resetHeld = s.resetHeld := by
  simp [State.enterFlight]

@[simp] theorem State.acceptCommand_store (s : State) (c : Byte) (j : List Word → Judged) (b : List Word) : (s.acceptCommand c j b).store = s.store := by
  unfold State.acceptCommand; split <;> [simp; (split <;> simp)]

@[simp] theorem State.acceptCommand_lanes (s : State) (c : Byte) (j : List Word → Judged) (b : List Word) : (s.acceptCommand c j b).lanes = s.lanes := by
  unfold State.acceptCommand; split <;> [simp; (split <;> simp)]

@[simp] theorem State.acceptCommand_timebase (s : State) (c : Byte) (j : List Word → Judged) (b : List Word) : (s.acceptCommand c j b).timebase = s.timebase := by
  unfold State.acceptCommand; split <;> [simp; (split <;> simp)]

@[simp] theorem State.acceptCommand_urgentLine (s : State) (c : Byte) (j : List Word → Judged) (b : List Word) : (s.acceptCommand c j b).urgentLine = s.urgentLine := by
  unfold State.acceptCommand; split <;> [simp; (split <;> simp)]

@[simp] theorem State.acceptCommand_routineLine (s : State) (c : Byte) (j : List Word → Judged) (b : List Word) : (s.acceptCommand c j b).routineLine = s.routineLine := by
  unfold State.acceptCommand; split <;> [simp; (split <;> simp)]

@[simp] theorem State.acceptCommand_pending (s : State) (c : Byte) (j : List Word → Judged) (b : List Word) : (s.acceptCommand c j b).pending = s.pending := by
  unfold State.acceptCommand; split <;> [simp; (split <;> simp)]

@[simp] theorem State.acceptCommand_resetHeld (s : State) (c : Byte) (j : List Word → Judged) (b : List Word) : (s.acceptCommand c j b).resetHeld = s.resetHeld := by
  unfold State.acceptCommand; split <;> [simp; (split <;> simp)]

/-! ### Completing a step (R117) -/

/-- R127: a command whose step is its last ends with its response, and the store is free for the next
grant. -/
theorem State.completeHostStep_done (s : State) (f : InFlight) (st : Status) (ws : List Word) :
    s.completeHostStep f (.done st ws) = (s.freeStore.endCommand f st ws).arbitrate := rfl

/-- R127: a command that has not been aborted asks for its next step. -/
theorem State.completeHostStep_more (s : State) (f : InFlight) (p : Progress) (h : f.abortMark = false) :
    s.completeHostStep f (.more p) =
      ((s.freeStore.setHost
        { s.host with
          inFlight := some { f with stepsDone := f.stepsDone + 1, progress := p,
                                    condition := .waiting } }).requestHostStep).arbitrate := by
  simp [State.completeHostStep, h]

/-- R129: a command with its abort pending mark set ends instead of asking for its next step. -/
theorem State.completeHostStep_aborted (s : State) (f : InFlight) (p : Progress) (h : f.abortMark = true) :
    s.completeHostStep f (.more p) =
      (s.freeStore.endByAbort { f with stepsDone := f.stepsDone + 1, progress := p }).arbitrate := by
  simp [State.completeHostStep, h]

/-! ### The lane units (R64, R71, R103) -/

/-- R103, R50: taking up the next thing changes the lane unit, and at most asks for a step. -/
theorem State.takeUp_frame (s : State) (l : Lane) :
    s.takeUp l = s ∨ (∃ u, s.takeUp l = s.setLane l u) ∨
      ∃ u, s.takeUp l = (s.setLane l u).requestLaneStep l := by
  unfold State.takeUp
  dsimp only
  split
  · exact .inl rfl
  · exact .inr (.inr ⟨_, rfl⟩)
  · split
    · split
      · exact .inr (.inl ⟨_, rfl⟩)
      · exact .inr (.inr ⟨_, rfl⟩)
    · exact .inr (.inr ⟨_, rfl⟩)
    · exact .inr (.inr ⟨_, rfl⟩)
  · exact .inl rfl

@[simp] theorem State.takeUp_store (s : State) (l : Lane) : (s.takeUp l).store = s.store := by
  rcases s.takeUp_frame l with h | ⟨u, h⟩ | ⟨u, h⟩ <;> rw [h] <;> rfl

@[simp] theorem State.takeUp_host (s : State) (l : Lane) : (s.takeUp l).host = s.host := by
  rcases s.takeUp_frame l with h | ⟨u, h⟩ | ⟨u, h⟩ <;> rw [h] <;> rfl

@[simp] theorem State.takeUp_timebase (s : State) (l : Lane) : (s.takeUp l).timebase = s.timebase := by
  rcases s.takeUp_frame l with h | ⟨u, h⟩ | ⟨u, h⟩ <;> rw [h] <;> rfl

@[simp] theorem State.takeUp_urgentLine (s : State) (l : Lane) : (s.takeUp l).urgentLine = s.urgentLine := by
  rcases s.takeUp_frame l with h | ⟨u, h⟩ | ⟨u, h⟩ <;> rw [h] <;> rfl

@[simp] theorem State.takeUp_routineLine (s : State) (l : Lane) : (s.takeUp l).routineLine = s.routineLine := by
  rcases s.takeUp_frame l with h | ⟨u, h⟩ | ⟨u, h⟩ <;> rw [h] <;> rfl

@[simp] theorem State.takeUp_pending (s : State) (l : Lane) : (s.takeUp l).pending = s.pending := by
  rcases s.takeUp_frame l with h | ⟨u, h⟩ | ⟨u, h⟩ <;> rw [h] <;> rfl

@[simp] theorem State.takeUp_resetHeld (s : State) (l : Lane) : (s.takeUp l).resetHeld = s.resetHeld := by
  rcases s.takeUp_frame l with h | ⟨u, h⟩ | ⟨u, h⟩ <;> rw [h] <;> rfl

@[simp] theorem State.takeUp_lane_ne (s : State) {l j : Lane} (h : j ≠ l) : (s.takeUp l).lane j = s.lane j := by
  rcases s.takeUp_frame l with e | ⟨u, e⟩ | ⟨u, e⟩ <;> rw [e]
  · exact State.lane_setLane_ne _ _ h
  · exact State.lane_setLane_ne _ _ h

/-- R103: everything that taking up the next thing can do: nothing where something is in hand or nothing
waits; a work item in hand; a LOOKUP answered at once (R50); or a request in service. -/
theorem State.takeUp_spec (s : State) (l : Lane) :
    s.takeUp l =
      if (s.lane l).inHand.isSome then s
      else if (s.lane l).workList ≠ [] then
        (s.setLane l { s.lane l with inHand := some .workItem }).requestLaneStep l
      else match (s.lane l).requests with
        | [] => s
        | .lookup key tag expiry lapLimit holdGroup :: rest =>
          match (s.lane l).state.refusal with
          | some reason => s.setLane l ({ s.lane l with requests := rest }.place (.answer tag .bin reason none))
          | none =>
            (s.setLane l
              { s.lane l with
                requests := rest
                inHand := some (.request (.lookup key tag expiry lapLimit holdGroup)) }).requestLaneStep l
        | r :: rest => (s.setLane l { s.lane l with requests := rest, inHand := some (.request r) }).requestLaneStep l := by
  unfold State.takeUp
  dsimp only
  cases h1 : (s.lane l).inHand <;> cases h2 : (s.lane l).workList <;> simp
  cases h3 : (s.lane l).requests with
  | nil => rfl
  | cons r rest => cases r <;> rfl

/-- R103: what is in hand stays in hand. -/
theorem State.takeUp_inHand (s : State) (l : Lane) (h : (s.lane l).inHand ≠ none) : s.takeUp l = s := by
  rw [s.takeUp_spec l, if_pos (Option.isSome_iff_ne_none.2 h)]

/-- R103: with nothing in hand and nothing waiting, nothing is taken up. -/
theorem State.takeUp_idle (s : State) (l : Lane) (h : (s.lane l).workList = []) (h' : (s.lane l).requests = []) :
    s.takeUp l = s := by
  rw [s.takeUp_spec l, h, h']
  simp

/-- Taking up the next thing so many times is of no effect where doing it once is of none. -/
theorem State.takeUpTimes_fixed (s : State) (l : Lane) (n : Nat) (h : s.takeUp l = s) : s.takeUpTimes l n = s := by
  induction n with
  | zero => rfl
  | succ n ih => rw [State.takeUpTimes, h, ih]

/-- R103: what holds of a state and is kept by taking up one thing is kept by taking up all that comes next. -/
theorem State.takeUpTimes_keeps (P : State → Prop) (l : Lane) (step : ∀ s : State, P s → P (s.takeUp l)) (n : Nat)
    (s : State) (h : P s) : P (s.takeUpTimes l n) := by
  induction n generalizing s with
  | zero => exact h
  | succ n ih => exact ih _ (step s h)

/-- R103: what holds of a state and is kept by taking up one thing is kept by taking up all that comes next. -/
theorem State.takeUpAll_keeps (P : State → Prop) (s : State) (l : Lane) (step : ∀ t : State, P t → P (t.takeUp l))
    (h : P s) : P (s.takeUpAll l) := State.takeUpTimes_keeps P l step _ s h

/-- R103: taking up all that comes next changes nothing while something is in hand, or when nothing waits. -/
theorem State.takeUpAll_none (s : State) (l : Lane)
    (h : (s.lane l).inHand ≠ none ∨ (s.lane l).workList = [] ∧ (s.lane l).requests = []) : s.takeUpAll l = s := by
  refine State.takeUpTimes_fixed s l _ ?_
  rcases h with h | ⟨h, h'⟩
  · exact s.takeUp_inHand l h
  · exact s.takeUp_idle l h h'

/-- R103: what is taken up and put in hand ends the taking up. -/
theorem State.takeUpAll_once (s : State) (l : Lane) (h : ((s.takeUp l).lane l).inHand ≠ none) :
    s.takeUpAll l = s.takeUp l := by
  unfold State.takeUpAll
  exact State.takeUpTimes_fixed _ l _ ((s.takeUp l).takeUp_inHand l h)

/-- R50, R103: after a LOOKUP answered at once, the taking up goes on. -/
theorem State.takeUpAll_again (s : State) (l : Lane)
    (h : ((s.takeUp l).lane l).requests.length + 1 = (s.lane l).requests.length) :
    s.takeUpAll l = (s.takeUp l).takeUpAll l := by
  unfold State.takeUpAll
  rw [← h]
  rfl

@[simp] theorem State.takeUpAll_store (s : State) (l : Lane) : (s.takeUpAll l).store = s.store :=
  State.takeUpAll_keeps (fun t => t.store = s.store) s l (fun t h => (t.takeUp_store l).trans h) rfl

@[simp] theorem State.takeUpAll_host (s : State) (l : Lane) : (s.takeUpAll l).host = s.host :=
  State.takeUpAll_keeps (fun t => t.host = s.host) s l (fun t h => (t.takeUp_host l).trans h) rfl

@[simp] theorem State.takeUpAll_timebase (s : State) (l : Lane) : (s.takeUpAll l).timebase = s.timebase :=
  State.takeUpAll_keeps (fun t => t.timebase = s.timebase) s l (fun t h => (t.takeUp_timebase l).trans h) rfl

@[simp] theorem State.takeUpAll_urgentLine (s : State) (l : Lane) : (s.takeUpAll l).urgentLine = s.urgentLine :=
  State.takeUpAll_keeps (fun t => t.urgentLine = s.urgentLine) s l (fun t h => (t.takeUp_urgentLine l).trans h) rfl

@[simp] theorem State.takeUpAll_routineLine (s : State) (l : Lane) : (s.takeUpAll l).routineLine = s.routineLine :=
  State.takeUpAll_keeps (fun t => t.routineLine = s.routineLine) s l (fun t h => (t.takeUp_routineLine l).trans h) rfl

@[simp] theorem State.takeUpAll_pending (s : State) (l : Lane) : (s.takeUpAll l).pending = s.pending :=
  State.takeUpAll_keeps (fun t => t.pending = s.pending) s l (fun t h => (t.takeUp_pending l).trans h) rfl

@[simp] theorem State.takeUpAll_resetHeld (s : State) (l : Lane) : (s.takeUpAll l).resetHeld = s.resetHeld :=
  State.takeUpAll_keeps (fun t => t.resetHeld = s.resetHeld) s l (fun t h => (t.takeUp_resetHeld l).trans h) rfl

@[simp] theorem State.takeUpAll_lane_ne (s : State) {l j : Lane} (h : j ≠ l) : (s.takeUpAll l).lane j = s.lane j :=
  State.takeUpAll_keeps (fun t => t.lane j = s.lane j) s l (fun t e => (t.takeUp_lane_ne h).trans e) rfl

@[simp] theorem State.completeLaneStep_store (s : State) (l : Lane) (m : Option Message) (t : Bool) : (s.completeLaneStep l m t).store = s.store := by
  cases h : (s.lane l).restartWaiting <;> cases t <;> simp [State.completeLaneStep, h]

@[simp] theorem State.completeLaneStep_timebase (s : State) (l : Lane) (m : Option Message) (t : Bool) : (s.completeLaneStep l m t).timebase = s.timebase := by
  cases h : (s.lane l).restartWaiting <;> cases t <;> simp [State.completeLaneStep, h]

@[simp] theorem State.completeLaneStep_urgentLine (s : State) (l : Lane) (m : Option Message) (t : Bool) : (s.completeLaneStep l m t).urgentLine = s.urgentLine := by
  cases h : (s.lane l).restartWaiting <;> cases t <;> simp [State.completeLaneStep, h]

@[simp] theorem State.completeLaneStep_routineLine (s : State) (l : Lane) (m : Option Message) (t : Bool) : (s.completeLaneStep l m t).routineLine = s.routineLine := by
  cases h : (s.lane l).restartWaiting <;> cases t <;> simp [State.completeLaneStep, h]

@[simp] theorem State.completeLaneStep_pending (s : State) (l : Lane) (m : Option Message) (t : Bool) : (s.completeLaneStep l m t).pending = s.pending := by
  cases h : (s.lane l).restartWaiting <;> cases t <;> simp [State.completeLaneStep, h]

@[simp] theorem State.completeLaneStep_resetHeld (s : State) (l : Lane) (m : Option Message) (t : Bool) : (s.completeLaneStep l m t).resetHeld = s.resetHeld := by
  cases h : (s.lane l).restartWaiting <;> cases t <;> simp [State.completeLaneStep, h]

@[simp] theorem State.restartArrives_store (s : State) (l : Lane) : (s.restartArrives l).store = s.store := by
  unfold State.restartArrives; dsimp only; split <;> simp

@[simp] theorem State.restartArrives_pending (s : State) (l : Lane) : (s.restartArrives l).pending = s.pending := by
  unfold State.restartArrives; dsimp only; split <;> simp

@[simp] theorem State.restartArrives_resetHeld (s : State) (l : Lane) : (s.restartArrives l).resetHeld = s.resetHeld := by
  unfold State.restartArrives; dsimp only; split <;> simp

@[simp] theorem State.arbitrate_lane (s : State) (l : Lane) : s.arbitrate.lane l = s.lane l := by
  simp [State.lane]

@[simp] theorem State.freeStore_lane (s : State) (l : Lane) : s.freeStore.lane l = s.lane l := rfl

@[simp] theorem State.requestLaneStep_lane (s : State) (l j : Lane) : (s.requestLaneStep l).lane j = s.lane j :=
  rfl

/-- R117: the completion of a lane's step leaves every other lane unit as the step's work left it. -/
@[simp] theorem State.completeLaneStep_lane_ne (s : State) {l j : Lane} (m : Option Message) (t : Bool)
    (h : j ≠ l) : (s.completeLaneStep l m t).lane j = s.lane j := by
  cases h' : (s.lane l).restartWaiting <;> cases t <;> simp [State.completeLaneStep, h', h]

/-- R64, R103: without taking up anything, the completion leaves the lane unit as `stepDone` says. -/
theorem State.completeLaneStep_lane (s : State) (l : Lane) (m : Option Message) :
    (s.completeLaneStep l m false).lane l = (s.lane l).stepDone m := by
  cases h : (s.lane l).restartWaiting <;> simp [State.completeLaneStep, h]

end Sys2Proof.Machine
end

