-- ==== Sys2Proof/Laws/Channel.lean ====
section
/-!
SUPPORT. What the operations of the host channel and of the judging of steps come to, once each: the
reception of a header and of a frame, the step of a single-step command, the thing a lane has in hand.
-/
namespace Sys2Proof.Machine

/-! ### Frames (R124, R126) -/

/-- R124, R126: everything that the arrival of a header word can do. -/
theorem State.beginFrame_spec (s : State) (code length : Byte) :
    s.beginFrame code length =
      if s.channelHeld then s
      else
        let rs := s.host.responses ++ (s.host.reception.map fun r => (⟨r.code, [2]⟩ : Response)).toList
        { s with
          host := { s.host with
            responses := rs
            reception := if rs.length ≤ 2 then some ⟨code, length⟩ else none } } := by
  unfold State.beginFrame State.truncateReception
  split
  · rfl
  · cases h : s.host.reception with
    | none =>
      simp only [Option.map_none, Option.toList_none, List.append_nil]
      by_cases room : s.host.responses.length ≤ 2
      · rw [if_pos (show s.host.responses.length ≤ Config.headerRoom from room), if_pos room]
        rfl
      · rw [if_neg (show ¬s.host.responses.length ≤ Config.headerRoom from room), if_neg room, ← h]
    | some r =>
      simp [Config.headerRoom, State.setHost, State.respond, Status.word]
      split <;> simp [*]

/-- R124: a whole frame that can be received is handed on with nothing left in reception. -/
theorem State.takeFrame_spec (s : State) (code : Byte) (body : List Word) (k : State → State)
    (h : s.takesFrame code body) :
    s.takeFrame code body k = k { s with host := { s.host with reception := none } } := by
  obtain ⟨h1, h0, h2, h3⟩ := h
  have held : s.channelHeld = false := by simp [State.channelHeld, h1, h0]
  unfold State.takeFrame
  rw [if_neg (by simp [held]; exact h2)]
  rcases h3 with h3 | ⟨h3, h4⟩
  · simp [receptionOf, h3]
    rfl
  · simp [receptionOf, h3, State.beginFrame, held, State.truncateReception, h4, State.setHost]

/-- R124: while a reset is asserted nothing is received. -/
theorem State.takeFrame_held (s : State) (code : Byte) (body : List Word) (k : State → State)
    (h : s.channelHeld = true) : s.takeFrame code body k = s := by
  simp [State.takeFrame, h]

/-- R124: a header that declares body words begins a frame. -/
theorem State.takePart_header (s : State) (code length : Byte) (k : List Word → State → State) (h : length ≠ 0) :
    s.takePart code k (.header length) = s.beginFrame code length := if_neg h

/-- R124: a header that declares no body word is a frame's arrival. -/
theorem State.takePart_empty (s : State) (code : Byte) (k : List Word → State → State) :
    s.takePart code k (.header 0) = (s.beginFrame code 0).takePart code k (.received []) := by
  simp [State.takePart]

/-- R125, R127, R128: what becomes of a received frame of a store-step command. -/
theorem State.takeFrame_acceptCommand (s : State) (code : Byte) (body : List Word) (judge : List Word → Judged)
    (h : s.takesFrame code body) :
    (s.takeFrame code body fun t => t.acceptCommand code judge body) =
      if s.host.inFlight.isSome then s.answered code [1]
      else match judge body with
        | .refused status results => s.answered code (status.word :: results)
        | .command c => State.enterFlight { s with host := { s.host with reception := none } } c := by
  rw [s.takeFrame_spec _ _ _ h]
  unfold State.acceptCommand
  simp [State.respond, State.answered, State.setHost, Status.word] <;> rfl

/-- The event of a whole frame of a store-step command is that frame's reception and judging. -/
theorem exec_frame (i : Instr) (code : Byte) (body : List Word) (judge : List Word → Judged) (s : State)
    (h : eventFrame i = some (code, body)) (hj : judgeOf code = some judge) :
    exec i s = .next (s.takeFrame code body fun t => t.acceptCommand code judge body) := by
  cases i <;> simp [eventFrame] at h
  all_goals
    rename_i part
    cases part <;> simp at h
  all_goals
    obtain ⟨rfl, rfl⟩ := h
    simp [judgeOf] at hj
    subst hj
    rfl

/-- R125: a frame of ABORT or READ STATUS with no body is acted on. -/
theorem State.bareCommand_empty (s : State) (code : Byte) (work : State → State) (h : s.takesFrame code []) :
    s.bareCommand code work (.received []) = work { s with host := { s.host with reception := none } } := by
  simp [State.bareCommand, State.takePart, s.takeFrame_spec _ _ _ h]

/-- R125: a frame of ABORT or READ STATUS with a body is answered BAD_FRAME. -/
theorem State.bareCommand_body (s : State) (code : Byte) (work : State → State) (body : List Word)
    (h : s.takesFrame code body) (hb : body ≠ []) :
    s.bareCommand code work (.received body) = s.answered code [2] := by
  simp [State.bareCommand, State.takePart, s.takeFrame_spec _ _ _ h, hb, State.respond, State.answered, State.setHost, Status.word]

/-! ### Aborts (R130) -/

/-- R130: only a CLEAR OUTLET whose start step has completed needs an ending step. -/
theorem InFlight.needsEndingStep_iff (f : InFlight) :
    f.needsEndingStep = true ↔ (∃ k, f.command = .clearOutlet k) ∧ 0 < f.stepsDone := by
  unfold InFlight.needsEndingStep
  cases f.command <;> simp

/-- R130: the partial results read the record store alone. -/
theorem abortedResults_of_store (s t : State) (f : InFlight) (h : s.store = t.store) :
    abortedResults s f = abortedResults t f := by
  simp only [abortedResults, State.cursor, h]

/-! ### Power-on reset (R168) -/

@[simp] theorem State.withPins_pending (s t : State) (asserted : Bool) : (s.withPins t asserted).pending = s.pending :=
  rfl
@[simp] theorem State.withPins_resetHeld (s t : State) (asserted : Bool) : (s.withPins t asserted).resetHeld = asserted :=
  rfl
@[simp] theorem State.withPins_lineHeld (s t : State) (asserted : Bool) :
    (s.withPins t asserted).host.lineHeld = s.host.lineHeld := rfl

/-- R168: an assertion of 10 microseconds leaves the values of power-on reset. -/
theorem State.releasePowerOn_full (s : State) (heldMicros : Nat) (h : 10 ≤ heldMicros) :
    s.releasePowerOn heldMicros = s.withPins State.reset false := by
  unfold State.releasePowerOn
  rw [if_pos (show Config.powerOnMicros ≤ heldMicros from h)]

/-- R168: a frame of a lane link has its effect while the pin is released. -/
theorem State.fromLink_of_released (s t : State) (h : s.resetHeld = false) : s.fromLink t = t := by
  simp [State.fromLink, h]

/-- R168: a frame of a lane link is lost while the pin is asserted. -/
theorem State.fromLink_of_asserted (s t : State) (h : s.resetHeld = true) : s.fromLink t = s := by
  simp [State.fromLink, h]

/-! ### The step in progress (R117) -/

/-- The command whose step is in progress is the one in flight. -/
theorem State.steppingCommand_of_hostSteps (s : State) (f : InFlight) (c : HostCommand) (h : s.hostSteps f c) :
    s.steppingCommand = some f := by
  obtain ⟨h1, h2, h3, _⟩ := h
  simp [State.steppingCommand, h1, h2, h3]

/-- R127: the step of a single-step command does its work and ends the command. -/
theorem State.singleStep_of_hostSteps (s : State) (f : InFlight) (c : HostCommand)
    (work : HostCommand → Option (State × Status × List Word)) (t : State) (status : Status) (results : List Word)
    (h : s.hostSteps f c) (hw : work c = some (t, status, results)) :
    s.singleStep work = t.completeHostStep f (.done status results) := by
  simp [State.singleStep, s.steppingCommand_of_hostSteps f c h, h.2.2.2, hw]

/-- What a lane's step is for is what the lane unit has in hand. -/
theorem State.laneStepping_of_laneSteps (s : State) (l : Lane) (x : InHand) (h : s.laneSteps l x) :
    s.laneStepping l = some x := by
  simp [State.laneStepping, h.1, h.2]

/-! ### Timers (R105) -/

/-- R105: a timer has run out when the timebase has come to its expiry or past it, across the wrap. -/
theorem runOut_iff (timebase expiry : Word32) : runOut timebase expiry = true ↔ (timebase - expiry).toNat < 2 ^ 31 := by
  simp [runOut, BitVec.msb_eq_decide]

end Sys2Proof.Machine
end

