-- ==== Sys2Proof/Laws/Commit.lean ====
section
/-!
SUPPORT. What the completion of a changing step leaves in every field (R117), and that it changes nothing of
its own where its rules find nothing to do.
-/
namespace Sys2Proof.Machine

/-! ### Attention and lines -/

@[simp] theorem State.refreshLines_store (s : State) : s.refreshLines.store = s.store := rfl
@[simp] theorem State.refreshLines_lanes (s : State) : s.refreshLines.lanes = s.lanes := rfl
@[simp] theorem State.refreshLines_host (s : State) : s.refreshLines.host = s.host := rfl
@[simp] theorem State.refreshLines_arbiter (s : State) : s.refreshLines.arbiter = s.arbiter := rfl
@[simp] theorem State.refreshLines_timebase (s : State) : s.refreshLines.timebase = s.timebase := rfl
@[simp] theorem State.refreshLines_pending (s : State) : s.refreshLines.pending = s.pending := rfl
@[simp] theorem State.refreshLines_resetHeld (s : State) : s.refreshLines.resetHeld = s.resetHeld := rfl
@[simp] theorem State.refreshLines_lane (s : State) (l : Lane) : s.refreshLines.lane l = s.lane l := rfl
@[simp] theorem State.refreshLines_routedCount (s : State) (l : Lane) :
    s.refreshLines.routedCount l = s.routedCount l := rfl

/-- R162: after a refresh the lines show what the list holds. -/
theorem State.refreshLines_linesLaw (s : State) : s.refreshLines.linesLaw := by
  simp [State.linesLaw, State.refreshLines]

/-- R162: where the lines already show what the list holds, a refresh changes nothing. -/
theorem State.refreshLines_eq (s : State) (h : s.linesLaw) : s.refreshLines = s := by
  obtain ⟨hu, hr⟩ := h
  have hu' : s.store.attention.any AttentionEntry.urgent = s.urgentLine := by
    rw [Bool.eq_iff_iff, hu]
    simp
  have hr' : (s.store.attention.any fun e => !e.urgent) = s.routineLine := by
    rw [Bool.eq_iff_iff, hr]
    simp
  simp [State.refreshLines, hu', hr']

@[simp] theorem State.addReasons_nil (s : State) : s.addReasons [] = s := rfl
@[simp] theorem State.addReasons_lanes (s : State) (xs : List (Subject × Reason)) :
    (s.addReasons xs).lanes = s.lanes := rfl
@[simp] theorem State.addReasons_lane (s : State) (xs : List (Subject × Reason)) (l : Lane) :
    (s.addReasons xs).lane l = s.lane l := rfl
@[simp] theorem State.addReasons_host (s : State) (xs : List (Subject × Reason)) :
    (s.addReasons xs).host = s.host := rfl
@[simp] theorem State.addReasons_arbiter (s : State) (xs : List (Subject × Reason)) :
    (s.addReasons xs).arbiter = s.arbiter := rfl
@[simp] theorem State.addReasons_timebase (s : State) (xs : List (Subject × Reason)) :
    (s.addReasons xs).timebase = s.timebase := rfl
@[simp] theorem State.addReasons_pending (s : State) (xs : List (Subject × Reason)) :
    (s.addReasons xs).pending = s.pending := rfl
@[simp] theorem State.addReasons_resetHeld (s : State) (xs : List (Subject × Reason)) :
    (s.addReasons xs).resetHeld = s.resetHeld := rfl
@[simp] theorem State.addReasons_routedCount (s : State) (xs : List (Subject × Reason)) (l : Lane) :
    (s.addReasons xs).routedCount l = s.routedCount l := rfl

/-! ### Drains (R110) -/

/-- R110: one lane's drain changes that lane's unit alone. -/
theorem State.completeDrain_frame (s : State) (l : Lane) :
    s.completeDrain l = s.setLane l (if s.drainComplete l then (s.lane l).reachStopped else s.lane l) := by
  unfold State.completeDrain
  split
  · rfl
  · simp [State.setLane, State.lane]

@[simp] theorem State.drainComplete_setLane_ne (s : State) {l j : Lane} (u : LaneUnit) (h : j ≠ l) :
    (s.setLane l u).drainComplete j = s.drainComplete j := by
  simp [State.drainComplete, h]

/-- R110: the lane unit of each lane after the drains of a step. -/
def State.drained (s : State) (l : Lane) : LaneUnit :=
  if s.drainComplete l then (s.lane l).reachStopped else s.lane l

/-- R110: the drains of a step change lane units alone, each by its own drain. -/
theorem State.completeDrains_eq (s : State) :
    s.completeDrains =
      (((s.setLane 0 (s.drained 0)).setLane 1 (s.drained 1)).setLane 2 (s.drained 2)).setLane 3 (s.drained 3) := by
  simp [State.completeDrains, allLanes, State.completeDrain_frame, State.drained]

@[simp] theorem State.completeDrains_store (s : State) : s.completeDrains.store = s.store := by
  rw [s.completeDrains_eq]; rfl
@[simp] theorem State.completeDrains_host (s : State) : s.completeDrains.host = s.host := by
  rw [s.completeDrains_eq]; rfl
@[simp] theorem State.completeDrains_arbiter (s : State) : s.completeDrains.arbiter = s.arbiter := by
  rw [s.completeDrains_eq]; rfl
@[simp] theorem State.completeDrains_timebase (s : State) : s.completeDrains.timebase = s.timebase := by
  rw [s.completeDrains_eq]; rfl
@[simp] theorem State.completeDrains_pending (s : State) : s.completeDrains.pending = s.pending := by
  rw [s.completeDrains_eq]; rfl
@[simp] theorem State.completeDrains_resetHeld (s : State) : s.completeDrains.resetHeld = s.resetHeld := by
  rw [s.completeDrains_eq]; rfl
@[simp] theorem State.completeDrains_urgentLine (s : State) : s.completeDrains.urgentLine = s.urgentLine := by
  rw [s.completeDrains_eq]; rfl
@[simp] theorem State.completeDrains_routineLine (s : State) :
    s.completeDrains.routineLine = s.routineLine := by
  rw [s.completeDrains_eq]; rfl
@[simp] theorem State.completeDrains_routedCount (s : State) (l : Lane) :
    s.completeDrains.routedCount l = s.routedCount l := by
  rw [s.completeDrains_eq]; rfl

@[simp] theorem State.completeDrains_lane (s : State) (l : Lane) : s.completeDrains.lane l = s.drained l := by
  rw [s.completeDrains_eq]
  match l with
  | 0 => simp
  | 1 => simp
  | 2 => simp
  | 3 => simp

/-- R110: where no drain is complete, the drains of a step change nothing. -/
theorem State.completeDrains_none (s : State) (h : ∀ l, s.drainComplete l = false) : s.completeDrains = s := by
  rw [s.completeDrains_eq]
  simp [State.drained, h, State.setLane, State.lane]

/-! ### The completion of a changing step -/

/-- The state after the revisions and the slips of a step, before its drains and reasons. -/
def settled (before after : State) : State := State.slipCursors before (State.advanceRevisions before after)

@[simp] theorem settled_lanes (b a : State) : (settled b a).lanes = a.lanes := rfl
@[simp] theorem settled_lane (b a : State) (l : Lane) : (settled b a).lane l = a.lane l := rfl
@[simp] theorem settled_routedCount (b a : State) (l : Lane) : (settled b a).routedCount l = a.routedCount l := rfl
@[simp] theorem settled_outlet (b a : State) (k : OutletId) : (settled b a).outlet k = a.outlet k := rfl
@[simp] theorem settled_drainComplete (b a : State) (l : Lane) :
    (settled b a).drainComplete l = a.drainComplete l := rfl
@[simp] theorem settled_drained (b a : State) (l : Lane) : (settled b a).drained l = a.drained l := rfl

/-- The reasons that the completion of a step adds: its own, the FULL reasons and the DRAINED reasons. -/
def completionReasons (before after : State) (xs : List (Subject × Reason)) : List (Subject × Reason) :=
  xs ++ fullReasons before after ++ after.drainReasons

/-- The completion of a step, in its parts. -/
theorem commit_eq (b a : State) (xs : List (Subject × Reason)) :
    commit b a xs = ((settled b a).completeDrains.addReasons (completionReasons b a xs)).refreshLines := rfl

@[simp] theorem commit_records (b a : State) (xs : List (Subject × Reason)) :
    (commit b a xs).store.records = a.store.records.map (revised b) := by
  simp [commit_eq, State.addReasons, settled, State.slipCursors, State.advanceRevisions]
@[simp] theorem commit_cursors (b a : State) (xs : List (Subject × Reason)) :
    (commit b a xs).store.cursors = a.store.cursors.map (slipCursor b (State.advanceRevisions b a)) := by
  simp [commit_eq, State.addReasons, settled, State.slipCursors, State.advanceRevisions]
@[simp] theorem commit_keyIndex (b a : State) (xs : List (Subject × Reason)) :
    (commit b a xs).store.keyIndex = a.store.keyIndex := by
  simp [commit_eq, State.addReasons, settled, State.slipCursors, State.advanceRevisions]
@[simp] theorem commit_serialCounter (b a : State) (xs : List (Subject × Reason)) :
    (commit b a xs).store.serialCounter = a.store.serialCounter := by
  simp [commit_eq, State.addReasons, settled, State.slipCursors, State.advanceRevisions]
@[simp] theorem commit_counts (b a : State) (xs : List (Subject × Reason)) :
    (commit b a xs).store.counts = a.store.counts := by
  simp [commit_eq, State.addReasons, settled, State.slipCursors, State.advanceRevisions]
@[simp] theorem commit_outlets (b a : State) (xs : List (Subject × Reason)) :
    (commit b a xs).store.outlets = a.store.outlets := by
  simp [commit_eq, State.addReasons, settled, State.slipCursors, State.advanceRevisions]
@[simp] theorem commit_bins (b a : State) (xs : List (Subject × Reason)) :
    (commit b a xs).store.bins = a.store.bins := by
  simp [commit_eq, State.addReasons, settled, State.slipCursors, State.advanceRevisions]
@[simp] theorem commit_groups (b a : State) (xs : List (Subject × Reason)) :
    (commit b a xs).store.groups = a.store.groups := by
  simp [commit_eq, State.addReasons, settled, State.slipCursors, State.advanceRevisions]
@[simp] theorem commit_rules (b a : State) (xs : List (Subject × Reason)) :
    (commit b a xs).store.rules = a.store.rules := by
  simp [commit_eq, State.addReasons, settled, State.slipCursors, State.advanceRevisions]
@[simp] theorem commit_attention (b a : State) (xs : List (Subject × Reason)) :
    (commit b a xs).store.attention =
      (inSubjectOrder (completionReasons b a xs)).foldl (fun es x => addReason x es) a.store.attention := by
  simp [commit_eq, State.addReasons, settled, State.slipCursors, State.advanceRevisions]
@[simp] theorem commit_host (b a : State) (xs : List (Subject × Reason)) : (commit b a xs).host = a.host := by
  simp [commit_eq, settled, State.slipCursors, State.advanceRevisions]
@[simp] theorem commit_arbiter (b a : State) (xs : List (Subject × Reason)) :
    (commit b a xs).arbiter = a.arbiter := by
  simp [commit_eq, settled, State.slipCursors, State.advanceRevisions]
@[simp] theorem commit_timebase (b a : State) (xs : List (Subject × Reason)) :
    (commit b a xs).timebase = a.timebase := by
  simp [commit_eq, settled, State.slipCursors, State.advanceRevisions]
@[simp] theorem commit_pending (b a : State) (xs : List (Subject × Reason)) :
    (commit b a xs).pending = a.pending := by
  simp [commit_eq, settled, State.slipCursors, State.advanceRevisions]
@[simp] theorem commit_resetHeld (b a : State) (xs : List (Subject × Reason)) :
    (commit b a xs).resetHeld = a.resetHeld := by
  simp [commit_eq, settled, State.slipCursors, State.advanceRevisions]
@[simp] theorem commit_lane (b a : State) (xs : List (Subject × Reason)) (l : Lane) :
    (commit b a xs).lane l = a.drained l := by
  simp [commit_eq]
@[simp] theorem commit_outlet (b a : State) (xs : List (Subject × Reason)) (k : OutletId) :
    (commit b a xs).outlet k = a.outlet k := by
  simp [State.outlet]
@[simp] theorem commit_bin (b a : State) (xs : List (Subject × Reason)) (l : Lane) :
    (commit b a xs).bin l = a.bin l := by
  simp [State.bin]
@[simp] theorem commit_group (b a : State) (xs : List (Subject × Reason)) (g : GroupId) :
    (commit b a xs).group g = a.group g := by
  simp [State.group]
@[simp] theorem commit_rule (b a : State) (xs : List (Subject × Reason)) (n : RuleId) :
    (commit b a xs).rule n = a.rule n := by
  simp [State.rule]
@[simp] theorem commit_routedCount (b a : State) (xs : List (Subject × Reason)) (l : Lane) :
    (commit b a xs).routedCount l = a.routedCount l := by
  simp [State.routedCount]

/-- R162: after a changing step the lines show what the list holds. -/
theorem commit_linesLaw (b a : State) (xs : List (Subject × Reason)) : (commit b a xs).linesLaw :=
  State.refreshLines_linesLaw _

/-- R110: after a changing step a DRAINING lane has routed records. -/
theorem commit_draining (b a : State) (xs : List (Subject × Reason)) (l : Lane)
    (h : ((commit b a xs).lane l).state = .draining) : 0 < (commit b a xs).routedCount l := by
  simp only [commit_lane, commit_routedCount, State.drained] at h ⊢
  split at h
  · simp [LaneUnit.reachStopped] at h
  · rename_i hd
    simp only [State.drainComplete, decide_eq_true_eq, not_and] at hd
    exact Nat.pos_of_ne_zero (hd h)

/-! ### A step that its completion adds nothing to -/

/-- R3: in a state whose records have distinct slots, a record is found by its slot and serial. -/
theorem State.record?_of_mem (s : State) (h : s.recordsLaw) {r : ItemRecord} (hr : r ∈ s.store.records) :
    s.record? r.ref = some r := by
  obtain ⟨hp, -⟩ := h
  simp only [State.record?]
  generalize s.store.records = rs at hp hr
  induction rs with
  | nil => simp at hr
  | cons q qs ih =>
    rw [List.find?_cons]
    rw [List.pairwise_cons] at hp
    rcases List.mem_cons.1 hr with rfl | hq
    · simp
    · have hne : q.ref ≠ r.ref := fun e => by
        have := hp.1 r hq
        rw [e] at this
        exact Nat.lt_irrefl _ this
      simp [hne, ih hp.2 hq]

/-- R5: what is found by slot and serial is a record in use with that slot and serial. -/
theorem State.record?_some (s : State) {ref : Ref} {r : ItemRecord} (h : s.record? ref = some r) :
    r ∈ s.store.records ∧ r.ref = ref := by
  unfold State.record? at h
  exact ⟨List.mem_of_find?_eq_some h, by simpa using List.find?_some h⟩

/-- R9: a step that leaves the records as they were advances no revision. -/
theorem revised_unchanged (b : State) (h : b.recordsLaw) :
    b.store.records.map (revised b) = b.store.records := by
  conv_rhs => rw [← List.map_id b.store.records]
  apply List.map_congr_left
  intro r hr
  simp [revised, b.record?_of_mem h hr]

/-- R141: a cursor slips only when its record leaves its view. -/
theorem slipCursor_same (b a : State) (h : ∀ v, a.members v = b.members v) (c : Cursor) : slipCursor b a c = c := by
  unfold slipCursor
  split
  · rw [h]
    rw [if_neg (by rintro ⟨h1, h2⟩; exact h2 h1)]
  · rfl

/-- A step that changes no record, moves no record between views, completes no drain, fills no outlet and
adds no reason is left as it is by its completion. -/
theorem commit_quiet (b a : State) (hb : b.recordsLaw) (hrec : a.store.records = b.store.records)
    (hmem : ∀ v, a.members v = b.members v) (hdrain : ∀ l, a.drainComplete l = false)
    (hfull : fullReasons b a = []) (hlines : a.linesLaw) : commit b a [] = a := by
  have h1 : State.advanceRevisions b a = a := by
    simp only [State.advanceRevisions, hrec, revised_unchanged b hb]
    rw [← hrec]
    rfl
  have h2 : settled b a = a := by
    simp only [settled, h1, State.slipCursors]
    have : (fun c => slipCursor b a c) = id := funext (slipCursor_same b a hmem)
    rw [show a.store.cursors.map (slipCursor b a) = a.store.cursors from by
      simp [this]]
    rfl
  have h3 : a.drainReasons = [] := by
    simp [State.drainReasons, hdrain]
  rw [commit_eq, h2, completionReasons, hfull, h3, State.completeDrains_none _ hdrain]
  exact a.refreshLines_eq hlines

end Sys2Proof.Machine
end

