-- ==== Sys2Proof/Laws/Store.lean ====
section
/-!
SUPPORT. What the shared operations on records and lists come to, once each: finding a record, changing one,
and a record's leaving its list and its lane.
-/
namespace Sys2Proof.Machine

/-! ### Finding records (R3, R5) -/

/-- R5: a record that is found is in use and has the slot and serial asked for. -/
theorem State.record?_spec (s : State) (ref : Ref) (r : ItemRecord) (h : s.record? ref = some r) :
    r ∈ s.store.records ∧ r.ref = ref :=
  ⟨List.mem_of_find?_eq_some h, by simpa using List.find?_some h⟩

/-- R3: whether a slot is in use. -/
theorem State.slotInUse_iff (s : State) (n : Nat) :
    s.slotInUse n = true ↔ ∃ r ∈ s.store.records, r.ref.slot = n := by
  simp [State.slotInUse]

/-- R3: the search for a free slot finds the lowest at or after its start. -/
theorem State.freeFrom_spec (s : State) (n fuel m : Nat) (h : s.freeFrom n fuel = some m) :
    n ≤ m ∧ s.slotInUse m = false ∧ ∀ k, n ≤ k → k < m → s.slotInUse k = true := by
  induction fuel generalizing n with
  | zero => simp [State.freeFrom] at h
  | succ fuel ih =>
    unfold State.freeFrom at h
    split at h
    · rename_i used
      obtain ⟨h1, h2, h3⟩ := ih (n + 1) h
      refine ⟨by omega, h2, fun k hk hm => ?_⟩
      by_cases e : k = n
      · rwa [e]
      · exact h3 k (by omega) hm
    · rename_i free
      obtain rfl : n = m := by simpa using h
      exact ⟨Nat.le_refl _, by simpa using free, fun k h1 h2 => absurd h2 (by omega)⟩

/-- R3: a slot that is found is the lowest free one of the 8192. -/
theorem State.lowestFreeSlot_some (s : State) (m : Nat) (h : s.lowestFreeSlot = some m) :
    m < 8192 ∧ (∀ r ∈ s.store.records, r.ref.slot ≠ m) ∧
      ∀ k, k < m → ∃ r ∈ s.store.records, r.ref.slot = k := by
  unfold State.lowestFreeSlot at h
  split at h
  · rename_i n found
    split at h
    · rename_i small
      obtain rfl : n = m := by simpa using h
      obtain ⟨_, free, used⟩ := s.freeFrom_spec _ _ _ found
      refine ⟨small, fun r hr e => ?_, fun k hk => (s.slotInUse_iff k).1 (used k (Nat.zero_le _) hk)⟩
      exact absurd ((s.slotInUse_iff n).2 ⟨r, hr, e⟩) (by simp [free])
    · cases h
  · cases h

/-! ### Changing a record (R2, R11) -/

/-- R2, R11: the state of a record in use is replaced, the counts follow, and nothing else changes. -/
theorem State.changeState_spec (s : State) (ref : Ref) (new : ItemState) (r : ItemRecord)
    (h : s.record? ref = some r) :
    s.changeState ref new =
      { s with
        store := { s.store with
          records := s.store.records.map fun q => if q.ref = ref then { q with state := new } else q
          counts := s.store.counts.move (stateKind r.state) (stateKind new) } } := by
  simp only [State.changeState, h]
  rfl

/-! ### Leaving lists (R20, R28, R72, R94) -/

/-- R28: a member leaves an expected list of a place on a lane, the reserved count falls, and nothing else
changes. -/
theorem State.removeExpected_outlet (s : State) (l : Lane) (k : OutletId) (ref : Ref)
    (h : ref ∈ (s.outlet k).expected) :
    s.removeExpected l (.outlet k) ref =
      s.setOutlet k
        { s.outlet k with
          reserved := (s.outlet k).reserved - 1
          expected := (s.outlet k).expected.erase ref } := by
  simp [State.removeExpected, State.expectedList, h, State.setExpected, State.reserved]

/-- R28 for a bin. -/
theorem State.removeExpected_bin (s : State) (l : Lane) (ref : Ref) (h : ref ∈ (s.bin l).expected) :
    s.removeExpected l .bin ref =
      s.setBin l { reserved := (s.bin l).reserved - 1, expected := (s.bin l).expected.erase ref } := by
  simp [State.removeExpected, State.expectedList, h, State.setExpected, State.reserved]

/-- R28: a member leaves a content list, the held count falls, and nothing else changes. -/
theorem State.removeContent_spec (s : State) (k : OutletId) (ref : Ref) (h : ref ∈ (s.outlet k).content) :
    s.removeContent k ref =
      s.setOutlet k
        { s.outlet k with held := (s.outlet k).held - 1, content := (s.outlet k).content.erase ref } := by
  simp [State.removeContent, h]

/-- R104: the message being sent and the unsent ones are the outbound queue. -/
@[simp] theorem LaneUnit.beingSent_append_unsent (u : LaneUnit) : u.beingSent ++ u.unsent = u.outbound := by
  cases h : u.sending <;> cases o : u.outbound <;> simp [LaneUnit.beingSent, LaneUnit.unsent, h, o]

/-- R94, R104: the message being sent stays when messages are withdrawn. -/
@[simp] theorem LaneUnit.withdraw_beingSent (p : Message → Bool) (u : LaneUnit) :
    (u.withdraw p).beingSent = u.beingSent := by
  cases h : u.sending <;> cases o : u.outbound <;>
    simp [LaneUnit.withdraw, LaneUnit.beingSent, LaneUnit.unsent, h, o]

/-- R94, R104: of the unsent messages those stay that are not picked. -/
@[simp] theorem LaneUnit.withdraw_unsent (p : Message → Bool) (u : LaneUnit) :
    (u.withdraw p).unsent = u.unsent.filter fun m => !p m := by
  cases h : u.sending <;> cases o : u.outbound <;>
    simp [LaneUnit.withdraw, LaneUnit.beingSent, LaneUnit.unsent, h, o]

/-- R87, R101: all that making room for a REVISE can do. -/
theorem LaneUnit.roomForRevise_spec (u : LaneUnit) :
    u.roomForRevise = u ∨
      ∃ m ms, u.sending = true ∧ u.outbound = m :: ms ∧ m.reviseOrdinal.isSome = true ∧
        8 ≤ u.outbound.countP (fun m => m.reviseOrdinal.isSome) ∧
        u.roomForRevise = { u with outbound := ms, sending := false, finishing := some m } := by
  unfold LaneUnit.roomForRevise
  split
  · rename_i h
    obtain ⟨h, n⟩ := h
    right
    cases hs : u.sending with
    | false => simp [LaneUnit.beingSent, hs] at h
    | true =>
      cases ho : u.outbound with
      | nil => simp [LaneUnit.beingSent, hs, ho] at h
      | cons m ms =>
        rw [ho] at n
        exact ⟨m, ms, rfl, rfl, by simpa [LaneUnit.beingSent, hs, ho] using h, n,
          by simp [LaneUnit.unsent, hs, ho]⟩
  · exact .inl rfl

/-- R88, R94: everything that removing a record's pending revision does to the lane unit. -/
@[simp] theorem LaneUnit.dropRevision_eq (u : LaneUnit) (ref : Ref) (ordinal : Word32) :
    u.dropRevision ref ordinal = u.settled ref ordinal := by
  cases h : u.sending <;>
    simp [LaneUnit.dropRevision, LaneUnit.withdrawRevise, LaneUnit.withdraw, LaneUnit.closeRevise,
      LaneUnit.settled, LaneUnit.beingSent, LaneUnit.unsent, h]

/-- R94: the clearing of a pending revision changes the lane unit alone. -/
theorem State.clearPending_spec (s : State) (l : Lane) (ref : Ref) (ordinal : Word32) (pending : Option Place) :
    s.clearPending l ref ordinal pending =
      s.setLane l (match pending with
        | none => s.lane l
        | some _ => (s.lane l).dropRevision ref ordinal) := by
  cases pending with
  | none => simp [State.clearPending, State.setLane, State.lane]
  | some target => rfl

/-- R20, R72, R94: everything that a record's leaving its list and its lane does, for a record that stands
where the membership law puts it. -/
theorem State.leaveLists_spec (s : State) (r : ItemRecord) (h : s.recordPlaced r) :
    let t := s.leaveLists r
    (∀ k, t.outlet k = (s.outlet k).without k r) ∧ (∀ l, t.bin l = (s.bin l).without l r) ∧
      (∀ l, t.lane l = (s.lane l).without l r) ∧
      t = { s with
            store := { s.store with outlets := t.store.outlets, bins := t.store.bins }
            lanes := t.lanes } := by
  unfold State.recordPlaced at h
  unfold State.leaveLists
  split at h <;> rename_i e
  · rename_i k ordinal pending
    obtain ⟨l, hl, _, hm⟩ := h
    simp only [e, hl, s.removeExpected_outlet l k r.ref hm, State.clearPending_spec]
    refine ⟨fun j => ?_, fun j => ?_, fun j => ?_, rfl⟩
    · simp only [State.setLane_outlet, State.outlet_setOutlet, OutletEntry.without, e]
      by_cases hj : j = k
      · subst hj
        simp
      · simp [hj, Ne.symm hj]
    · simp [Bin.without, e]
    · simp only [State.lane_setLane, LaneUnit.without, e, hl, State.setOutlet_lane]
      by_cases hj : j = l
      · subst hj
        cases pending <;> simp
      · cases pending <;> simp [hj, Ne.symm hj]
  · rename_i ordinal pending
    obtain ⟨l, hl, hm⟩ := h
    simp only [e, hl, s.removeExpected_bin l r.ref hm, State.clearPending_spec]
    refine ⟨fun j => ?_, fun j => ?_, fun j => ?_, rfl⟩
    · simp [OutletEntry.without, e]
    · simp only [State.setLane_bin, State.bin_setBin, Bin.without, e, hl]
      by_cases hj : j = l
      · subst hj
        simp
      · simp [hj, Ne.symm hj]
    · simp only [State.lane_setLane, LaneUnit.without, e, hl, State.setBin_lane]
      by_cases hj : j = l
      · subst hj
        cases pending <;> simp
      · cases pending <;> simp [hj, Ne.symm hj]
  · rename_i k arrival stray
    simp only [e, s.removeContent_spec k r.ref h.2]
    refine ⟨fun j => ?_, fun j => ?_, fun j => ?_, rfl⟩
    · simp only [State.outlet_setOutlet, OutletEntry.without, e]
      by_cases hj : j = k
      · subst hj
        simp
      · simp [hj, Ne.symm hj]
    · simp [Bin.without, e]
    · simp [LaneUnit.without, e]
  all_goals simp [e, OutletEntry.without, Bin.without, LaneUnit.without]

end Sys2Proof.Machine
end

