-- ==== Sys2Proof/Tests/Slice0.lean ====
section
/-!
SUPPORT. Tests: ill-formed events that WellFormed refuses, checks of single steps against the worked examples
of the specification, and for every statement with hypotheses a state and operands that meet them.
-/
namespace Sys2Proof.Tests
open Sys2Proof Sys2Proof.Machine
-- One proof after another: checked side by side, these evaluations take more memory than the check allows.
set_option Elab.async false

/-! ### WellFormed refuses ill-formed events (R6, R99, R124, R164) -/

/-- A key of this length, every byte 65. -/
def keyOf (n : Nat) : Key := List.replicate n 65

theorem test_refuses_body_of_256_words : (Instr.createItem (.received (List.replicate 256 0))).wellFormed = false := by
  decide +kernel
theorem test_accepts_body_of_255_words : (Instr.createItem (.received (List.replicate 255 0))).wellFormed = true := by
  decide +kernel
theorem test_refuses_long_frame_part : (Instr.search (.received (List.replicate 256 0))).wellFormed = false := by
  decide +kernel
theorem test_refuses_bad_frame_of_a_command : (Instr.badFrame (.header 0x01 0)).wellFormed = false := by
  decide +kernel
theorem test_refuses_bad_frame_with_long_body :
    (Instr.badFrame (.received 0x00 (List.replicate 256 0))).wellFormed = false := by decide +kernel
theorem test_accepts_code_without_command : (Instr.badFrame (.header 0x0E 0)).wellFormed = true := by decide +kernel
theorem test_refuses_reading_no_word : (Instr.readResponse 0).wellFormed = false := by decide +kernel
theorem test_refuses_key_of_3_bytes : (Instr.lookup 0 (keyOf 3) 0).wellFormed = false := by decide +kernel
theorem test_refuses_key_of_21_bytes : (Instr.confirm 0 (keyOf 21) 1).wellFormed = false := by decide +kernel
theorem test_refuses_key_with_byte_32 : (Instr.miss 0 [65, 65, 65, 32]).wellFormed = false := by decide +kernel
theorem test_refuses_key_with_byte_127 : (Instr.miss 0 [65, 65, 65, 127]).wellFormed = false := by decide +kernel
theorem test_refuses_sound_frame_as_discarded :
    (Instr.discardedFrame 0 (laneFrame 0x15 [])).wellFormed = false := by decide +kernel
theorem test_refuses_a_byte_without_delimiter : (Instr.discardedFrame 0 [0x00]).wellFormed = false := by
  decide +kernel
theorem test_refuses_an_unfinished_frame : (Instr.discardedFrame 0 [0xA5, 0x15, 0, 0]).wellFormed = false := by
  decide +kernel
theorem test_accepts_a_frame_with_a_wrong_check : (Instr.discardedFrame 0 [0xA5, 0x15, 0, 0, 0]).wellFormed = true := by
  decide +kernel

/-! ### Formats (chapter 12) -/

/-- R167: "the nine bytes 0x31 ... 0x39 give 0x29B1". -/
theorem test_lane_check :
    crc16 [0x31, 0x32, 0x33, 0x34, 0x35, 0x36, 0x37, 0x38, 0x39] = 0x29B1 := by decide +kernel
/-- R164: the codes of the table, 0x0E among those of no command. -/
theorem test_codes : codeAssigned 0x0D = true ∧ codeAssigned 0x0E = false ∧ codeAssigned 0x1D = true ∧
    codeAssigned 0x1E = false ∧ codeAssigned 0x00 = false := by decide +kernel
/-- R165: a body of another length draws BAD_FRAME, an unknown kind BAD_ARGUMENT. -/
theorem test_body_length : judgeCloseOutlet [5, 0] = .refused .badFrame [] := by decide +kernel
theorem test_unknown_kind : judgeReadItem [4, 0, 0, 0] = .refused .badArgument [] := by decide +kernel
/-- R128: a range comes before a key, and outlet 49 lies outside 1..48. -/
theorem test_outlet_range : judgeCloseOutlet [49] = .refused .badArgument [] ∧
    judgeCloseOutlet [48] = .command (.closeOutlet 47) := by decide +kernel
/-- R6: a key of 3 bytes is not valid. -/
theorem test_bad_key : judgeRestoreItem [2, 3, 0x4141, 0x4100] = .refused .badKey [] := by decide +kernel
/-- R132: an item that fails is named by its index from 1. -/
theorem test_manifest_index :
    judgeLoadManifest [2, 4, 0x4141, 0x4141, 15, 0, 0, 4, 0x4141, 0x4142, 16, 0, 0] =
      .refused .badArgument [2] := by decide +kernel

/-- R132, log entry 6: an unlisted presence word in item 2 draws BAD_ARGUMENT with its index, where it does not
draw BAD_FRAME, and an item before it that fails decides first. -/
theorem test_manifest_presence (h : Config.unlistedPresenceIsBadFrame 7 = false) :
    judgeLoadManifest [2, 4, 0x4141, 0x4141, 15, 0, 0, 4, 0x4141, 0x4142, 15, 7, 0] = .refused .badArgument [2] ∧
    judgeLoadManifest [2, 4, 0x4141, 0x4120, 15, 0, 0, 4, 0x4141, 0x4142, 15, 7, 0] = .refused .badKey [1] := by
  have fault : unlistedPresence 7 = .unknownKind := by
    unfold unlistedPresence
    rw [h]
    rfl
  have second : parseItem [4, 0x4141, 0x4142, 15, 7, 0] = .error .unknownKind :=
    (show parseItem [4, 0x4141, 0x4142, 15, 7, 0] = .error (unlistedPresence 7) from rfl).trans (by rw [fault])
  have both (k : Word) : parseManifest [2, 4, 0x4141, k, 15, 0, 0, 4, 0x4141, 0x4142, 15, 7, 0] =
      .ok ((2, [some { key := [0x41, 0x41, k.extractLsb' 8 8, k.extractLsb' 0 8], destination := 15,
                       hold := none, hostTag := none }, none]), []) := by
    have first : parseItem [4, 0x4141, k, 15, 0, 0, 4, 0x4141, 0x4142, 15, 7, 0] =
      .ok ({ key := [0x41, 0x41, k.extractLsb' 8 8, k.extractLsb' 0 8], destination := 15,
             hold := none, hostTag := none }, [4, 0x4141, 0x4142, 15, 7, 0]) := rfl
    have items : parseItems 2 [4, 0x4141, k, 15, 0, 0, 4, 0x4141, 0x4142, 15, 7, 0] =
        .ok ([some { key := [0x41, 0x41, k.extractLsb' 8 8, k.extractLsb' 0 8], destination := 15,
                     hold := none, hostTag := none }, none], []) := by
      simp only [parseItems, first, second]
    exact congrArg (Except.bind · fun p => .ok ((2, p.1), p.2)) items
  constructor <;> simp only [judgeLoadManifest, judgeBody, both] <;> decide +kernel
/-- R99: a byte before a delimiter is skipped, a delimiter inside a frame is data, and an unfinished frame waits. -/
theorem test_link_bytes :
    linkEvents 2 ([0x00, 0x15] ++ laneFrame 0x15 [] ++ [0x33] ++ laneFrame 0x15 [0xA5] ++ [0xA5, 0x15]) =
      [.restart 2, .discardedFrame 2 (laneFrame 0x15 [0xA5])] := by decide +kernel

/-! ### A small directory -/

/-- A key of four equal bytes. -/
def key4 (b : Byte) : Key := [b, b, b, b]

/-- A record of the small directory: its number, its key byte, state, laps and lane. -/
def item (n : Nat) (b : Byte) (state : ItemState) (laps : Nat) (lane : Option Lane) : ItemRecord :=
  { ref := { slot := n, serial := BitVec.ofNat 32 (n + 1) }, key := key4 b, origin := .manifest,
    state := state, destination := 1, hold := none, hostTag := none, laps := laps, lane := lane, revision := 3 }

/-- The records: A on its way to outlet 1, B arrived there, C expected, D recirculating, E rejected, F on its
way to outlet 2 with a pending revision to the bin whose REVISE has not been sent, G on its way to bin 1. -/
def demoRecords : List ItemRecord :=
  [item 0 65 (.routed (.outlet 0) 0 none) 0 (some 0), item 1 66 (.sorted 0 0 false) 0 (some 0),
    item 2 67 .expected 0 none, item 3 68 .recirculating 7 (some 0), item 4 69 .rejected 0 (some 1),
    item 5 70 (.routed (.outlet 1) 1 (some .bin)) 0 (some 0), item 6 71 (.routed .bin 0 none) 0 (some 1)]

/-- The outlets 1 and 2 on lane 0 and 3 on lane 1; outlet 1 is FULL. -/
def demoOutlets : Vector OutletEntry 48 :=
  (((Vector.replicate 48 OutletEntry.reset).set 0
    { OutletEntry.reset with
      definition := some { lane := 0, capacity := 2 }, reserved := 1, held := 1, arrivalCounter := 1
      expected := [{ slot := 0, serial := 1 }], content := [{ slot := 1, serial := 2 }] }).set 1
    { OutletEntry.reset with
      definition := some { lane := 0, capacity := 3 }, reserved := 1
      expected := [{ slot := 5, serial := 6 }] }).set 2
    { OutletEntry.reset with definition := some { lane := 1, capacity := 1 } }

/-- Groups 1 (outlets 1 and 2, FIRST, overflow 2) and 2 (outlets 2 and 3, ROTATE), rule 0 for keys that begin
with Z, and a cursor on record A in its outlet's EXPECTED view. -/
def demo : State :=
  { State.reset with
    store :=
      { records := demoRecords
        keyIndex := demoRecords.map fun r => { key := r.key, ref := r.ref }
        serialCounter := 8
        counts := { inUse := 7, expected := 1, routed := 3, sorted := 1, recirculating := 1, rejected := 1 }
        outlets := demoOutlets
        bins := (Vector.replicate 4 { reserved := 0, expected := [] }).set 1
          { reserved := 1, expected := [{ slot := 6, serial := 7 }] }
        groups := ((Vector.replicate 15 GroupEntry.reset).set 0
          { members := [0, 1], policy := .first, overflow := some 1, pointers := Vector.replicate 4 0 }).set 1
          { members := [1, 2], policy := .rotate, overflow := none, pointers := Vector.replicate 4 0 }
        rules := (Vector.replicate 128 RuleEntry.reset).set 0
          { enabled := true, pattern := { positions := [some 90], minLength := 4, maxLength := 20 },
            priority := 1, group := 1 }
        attention := []
        cursors := (Vector.replicate 8 Cursor.reset).set 0
          { view := .expected 0, position := .record { slot := 0, serial := 1 }, slipped := false } }
    lanes := ((Vector.replicate 4 LaneUnit.reset).set 0
      { LaneUnit.reset with
        state := .running, ordinalCounter := 2, pendingCount := 1
        reviseEntries := [{ ref := { slot := 5, serial := 6 }, ordinal := 1, target := .bin, expiry := 5000,
                            condition := .waiting }]
        outbound := [.revise 1 .bin] }).set 1
      { LaneUnit.reset with state := .running, ordinalCounter := 1 } }

/-- The flight of a command whose step is in progress, after `n` steps. -/
def flightAt (c : HostCommand) (n : Nat) : InFlight :=
  { command := c, condition := .stepping, stepsDone := n, abortMark := false, silent := false,
    progress := { outcomes := [], examined := 0, retired := 0, foreignAside := 0 } }

/-- A state with a host command's step in progress, after `n` steps. -/
def hostAt (s : State) (c : HostCommand) (n : Nat) : State :=
  { s with host := { s.host with inFlight := some (flightAt c n) }, arbiter := { s.arbiter with busy := some .host } }

/-- A state with the step of a lane in progress, for this thing in hand and this work list. -/
def laneAt (s : State) (l : Lane) (h : InHand) (ws : List WorkItem) : State :=
  { s.setLane l { s.lane l with inHand := some h, workList := ws } with
    arbiter := { s.arbiter with busy := some (.lane l) } }

theorem hostAt_steps (s : State) (c : HostCommand) (n : Nat) : (hostAt s c n).hostSteps (flightAt c n) c :=
  ⟨rfl, rfl, rfl, rfl⟩

theorem laneAt_steps (s : State) (l : Lane) (h : InHand) (ws : List WorkItem) :
    (laneAt s l h ws).laneSteps l h := by
  constructor
  · rfl
  · simp [laneAt, State.lane, State.setLane]

theorem laneAt_workList (s : State) (l : Lane) (h : InHand) (ws : List WorkItem) :
    ((laneAt s l h ws).lane l).workList = ws := by
  simp [laneAt, State.lane, State.setLane]

/-! ### The small directory is as the rules say -/

theorem demo_records : demo.recordsLaw := by
  refine ⟨by decide +kernel, by decide +kernel, by decide +kernel, ?_⟩
  intro k
  cases k <;> decide +kernel

theorem demo_index : demo.indexLaw := by
  refine ⟨by decide +kernel, by decide +kernel, by decide +kernel⟩

theorem demo_lists : demo.listsLaw := by
  refine ⟨by decide +kernel, by decide +kernel⟩

/-- What `expectedAt` and `sortedAt` come to. -/
theorem at_of_record {s : State} {ref : Ref} {r : ItemRecord} (h : s.record? ref = some r) (k : OutletId) :
    (∀ n p, r.state = .routed (.outlet k) n p → s.expectedAt k ref) ∧
      ∀ a b, r.state = .sorted k a b → s.sortedAt k ref :=
  ⟨fun n p e => ⟨r, h, n, p, e⟩, fun a b e => ⟨r, h, a, b, e⟩⟩

theorem demo_placed : ∀ r ∈ demo.store.records, demo.recordPlaced r := by
  intro r hr
  simp only [show demo.store.records = demoRecords from rfl, demoRecords, List.mem_cons, List.not_mem_nil,
    or_false] at hr
  rcases hr with rfl | rfl | rfl | rfl | rfl | rfl | rfl
  · exact ⟨0, by decide +kernel, by decide +kernel, by decide +kernel⟩
  · exact ⟨by decide +kernel, by decide +kernel⟩
  · trivial
  · trivial
  · trivial
  · exact ⟨0, by decide +kernel, by decide +kernel, by decide +kernel⟩
  · exact ⟨1, by decide +kernel, by decide +kernel⟩

/-- The lists that hold a record, one after another. -/
theorem demo_others : ∀ k : OutletId, k = 0 ∨ k = 1 ∨ ((demo.outlet k).expected = [] ∧ (demo.outlet k).content = []) := by
  decide +kernel

theorem demo_outlet_members (k : OutletId) :
    (∀ ref ∈ (demo.outlet k).expected, demo.expectedAt k ref) ∧
      ∀ ref ∈ (demo.outlet k).content, demo.sortedAt k ref := by
  rcases demo_others k with rfl | rfl | ⟨he, hc⟩
  · constructor
    · intro ref h
      rw [show (demo.outlet 0).expected = [{ slot := 0, serial := 1 }] by decide +kernel, List.mem_singleton] at h
      subst h
      exact (at_of_record (r := item 0 65 (.routed (.outlet 0) 0 none) 0 (some 0)) (by decide +kernel) 0).1 0 none
        rfl
    · intro ref h
      rw [show (demo.outlet 0).content = [{ slot := 1, serial := 2 }] by decide +kernel, List.mem_singleton] at h
      subst h
      exact (at_of_record (r := item 1 66 (.sorted 0 0 false) 0 (some 0)) (by decide +kernel) 0).2 0 false rfl
  · constructor
    · intro ref h
      rw [show (demo.outlet 1).expected = [{ slot := 5, serial := 6 }] by decide +kernel, List.mem_singleton] at h
      subst h
      exact (at_of_record (r := item 5 70 (.routed (.outlet 1) 1 (some .bin)) 0 (some 0)) (by decide +kernel) 1).1 1
        (some .bin) rfl
    · intro ref h
      rw [show (demo.outlet 1).content = [] by decide +kernel] at h
      exact absurd h List.not_mem_nil
  · rw [he, hc]
    simp

theorem demo_bins : ∀ l : Lane, l = 1 ∨ (demo.bin l).expected = [] := by decide +kernel

theorem demo_membership : demo.membershipLaw := by
  refine ⟨demo_placed, ?_, ?_⟩
  · intro k
    refine ⟨(demo_outlet_members k).1, (demo_outlet_members k).2, ?_⟩
    revert k
    decide +kernel
  · intro l
    rcases demo_bins l with rfl | h
    · refine ⟨?_, by decide +kernel⟩
      intro ref hr
      rw [show (demo.bin 1).expected = [{ slot := 6, serial := 7 }] by decide +kernel, List.mem_singleton] at hr
      subst hr
      exact ⟨item 6 71 (.routed .bin 0 none) 0 (some 1), by decide +kernel, rfl, 0, none, rfl⟩
    · rw [h]
      simp

theorem demo_cursors : demo.cursorsLaw := by
  intro c ref h
  have all : ∀ c : CursorId, c = 0 ∨ (demo.cursor c).position = .beforeFirst := by decide +kernel
  rcases all c with rfl | hc
  · rw [show (demo.cursor 0).position = .record { slot := 0, serial := 1 } by decide +kernel] at h
    cases h
    decide +kernel
  · rw [hc] at h
    cases h

theorem demo_lines : demo.linesLaw := by
  constructor <;> decide +kernel

theorem demo_lanes : demo.lanesLaw := by
  intro l
  revert l
  decide +kernel

theorem demo_rises : (∀ k, risesBy demo.ordinalOf (demo.outlet k).expected ∧
    risesBy demo.arrivalOf (demo.outlet k).content ∧
    ∀ ref ∈ (demo.outlet k).content, (demo.arrivalOf ref).toNat < (demo.outlet k).arrivalCounter.toNat) ∧
    ∀ l, risesBy demo.ordinalOf (demo.bin l).expected := by
  simp only [risesBy]
  decide +kernel

/-- The records of the small directory that are ROUTED: A, F and G. -/
theorem demo_routed (r : ItemRecord) (hr : r ∈ demo.store.records) (p : Place) (n : Word32) (pending : Option Place)
    (l : Lane) (hs : r.state = .routed p n pending) (hl : r.lane = some l) :
    (l = 0 ∧ n = 0 ∧ r.ref = { slot := 0, serial := 1 }) ∨ (l = 0 ∧ n = 1 ∧ r.ref = { slot := 5, serial := 6 }) ∨
      (l = 1 ∧ n = 0 ∧ r.ref = { slot := 6, serial := 7 }) := by
  simp only [show demo.store.records = demoRecords from rfl, demoRecords, List.mem_cons, List.not_mem_nil,
    or_false] at hr
  rcases hr with rfl | rfl | rfl | rfl | rfl | rfl | rfl <;> cases hs <;> cases hl
  · exact .inl ⟨rfl, rfl, rfl⟩
  · exact .inr (.inl ⟨rfl, rfl, rfl⟩)
  · exact .inr (.inr ⟨rfl, rfl, rfl⟩)

theorem demo_order : demo.orderLaw := by
  refine ⟨demo_rises.1, demo_rises.2, fun l => ⟨by revert l; decide +kernel, ?_⟩⟩
  intro r hr p n pending hs hl
  constructor
  · intro _
    rcases demo_routed r hr p n pending l hs hl with ⟨rfl, rfl, _⟩ | ⟨rfl, rfl, _⟩ | ⟨rfl, rfl, _⟩ <;> decide +kernel
  · intro q hq p' pending' hs' hl'
    rcases demo_routed r hr p n pending l hs hl with ⟨rfl, rfl, e⟩ | ⟨rfl, rfl, e⟩ | ⟨rfl, rfl, e⟩ <;>
      rcases demo_routed q hq p' _ pending' _ hs' hl' with ⟨a, b, f⟩ | ⟨a, b, f⟩ | ⟨a, b, f⟩ <;>
      first | exact f.trans e.symm | exact absurd a (by decide) | exact absurd b (by decide)

theorem demo_orderly : demo.orderly := ⟨demo_records, demo_lanes, demo_lines⟩
theorem demo_listed : demo.listed := ⟨demo_orderly, demo_lists, demo_membership⟩

/-- The laws read the record store, the lines and the lanes' states and counters alone. -/
theorem listed_of_same (s t : State) (hs : t.store = s.store) (hu : t.urgentLine = s.urgentLine)
    (hr : t.routineLine = s.routineLine)
    (hl : ∀ l, (t.lane l).state = (s.lane l).state ∧ (t.lane l).ordinalCounter = (s.lane l).ordinalCounter ∧
      (t.lane l).exhausted = (s.lane l).exhausted) (h : s.listed) : t.listed := by
  obtain ⟨store, lanes, host, arbiter, timebase, u, r, pending⟩ := t
  simp only at hs hu hr
  subst hs hu hr
  obtain ⟨⟨h1, h2, h3⟩, h4, h5⟩ := h
  refine ⟨⟨h1, fun l => ?_, h3⟩, h4, h5⟩
  obtain ⟨e1, e2, e3⟩ := hl l
  rw [e1, e2, e3]
  exact h2 l

theorem hostAt_listed (c : HostCommand) (n : Nat) : (hostAt demo c n).listed :=
  listed_of_same demo _ rfl rfl rfl (fun _ => ⟨rfl, rfl, rfl⟩) demo_listed

theorem laneAt_listed (l : Lane) (h : InHand) (ws : List WorkItem) : (laneAt demo l h ws).listed := by
  refine listed_of_same demo _ rfl rfl rfl (fun j => ?_) demo_listed
  by_cases e : j = l
  · subst e
    simp [laneAt, State.lane, State.setLane]
  · simp [laneAt, State.lane, State.setLane, Fin.val_inj, Ne.symm e]

/-! ### Witnesses: states and operands that meet the hypotheses of the statements -/

/-- The MISS of record A in service on lane 0, its step's event in front of the queue. -/
def missing : State := { laneAt demo 0 (.request (.miss (key4 65))) [] with pending := [.missStep 0 false] }

theorem missing_listed : missing.listed :=
  listed_of_same _ _ rfl rfl rfl (fun _ => ⟨rfl, rfl, rfl⟩) (laneAt_listed 0 _ _)

theorem missing_noShortPowerOn : missing.noShortPowerOn := by
  intro heldMicros rest h
  simp [missing] at h

theorem missing_lane_laws : ∀ l, (missing.lane l).flowLaw ∧ (missing.lane l).reviseLaw := by
  simp only [LaneUnit.flowLaw, LaneUnit.reviseLaw]
  decide +kernel

theorem missing_pending : missing.pendingLaw := by
  simp only [State.pendingLaw]
  decide +kernel

theorem missing_arbiter : missing.arbiterLaw := by
  refine ⟨by decide +kernel, by decide +kernel, ?_⟩
  intro h
  cases h

/-- The law of order reads the record store and the lanes' states and counters alone. -/
theorem missing_order : missing.orderLaw := by
  have same : ∀ l, (missing.lane l).state = (demo.lane l).state ∧
      (missing.lane l).ordinalCounter = (demo.lane l).ordinalCounter ∧
      (missing.lane l).exhausted = (demo.lane l).exhausted := by decide +kernel
  refine ⟨demo_order.1, demo_order.2.1, fun l => ?_⟩
  obtain ⟨e1, e2, e3⟩ := same l
  have law := demo_order.2.2 l
  unfold State.ordinalsLaw at law ⊢
  rw [e1, e2, e3]
  exact law

theorem witness_StepTakesTheFrontEvent : missing.pending = .missStep 0 false :: [] := rfl
/-- The part with the power-on reset pin asserted, the host-channel reset line at this level. -/
def inReset (held : Bool) (events : List Instr) : State :=
  { State.reset with
    host := { State.reset.host with lineHeld := held }
    resetHeld := true
    pending := events }

theorem witness_EmptyQueuePassesOneMicrosecond :
    (demo.pending = [] ∧ demo.resetHeld = false) ∧ (inReset false []).pending = [] ∧
      (inReset false []).resetHeld = true := by decide +kernel
theorem witness_PowerOnResetLeavesTheStatedValues : 10 ≤ 10 ∧
    (inReset true [.restart 0]).resetLaw ∧ (∃ t, step (inReset true [.restart 0]) = .next t) ∧
    (inReset false [.abort (.header 0)]).resetLaw ∧ ∃ t, step (inReset false [.abort (.header 0)]) = .next t :=
  ⟨by decide, fun _ => rfl, ⟨_, rfl⟩, fun _ => rfl, _, rfl⟩

/-- The same with an entry for record A and one for lane 0 in the attention list. -/
def missingNoted : State := missing.setAttention
  [{ subject := .item { slot := 0, serial := 1 }, reasons := [.late, .lapLimit] },
    { subject := .lane 0, reasons := [.linkFault] }]

theorem missingNoted_attention : missingNoted.attentionLaw := by
  refine ⟨by decide +kernel, ?_⟩
  intro e he
  rcases List.mem_cons.1 he with rfl | he
  · refine ⟨by decide, by decide, ?_⟩
    rintro ref ⟨⟩
    decide +kernel
  · cases List.mem_singleton.1 he
    refine ⟨by decide, by decide, ?_⟩
    rintro ref ⟨⟩

theorem witness_RecordsAndKeyIndexStayInOrder : missingNoted.noShortPowerOn ∧ missingNoted.recordsLaw ∧
    missingNoted.indexLaw ∧ missingNoted.attentionLaw ∧ ∃ t, step missingNoted = .next t :=
  ⟨missing_noShortPowerOn, missing_listed.1.1, demo_index, missingNoted_attention, _, rfl⟩
theorem witness_ListsHoldTheRightRecords : missing.noShortPowerOn ∧ missing.recordsLaw ∧ missing.listsLaw ∧
    missing.membershipLaw ∧ missing.lanesLaw ∧ missing.orderLaw ∧ ∃ t, step missing = .next t :=
  ⟨missing_noShortPowerOn, missing_listed.1.1, missing_listed.2.1, missing_listed.2.2, missing_listed.1.2.1,
    missing_order, _, rfl⟩
theorem witness_CursorsLawIsKept : missing.noShortPowerOn ∧ missing.cursorsLaw ∧ ∃ t, step missing = .next t :=
  ⟨missing_noShortPowerOn, demo_cursors, _, rfl⟩
theorem witness_AlertLinesFollowTheList : missing.noShortPowerOn ∧ missing.linesLaw ∧ ∃ t, step missing = .next t :=
  ⟨missing_noShortPowerOn, missing_listed.1.2.2, _, rfl⟩
theorem witness_LanesLawIsKept : missing.noShortPowerOn ∧ missing.lanesLaw ∧ ∃ t, step missing = .next t :=
  ⟨missing_noShortPowerOn, missing_listed.1.2.1, _, rfl⟩
theorem witness_OutstandingNeverExceedsEight :
    missing.noShortPowerOn ∧ (∀ l, (missing.lane l).flowLaw) ∧ ∃ t, step missing = .next t :=
  ⟨missing_noShortPowerOn, fun l => (missing_lane_laws l).1, _, rfl⟩
/-- The REVISE of record F stands in the outbound queue of lane 0. -/
theorem missing_outbound : ∀ l, missing.outboundLaw l := by
  intro l
  refine ⟨by revert l; decide +kernel, ?_, by revert l; decide +kernel, by revert l; decide +kernel⟩
  intro ordinal target h
  have all : ∀ l : Lane, l = 0 ∨ (missing.lane l).outbound = [] := by decide +kernel
  rcases all l with rfl | e
  · rw [show (missing.lane 0).sending = false by decide +kernel,
      show (missing.lane 0).outbound = [.revise 1 .bin] by decide +kernel] at h
    simp only [Bool.false_eq_true, if_false, List.mem_singleton] at h
    cases h
    exact ⟨item 5 70 (.routed (.outlet 1) 1 (some .bin)) 0 (some 0), by decide +kernel, rfl, .outlet 1, rfl⟩
  · simp [e] at h

theorem witness_PendingRevisionsNeverExceedEight : missing.noShortPowerOn ∧ missing.recordsLaw ∧
    missing.pendingLaw ∧ (∀ l, (missing.lane l).reviseLaw) ∧ missing.orderLaw ∧
    (∀ l, (missing.lane l).flowLaw) ∧ (∀ l, missing.outboundLaw l) ∧ ∃ t, step missing = .next t :=
  ⟨missing_noShortPowerOn, missing_listed.1.1, missing_pending, fun l => (missing_lane_laws l).2, missing_order,
    fun l => (missing_lane_laws l).1, missing_outbound, _, rfl⟩
theorem witness_ArbiterLawIsKept : missing.noShortPowerOn ∧ missing.arbiterLaw ∧ ∃ t, step missing = .next t :=
  ⟨missing_noShortPowerOn, missing_arbiter, _, rfl⟩
theorem witness_ResponsesNeverExceedFour : missing.noShortPowerOn ∧ missing.channelLaw ∧ ∃ t, step missing = .next t :=
  ⟨missing_noShortPowerOn, by simp only [State.channelLaw]; decide +kernel, _, rfl⟩

/-- The small directory with this host engine. -/
def withHost (inFlight : Option InFlight) (waiting : Nat) (reception : Option Reception) (held : Bool) : State :=
  { demo with
    host := { inFlight := inFlight, responses := List.replicate waiting { code := 0x1A, body := [0] },
              reception := reception, lineHeld := held } }

/-- A flight in this condition. -/
def flightIn (c : HostCommand) (condition : FlightCondition) (n : Nat) : InFlight :=
  { flightAt c n with condition := condition }

/-- A state with a lane's step in progress beside the host engine's waiting command. -/
def waitingHost (c : HostCommand) (condition : FlightCondition) (n : Nat) : State :=
  { withHost (some (flightIn c condition n)) 0 none false with
    arbiter := { Arbiter.reset with busy := some (.lane 0), hostRequest := true, hostWait := 1 } }

theorem witness_HeaderIsAcknowledgedWithRoom :
    eventHeader (.badFrame (.header 0x0E 255)) = some (0x0E, 255) ∧ (255 : Byte) ≠ 0 ∧
    eventHeader (.readItemByCursor (.header 4)) = some (0x03, 4) ∧ (4 : Byte) ≠ 0 ∧
    (eventHeader (.abort (.header 0)) = some (0x1C, 0) ∧ (Instr.abort (.header 0)).wellFormed = true) ∧
    (eventHeader (.badFrame (.header 0x0E 0)) = some (0x0E, 0) ∧
      (Instr.badFrame (.header 0x0E 0)).wellFormed = true) ∧
    (inReset false []).resetHeld = true ∧
    (withHost none 2 none false).host.lineHeld = false ∧ (withHost none 3 none false).host.lineHeld = false ∧
    (withHost none 0 none true).host.lineHeld = true := by decide +kernel

theorem witness_FrameIsAnsweredBusyOrRefused :
    eventFrame (.closeOutlet (.received [49])) = some (0x0A, [49]) ∧
    (judgeOf 0x0A).map (· [49]) = some (.refused .badArgument []) ∧
    (withHost none 2 none false).takesFrame 0x0A [49] ∧
    (withHost none 3 (some { code := 0x0A, length := 1 }) false).takesFrame 0x0A [49] ∧
    (withHost none 2 none false).host.inFlight = none ∧
    (withHost (some (flightAt .resetDirectory 0)) 2 none false).takesFrame 0x0A [49] ∧
    (withHost (some (flightAt .resetDirectory 0)) 2 none false).host.inFlight.isSome = true := by decide +kernel

theorem witness_AcceptedCommandAsksForItsStep :
    eventFrame (.clearOutlet (.received [48])) = some (0x0D, [48]) ∧
    (judgeOf 0x0D).map (· [48]) = some (.command (.clearOutlet 47)) ∧ demo.takesFrame 0x0D [48] ∧
    demo.host.inFlight = none ∧ demo.arbiterLaw ∧ missing.takesFrame 0x0D [48] ∧
    missing.host.inFlight = none ∧ missing.arbiterLaw := by
  refine ⟨by decide +kernel, by decide +kernel, by decide +kernel, rfl, ?_, by decide +kernel, rfl, missing_arbiter⟩
  exact ⟨by decide +kernel, by decide +kernel, fun _ => by decide +kernel⟩

theorem witness_BadFramesAreAnsweredBadFrame :
    ((0x00 : Byte).toNat = 0 ∧ demo.takesFrame 0x00 []) ∧ ((0x0E : Byte).toNat = 0x0E ∧ demo.takesFrame 0x0E []) ∧
    (0x1D < (0x1E : Byte).toNat ∧ demo.takesFrame 0x1E []) ∧
    (withHost none 3 (some { code := 0x05, length := 9 }) false).host.reception =
      some { code := 0x05, length := 9 } ∧
    (withHost none 3 (some { code := 0x05, length := 9 }) false).resetHeld = false ∧
    (withHost none 0 none true).host.lineHeld = true ∧ (inReset false []).resetHeld = true ∧
    (withHost none 2 none false).host.responses.length ≤ 2 ∧ (withHost none 2 none false).host.reception = none ∧
    demo.takesFrame 0x1A [0] ∧ demo.takesFrame 0x1C [0] := by decide +kernel

theorem witness_ResponsesAreReadAndStatusIsReported :
    (withHost none 0 none false).host.lineHeld = false ∧ (withHost none 4 none false).host.lineHeld = false ∧
    (withHost none 4 none false).resetHeld = false ∧ (withHost none 0 none true).host.lineHeld = true ∧
    (inReset false []).resetHeld = true ∧ demo.takesFrame 0x1A [] ∧ (withHost (some (flightAt .resetDirectory 3)) 2 none false).takesFrame 0x1A [] := by
  decide +kernel

theorem witness_AbortGoesByTheCondition :
    demo.takesFrame 0x1C [] ∧ demo.host.inFlight = none ∧
    ∀ x ∈ [(HostCommand.clearOutlet 0, FlightCondition.waiting, 0), (.clearOutlet 0, .waiting, 1),
        (.resetDirectory, .waiting, 1), (.resetDirectory, .stepping, 0), (.clearOutlet 0, .ending, 1)],
      (waitingHost x.1 x.2.1 x.2.2).takesFrame 0x1C [] ∧
      (waitingHost x.1 x.2.1 x.2.2).host.inFlight = some (flightIn x.1 x.2.1 x.2.2) ∧
      (flightIn x.1 x.2.1 x.2.2).condition = x.2.1 ∧ (waitingHost x.1 x.2.1 x.2.2).arbiter.busy ≠ none := by
  decide +kernel

theorem witness_HostChannelResetDiscardsResponses :
    demo.host.lineHeld = false ∧ demo.host.inFlight = none ∧
    ∀ x ∈ [(HostCommand.clearOutlet 0, FlightCondition.waiting, 0), (.clearOutlet 0, .waiting, 1),
        (.resetDirectory, .stepping, 0), (.clearOutlet 0, .ending, 1)],
      (waitingHost x.1 x.2.1 x.2.2).host.lineHeld = false ∧
      (waitingHost x.1 x.2.1 x.2.2).host.inFlight = some (flightIn x.1 x.2.1 x.2.2) ∧
      (waitingHost x.1 x.2.1 x.2.2).arbiter.busy ≠ none := by decide +kernel

/-- The small directory with these requests at a free store. -/
def requesting (lanes : Vector Bool 4) (host : Bool) (wait : Nat) (last : Lane) : State :=
  { demo with
    arbiter := { laneRequests := lanes, hostRequest := host, lastLane := last, hostWait := wait, busy := none } }

theorem witness_GrantsFollowTheArbiterOrder :
    missing.arbiter.busy = some (.lane 0) ∧
    ((requesting (Vector.replicate 4 true) true 4 0).arbiter.hostRequest = true ∧
      (requesting (Vector.replicate 4 true) true 4 0).arbiter.hostWait = 4) ∧
    (∀ l : Lane, (requesting (Vector.replicate 4 false) true 0 0).arbiter.laneRequests[l] = false) ∧
    (let s := requesting #v[true, false, false, true] true 3 3
     s.arbiter.laneRequests[(0 : Lane)] = true ∧ ¬(s.arbiter.hostRequest = true ∧ s.arbiter.hostWait = 4) ∧
      ∀ j : Lane, s.arbiter.laneRequests[j] = true → 0 - s.arbiter.lastLane - 1 ≤ j - s.arbiter.lastLane - 1) ∧
    (let s := requesting #v[true, false, false, false] false 0 0
     s.arbiter.laneRequests[(0 : Lane)] = true ∧
      ∀ j : Lane, s.arbiter.laneRequests[j] = true → 0 - s.arbiter.lastLane - 1 ≤ j - s.arbiter.lastLane - 1) ∧
    (∀ l : Lane, demo.arbiter.laneRequests[l] = false) ∧ demo.arbiter.hostRequest = false := by decide +kernel

theorem witness_StepsCompleteForTheirRequester :
    (flightAt (.clearOutlet 0) 0).abortMark = false ∧
    (let f := { flightAt (.clearOutlet 0) 0 with abortMark := true }
     f.abortMark = true ∧ ∃ k, f.command = .clearOutlet k) ∧
    (let f := { flightAt .resetDirectory 0 with abortMark := true }
     f.abortMark = true ∧ ∀ k, f.command ≠ .clearOutlet k) ∧
    ((missing.lane 0).restartWaiting = false ∧ (missing.lane 0).discardReply = false) ∧
    (let s := missing.restartArrives 0
     (s.lane 0).restartWaiting = true ∧ (s.lane 0).discardReply = true) := by
  refine ⟨rfl, ⟨rfl, 0, rfl⟩, ⟨rfl, ?_⟩, by decide +kernel, by decide +kernel⟩
  intro k h
  cases h

theorem witness_ReadItemReturnsTheRecord :
    let found := HostCommand.readItem (.ref { slot := 0, serial := 1 })
    let lost := HostCommand.readItem (.ref { slot := 8191, serial := 1 })
    (hostAt demo found 0).hostSteps (flightAt found 0) found ∧
    ((hostAt demo found 0).designated? (.ref { slot := 0, serial := 1 })).isSome = true ∧
    (hostAt demo lost 0).hostSteps (flightAt lost 0) lost ∧
    (hostAt demo lost 0).designated? (.ref { slot := 8191, serial := 1 }) = none := by decide +kernel

theorem witness_ReadOutletAndReadLaneReportWhatStands :
    ∀ c ∈ [HostCommand.readOutlet (.outlet 0), .readOutlet (.outlet 47), .readOutlet (.bin 0), .readOutlet (.bin 3),
      .readLane 0, .readLane 3], (hostAt demo c 0).hostSteps (flightAt c 0) c :=
  fun _ _ => hostAt_steps _ _ _

theorem witness_RulesAndGroupsAreWrittenAndReadWhole :
    ∀ c ∈ [HostCommand.writeRule 0 RuleEntry.reset, .writeRule 127 RuleEntry.reset, .readRule 0, .readRule 127,
      .defineGroup 0 [] .least none, .defineGroup 14 [0, 47] .rotate (some 0), .readGroup 0, .readGroup 14],
      (hostAt demo c 0).hostSteps (flightAt c 0) c :=
  fun _ _ => hostAt_steps _ _ _

/-- A routine and an urgent entry. -/
def routineEntry : AttentionEntry := { subject := .outlet 0, reasons := [.full] }
def urgentEntry : AttentionEntry := { subject := .lane 0, reasons := [.linkFault] }

theorem witness_AttentionIsTakenInListOrder_adding :
    let es := [routineEntry, urgentEntry]
    (∀ e ∈ es, e.subject ≠ .directory) ∧
    (es = [routineEntry] ++ urgentEntry :: [] ∧ (∀ x ∈ [routineEntry], x.subject ≠ .lane 0) ∧
      urgentEntry.subject = .lane 0 ∧ (urgentEntry.reasons.Pairwise fun a b => reasonBit a < reasonBit b)) ∧
    Reason.linkFault ∈ urgentEntry.reasons ∧ Reason.drained ∉ urgentEntry.reasons ∧
    ∀ ref reason, (Subject.item ref, reason) ∈
      [(Subject.lane 0, Reason.drained), (.item { slot := 8191, serial := 1 }, .stray)] → ref.slot < 8192 := by
  refine ⟨by decide, ⟨rfl, by decide, rfl, by decide⟩, by decide, by decide, ?_⟩
  intro ref reason h
  rcases List.mem_cons.1 h with h | h
  · cases h
  · cases List.mem_singleton.1 h
    decide

theorem witness_AttentionIsTakenInListOrder :
    let es := [routineEntry, urgentEntry]
    let s := demo.setAttention es
    (s.store.attention = [] ++ routineEntry :: [urgentEntry] ∧
      ∀ x ∈ ([] : List AttentionEntry), false = true ∧ x.urgent = false) ∧
    (s.store.attention = [routineEntry] ++ urgentEntry :: [] ∧
      (∀ x ∈ [routineEntry], true = true ∧ x.urgent = false) ∧ urgentEntry.urgent = true) ∧
    (∀ x ∈ demo.store.attention, false = true ∧ x.urgent = false) ∧
    (∀ x ∈ (demo.setAttention [routineEntry]).store.attention, true = true ∧ x.urgent = false) ∧
    ∀ u, (hostAt s (.takeAttention u) 0).hostSteps (flightAt (.takeAttention u) 0) (.takeAttention u) ∧
      (hostAt s (.peekAttention u) 0).hostSteps (flightAt (.peekAttention u) 0) (.peekAttention u) := by
  decide +kernel

theorem witness_LanesAreStartedStoppedAndSet :
    (∀ c ∈ [HostCommand.startLane 0, .startLane 3, .stopLane 0, .stopLane 3, .setLaneParameters 3 [.lapLimit 7]],
      (hostAt demo c 0).hostSteps (flightAt c 0) c) ∧
    ((demo.lane 0).state = .running ∧ 0 < demo.routedCount 0) ∧ (demo.lane 3).state = .stopped :=
  ⟨fun _ _ => hostAt_steps _ _ _, by decide +kernel, by decide +kernel⟩

theorem witness_OutletFieldsAreSet :
    (∀ c n, (hostAt demo c n).orderly) ∧ (∀ c n, (hostAt demo c n).hostSteps (flightAt c n) c) ∧
    (demo.outlet 47).definition = none ∧ (demo.outlet 0).definition = some { lane := 0, capacity := 2 } ∧
    (demo.outlet 0).state = .full ∧ (demo.outlet 1).state = .opened :=
  ⟨fun c n => (hostAt_listed c n).1, fun _ _ => hostAt_steps _ _ _, by decide +kernel⟩

theorem witness_OutletsAreDefinedAndUndefined :
    (∀ c n, (hostAt demo c n).orderly ∧ (hostAt demo c n).listsLaw) ∧
    (∀ c n, (hostAt demo c n).hostSteps (flightAt c n) c) ∧
    ((demo.outlet 0).definition.isSome = true ∧ (demo.outlet 0).content ≠ []) ∧
    ((demo.outlet 2).definition.isSome = true ∧
      ¬((demo.outlet 2).expected ≠ [] ∨ (demo.outlet 2).content ≠ [] ∨ (demo.outlet 2).foreign ≠ 0)) ∧
    ((demo.outlet 47).definition = none ∧
      ¬((demo.outlet 47).expected ≠ [] ∨ (demo.outlet 47).content ≠ [] ∨ (demo.outlet 47).foreign ≠ 0)) :=
  ⟨fun c n => ⟨(hostAt_listed c n).1, (hostAt_listed c n).2.1⟩, fun _ _ => hostAt_steps _ _ _, by decide +kernel⟩

/-- An item with this key, to be created. -/
def wanted (b : Byte) : ItemDefinition := { key := key4 b, destination := 15, hold := some 15, hostTag := none }

theorem witness_CreationTakesTheLowestFreeSlot :
    (∀ c n, (hostAt demo c n).orderly ∧ (hostAt demo c n).hostSteps (flightAt c n) c) ∧
    (demo.recordOfKey? (wanted 65).key).isSome = true ∧ demo.recordOfKey? (wanted 90).key = none ∧
    (7 < 8192 ∧ ∀ r ∈ demo.store.records, r.ref.slot ≠ 7) ∧
    (∀ n, n < 7 → ¬(n < 8192 ∧ ∀ r ∈ demo.store.records, r.ref.slot ≠ n)) ∧
    [wanted 90][(flightAt (.loadManifest [wanted 90]) 0).progress.outcomes.length]? = some (wanted 90) :=
  ⟨fun c n => ⟨(hostAt_listed c n).1, hostAt_steps _ _ _⟩, by decide +kernel⟩

/-- Records in EXPECTED in the first `n` slots. -/
def expectedRecords (n : Nat) : List ItemRecord := (List.range n).map fun m => item m 65 .expected 0 none

theorem mem_expectedRecords (n m : Nat) (h : m < n) : item m 65 .expected 0 none ∈ expectedRecords n :=
  List.mem_map.2 ⟨m, List.mem_range.2 h, rfl⟩

theorem expectedRecords_slot (n : Nat) : ∀ r ∈ expectedRecords n, r.ref.slot < n := by
  intro r hr
  obtain ⟨m, hm, rfl⟩ := List.mem_map.1 hr
  exact List.mem_range.1 hm

theorem expectedRecords_law (n : Nat) (h : n ≤ 8192) :
    ((expectedRecords n).Pairwise fun a b => a.ref.slot < b.ref.slot) ∧
    (∀ r ∈ expectedRecords n, r.ref.slot < 8192) ∧ (expectedRecords n).length = n ∧
    ∀ k, (expectedRecords n).countP (fun r => decide (stateKind r.state = k)) = if k = .expected then n else 0 := by
  refine ⟨?_, ?_, ?_, ?_⟩
  · simp only [expectedRecords, List.pairwise_map]
    exact List.pairwise_lt_range
  · exact fun r hr => Nat.lt_of_lt_of_le (expectedRecords_slot n r hr) h
  · simp [expectedRecords]
  · intro k
    simp only [expectedRecords, List.countP_map]
    cases k <;> simp [Function.comp_def, item, stateKind]

/-- The state after power-on reset with `n` records in EXPECTED in place of none. -/
def holding (n : Nat) : State :=
  { State.reset with
    store := { State.reset.store with
      records := expectedRecords n
      counts := { inUse := n, expected := n, routed := 0, sorted := 0, recirculating := 0, rejected := 0 } } }

theorem holding_orderly (n : Nat) (h : n ≤ 8192) : (holding n).orderly := by
  obtain ⟨h1, h2, h3, h4⟩ := expectedRecords_law n h
  refine ⟨⟨h1, h2, h3.symm, ?_⟩, ?_, ?_⟩
  · intro k
    refine Eq.trans ?_ (h4 k).symm
    cases k <;> rfl
  · intro l
    have reset : ∀ l, ((State.reset.lane l).state = .stopped ∧ (State.reset.lane l).ordinalCounter = 0 ∧
        (State.reset.lane l).exhausted = false) := by decide +kernel
    obtain ⟨e1, e2, e3⟩ := reset l
    refine ⟨fun _ => ⟨e2, e3⟩, fun h => ?_⟩
    exact absurd (e1.symm.trans h) (by decide)
  · constructor <;> simp [holding, State.reset, Store.reset]

theorem holding_full (n m : Nat) : ¬(m < n ∧ ∀ r ∈ (holding n).store.records, r.ref.slot ≠ m) :=
  fun ⟨h, all⟩ => all _ (mem_expectedRecords n m h) rfl

theorem holding_free (n : Nat) : ∀ r ∈ (holding n).store.records, r.ref.slot ≠ n :=
  fun r hr => Nat.ne_of_lt (expectedRecords_slot n r hr)

theorem hostAt_orderly (s : State) (c : HostCommand) (n : Nat) (h : s.orderly) : (hostAt s c n).orderly := h

theorem witness_CreationTakesTheLowestFreeSlot_full :
    (∀ c n, (hostAt (holding 8192) c n).orderly ∧ (hostAt (holding 8192) c n).hostSteps (flightAt c n) c) ∧
    (holding 8192).recordOfKey? (wanted 90).key = none ∧
    ∀ n, ¬(n < 8192 ∧ ∀ r ∈ (holding 8192).store.records, r.ref.slot ≠ n) :=
  ⟨fun c n => ⟨hostAt_orderly _ c n (holding_orderly 8192 (Nat.le_refl _)), hostAt_steps _ _ _⟩, by simp [holding, State.reset, Store.reset, State.recordOfKey?],
    holding_full 8192⟩

/-- The reference of the record in slot `n` of the small directory. -/
def refOf (n : Nat) : Ref := { slot := n, serial := BitVec.ofNat 32 (n + 1) }

/-- The record A of the small directory. -/
def recordA : ItemRecord := item 0 65 (.routed (.outlet 0) 0 none) 0 (some 0)

theorem witness_AmendChangesTheNamedFields :
    (∀ a, (hostAt demo (.amendItem a) 0).orderly ∧
      (hostAt demo (.amendItem a) 0).hostSteps (flightAt (.amendItem a) 0) (.amendItem a)) ∧
    demo.designated? (.ref (refOf 8191)) = none ∧
    demo.designated? (.key (key4 65)) = some recordA ∧ (3 : BitVec 16) = recordA.revision ∧
    (4 : BitVec 16) ≠ recordA.revision ∧
    (demo.designated? (.ref (refOf 5))).map (fun r => (pendingField r.state).isSome) = some true ∧
    (demo.designated? (.ref (refOf 1))).map (fun r => (stateKind r.state, pendingField r.state)) =
      some (.sorted, none) ∧
    (stateKind recordA.state = .routed ∧ pendingField recordA.state = none ∧
      (([Change.setTag 9].reverse.findSome? fun c => match c with
        | .destination g => some g
        | _ => none).getD recordA.destination) = recordA.destination ∧
      (([Change.setTag 9].reverse.findSome? fun c => match c with
        | .setHold n => some (some n)
        | .clearHold => some none
        | _ => none).getD recordA.hold).isSome = recordA.hold.isSome) :=
  ⟨fun a => ⟨(hostAt_listed _ 0).1, hostAt_steps _ _ _⟩, by decide +kernel⟩

/-- An amendment of record A that weighs a redirection. -/
def redirection : Amendment :=
  { designation := .ref (refOf 0), guardRevision := some 3, changes := [.destination 2] }

theorem witness_AmendOfARoutedRecordIssuesARevision :
    (hostAt demo (.amendItem redirection) 0).orderly ∧
    (hostAt demo (.amendItem redirection) 0).hostSteps (flightAt (.amendItem redirection) 0)
      (.amendItem redirection) ∧
    (hostAt demo (.amendItem redirection) 0).designated? redirection.designation = some recordA ∧
    redirection.guardRevision = some recordA.revision ∧ recordA.state = .routed (.outlet 0) 0 none ∧
    recordA.lane = some 0 ∧
    (redirection.changes.reverse.findSome? fun c => match c with
      | .destination g => some g
      | _ => none).getD recordA.destination ≠ recordA.destination :=
  ⟨(hostAt_listed _ 0).1, hostAt_steps _ _ _, by decide +kernel⟩

theorem witness_RestoreReturnsToExpected :
    (∀ d, (hostAt demo (.restoreItem d) 0).orderly ∧
      (hostAt demo (.restoreItem d) 0).hostSteps (flightAt (.restoreItem d) 0) (.restoreItem d)) ∧
    demo.designated? (.key (key4 90)) = none ∧
    (demo.designated? (.key (key4 65))).map (·.state) = some (.routed (.outlet 0) 0 none) ∧
    (demo.designated? (.key (key4 68))).map (·.state) = some .recirculating ∧
    (demo.designated? (.ref (refOf 4))).map (·.state) = some .rejected :=
  ⟨fun d => ⟨(hostAt_listed _ 0).1, hostAt_steps _ _ _⟩, by decide +kernel⟩

theorem witness_RetireRemovesTheRecord :
    (∀ d force, (hostAt demo (.retireItem d force) 0).listed ∧
      (hostAt demo (.retireItem d force) 0).hostSteps (flightAt (.retireItem d force) 0) (.retireItem d force)) ∧
    demo.designated? (.key (key4 90)) = none ∧
    (demo.designated? (.key (key4 70))).map (fun r => stateKind r.state) = some .routed ∧
    (demo.designated? (.ref (refOf 1))).map (fun r => stateKind r.state) = some .sorted :=
  ⟨fun d force => ⟨hostAt_listed _ 0, hostAt_steps _ _ _⟩, by decide +kernel⟩

/-- The small directory without what outlet 1 expects. -/
def emptied : State := demo.setOutlet 0 { demo.outlet 0 with expected := [] }

theorem witness_CursorsSlipToTheNextMember_members : demo.recordsLaw ∧ demo.indexLaw ∧ demo.orderLaw :=
  ⟨demo_records, demo_index, demo_order⟩

theorem witness_CursorsSlipToTheNextMember :
    (demo.cursor 0).position = .record (refOf 0) ∧
    demo.members (demo.cursor 0).view = [] ++ refOf 0 :: [] ∧
    refOf 0 ∉ emptied.members (demo.cursor 0).view ∧
    (∀ ref, (demo.cursor 1).position = .record ref → ref ∈ demo.members (demo.cursor 1).view →
      ref ∈ emptied.members (demo.cursor 1).view) := by
  refine ⟨by decide +kernel, by decide +kernel, by decide +kernel, ?_⟩
  intro ref h
  rw [show (demo.cursor 1).position = Position.beforeFirst by decide +kernel] at h
  cases h

theorem witness_SetCursorPlacesTheCursor :
    (∀ c v p, (hostAt demo (.setCursor c v p) 0).hostSteps (flightAt (.setCursor c v p) 0) (.setCursor c v p)) ∧
    demo.designated? (.key (key4 90)) = none ∧
    (demo.designated? (.key (key4 65))).map (·.ref) = some (refOf 0) ∧
    refOf 0 ∉ demo.members (.content 0) ∧ refOf 0 ∈ demo.members .key :=
  ⟨fun _ _ _ => hostAt_steps _ _ _, by decide +kernel⟩

theorem witness_ReadByCursorMovesAndReads :
    (∀ step access, (hostAt demo (.readItemByCursor 0 step access) 0).hostSteps
      (flightAt (.readItemByCursor 0 step access) 0) (.readItemByCursor 0 step access)) ∧
    demo.cursorsLaw ∧
    (∀ c : CursorId, (demo.members (demo.cursor c).view).Nodup ∧
      ∀ ref ∈ demo.members (demo.cursor c).view, (demo.record? ref).isSome = true) :=
  ⟨fun _ _ => hostAt_steps _ _ _, demo_cursors, by decide +kernel⟩

/-- A search by cursor 1, which stands at BEFORE_FIRST of its KEY view, or by cursor 0. -/
def query (c : CursorId) (limit : Nat) (conditions : List Condition) : SearchQuery :=
  { cursor := c, startNext := false, limit := limit, conditions := conditions }

/-- The small directory with cursor 1 at this position of its KEY view. -/
def searching (p : Position) : State :=
  demo.setCursor 1 { view := .key, position := p, slipped := false }

theorem witness_SearchExaminesOneRecord :
    (∀ s q n, (hostAt s (.search q) n).hostSteps (flightAt (.search q) n) (.search q)) ∧
    ((demo.cursor 1).position = .beforeFirst ∧
      (demo.members (demo.cursor 1).view).head?.elim .afterLast .record = Position.record (refOf 0)) ∧
    (demo.record? (refOf 0)) = some recordA ∧
    demo.members (demo.cursor 1).view =
      [] ++ refOf 0 :: [refOf 1, refOf 2, refOf 3, refOf 4, refOf 5, refOf 6] ∧
    (∀ c ∈ (query 1 1 [.laps 7]).conditions, c = .laps 7) ∧ ¬7 ≤ recordA.laps ∧ 0 ≤ recordA.laps ∧
    ((searching (.record (refOf 6))).cursor 1).position = .record (refOf 6) ∧
    (searching (.record (refOf 6))).members .key =
      [refOf 0, refOf 1, refOf 2, refOf 3, refOf 4, refOf 5] ++ refOf 6 :: [] ∧
    ((searching .afterLast).cursor 1).position = .afterLast :=
  ⟨fun _ _ _ => hostAt_steps _ _ _, by decide +kernel⟩

/-- The small directory with a clearing of outlet 1 under way at this boundary. -/
def clearing (boundary : Word32) : State := demo.setOutlet 0 { demo.outlet 0 with clearing := some boundary }

theorem witness_CreationTakesTheLowestFreeSlot_last :
    (∀ c n, (hostAt (holding 8191) c n).orderly) ∧ (holding 8191).recordOfKey? (wanted 90).key = none ∧
    (8191 < 8192 ∧ ∀ r ∈ (holding 8191).store.records, r.ref.slot ≠ 8191) := by
  refine ⟨fun c n => hostAt_orderly _ c n (holding_orderly 8191 (by decide)),
    by simp [holding, State.reset, Store.reset, State.recordOfKey?], by decide, holding_free 8191⟩

/-- The laws of records and lists do not read an outlet's flags, foreign count or arrival counter. -/
theorem listed_setOutlet (s : State) (k : OutletId) (o : OutletEntry)
    (hd : o.definition = (s.outlet k).definition) (hr : o.reserved = (s.outlet k).reserved)
    (hh : o.held = (s.outlet k).held) (he : o.expected = (s.outlet k).expected)
    (hc : o.content = (s.outlet k).content) (some_ : (s.outlet k).definition.isSome = true)
    (going : ∀ l, (s.lane l).state ≠ .draining) (h : s.listed) :
    (s.setOutlet k o).listed := by
  have same : ∀ j, ((s.setOutlet k o).outlet j).definition = (s.outlet j).definition ∧
      ((s.setOutlet k o).outlet j).reserved = (s.outlet j).reserved ∧
      ((s.setOutlet k o).outlet j).held = (s.outlet j).held ∧
      ((s.setOutlet k o).outlet j).expected = (s.outlet j).expected ∧
      ((s.setOutlet k o).outlet j).content = (s.outlet j).content ∧
      (j ≠ k → (s.setOutlet k o).outlet j = s.outlet j) := by
    intro j
    by_cases e : j = k
    · subst e
      simp [hd, hr, hh, he, hc]
    · simp [e]
  obtain ⟨⟨h1, h2, h3⟩, ⟨h4, h5⟩, h6, h7, h8⟩ := h
  refine ⟨⟨h1, fun l => ⟨(h2 l).1, fun d => absurd d (going l)⟩, h3⟩, ⟨fun j => ?_, h5⟩, fun r m => ?_, fun j => ?_, h8⟩
  · obtain ⟨e1, e2, e3, e4, e5, e6⟩ := same j
    rw [e1, e2, e3, e4, e5]
    refine ⟨(h4 j).1, (h4 j).2.1, fun no => ?_⟩
    have : j ≠ k := by
      rintro rfl
      rw [no] at some_
      cases some_
    rw [e6 this]
    exact (h4 j).2.2 no
  · have := h6 r m
    unfold State.recordPlaced at this ⊢
    split at this
    · simpa only [OutletEntry.definedOn, (same _).1, (same _).2.2.2.1] using this
    · exact this
    · simpa only [(same _).1, (same _).2.2.2.2.1] using this
    all_goals trivial
  · rw [(same j).2.2.2.1, (same j).2.2.2.2.1]
    exact h7 j

theorem clearing_listed (boundary : Word32) (c : HostCommand) (n : Nat) :
    (hostAt (clearing boundary) c n).listed :=
  listed_of_same (clearing boundary) _ rfl rfl rfl (fun _ => ⟨rfl, rfl, rfl⟩)
    (listed_setOutlet demo 0 _ rfl rfl rfl rfl rfl (by decide +kernel) (by decide +kernel) demo_listed)

theorem witness_ClearingRetiresBelowTheBoundary :
    (∀ k n, (hostAt demo (.clearOutlet k) n).listed ∧
      (hostAt demo (.clearOutlet k) n).hostSteps (flightAt (.clearOutlet k) n) (.clearOutlet k)) ∧
    (demo.outlet 47).definition = none ∧ (demo.outlet 0).definition.isSome = true ∧
    (∀ boundary, (hostAt (clearing boundary) (.clearOutlet 0) 1).listed ∧
      (hostAt (clearing boundary) (.clearOutlet 0) 1).hostSteps (flightAt (.clearOutlet 0) 1) (.clearOutlet 0)) ∧
    (((clearing 1).outlet 0).clearing = some 1 ∧ ((clearing 1).outlet 0).content = refOf 1 :: [] ∧
      ((clearing 1).record? (refOf 1)).isSome = true ∧
      ((clearing 1).arrivalOf (refOf 1)).toNat < (1 : Word32).toNat) ∧
    (((clearing 0).outlet 0).clearing = some 0 ∧
      ∀ ref, ((clearing 0).outlet 0).content.head? = some ref →
        (0 : Word32).toNat ≤ ((clearing 0).arrivalOf ref).toNat) ∧
    (flightIn (.clearOutlet 0) .ending 1).condition = .ending := by
  refine ⟨fun k n => ⟨hostAt_listed _ n, hostAt_steps _ _ _⟩, by decide +kernel, by decide +kernel,
    fun b => ⟨clearing_listed b _ 1, hostAt_steps _ _ _⟩, by decide +kernel, ⟨by decide +kernel, ?_⟩, rfl⟩
  intro ref _
  exact Nat.zero_le _

theorem holding_listed (n : Nat) (h : n ≤ 8192) : (holding n).listed := by
  refine ⟨holding_orderly n h, ⟨?_, ?_⟩, ?_, ?_, ?_⟩
  · simp [holding, State.reset, Store.reset, State.outlet, OutletEntry.reset]
  · simp [holding, State.reset, Store.reset, State.bin]
  · intro r hr
    obtain ⟨m, hm, rfl⟩ := List.mem_map.1 hr
    trivial
  · simp [holding, State.reset, Store.reset, State.outlet, OutletEntry.reset]
  · simp [holding, State.reset, Store.reset, State.bin]

theorem witness_ResetDirectoryRetiresEveryRecord :
    ((hostAt demo .resetDirectory 0).listed ∧
      (hostAt demo .resetDirectory 0).hostSteps (flightAt .resetDirectory 0) .resetDirectory ∧
      (demo.lane 0).state ≠ .stopped) ∧
    (∀ n, n ≤ 8192 → (hostAt (holding n) .resetDirectory 0).listed ∧
      (hostAt (holding n) .resetDirectory 0).hostSteps (flightAt .resetDirectory 0) .resetDirectory) ∧
    (∀ n l, ((holding n).lane l).state = .stopped) ∧
    (item 0 65 .expected 0 none ∈ (holding 2).store.records ∧
      ∀ q ∈ (holding 2).store.records, 0 ≤ q.ref.slot) ∧
    (holding 0).store.records = [] := by
  refine ⟨⟨hostAt_listed _ 0, hostAt_steps _ _ _, by decide +kernel⟩, fun n h => ⟨?_, hostAt_steps _ _ _⟩, ?_,
    ⟨by decide +kernel, fun _ _ => Nat.zero_le _⟩, rfl⟩
  · exact listed_of_same (holding n) _ rfl rfl rfl (fun _ => ⟨rfl, rfl, rfl⟩) (holding_listed n h)
  · intro _ l
    revert l
    simp [holding, State.reset, State.lane, LaneUnit.reset]

theorem witness_LaneFramesReadBackAsTheirRequests :
    keyValid (keyOf 4) = true ∧ keyValid (keyOf 20) = true ∧ (List.replicate 255 (0 : Byte)).length ≤ 255 ∧
    (∀ check : Word, check + 1 ≠ check) ∧ ((0x10 : Byte).toNat < 0x11 ∧ 0x15 < (0x16 : Byte).toNat) ∧
    ((keyOf 3).length = (3 : Byte).toNat ∧ keyValid (keyOf 3) = false ∧ (keyOf 4).length ≠ (5 : Byte).toNat) ∧
    ((3 : Byte) ≠ 1 ∧ (3 : Byte) ≠ 2) ∧ (0xA5 : Byte) ∉ ([0x00] : List Byte) ∧
    ([0, 0] : List Byte).length = (0 : Byte).toNat + 2 ∧
    (List.replicate 257 (0xA5 : Byte)).length = (255 : Byte).toNat + 2 ∧
    ([0] : List Byte).length < (0 : Byte).toNat + 2 :=
  ⟨by decide +kernel, by decide +kernel, by decide +kernel, fun check => by bv_omega, by decide +kernel⟩

/-- An item that is in range, its key 20 bytes long, and one whose key is of this length. -/
def plain : ItemDefinition := { key := keyOf 20, destination := 0, hold := none, hostTag := some 7 }
def keyed (n : Nat) : ItemDefinition := { plain with key := keyOf n }

theorem keyed_inRange (n : Nat) (h : n < 65536) : (keyed n).inRange := by
  refine ⟨by simpa [keyed, plain, keyOf] using h, ?_⟩
  rintro h ⟨⟩

theorem wanted_inRange (b : Byte) : (wanted b).inRange := by
  refine ⟨by simp [wanted, key4], ?_⟩
  rintro h ⟨⟩
  decide

/-- Commands in range whose keys are valid, and two whose key is not. -/
theorem witness_CreateItemBodyReadsBack :
    ((HostCommand.createItem (wanted 90)).inRange ∧ keyValid (wanted 90).key = true) ∧
    ((HostCommand.createItem plain).inRange ∧ keyValid plain.key = true) ∧
    (HostCommand.loadManifest (List.replicate 12 (wanted 90))).inRange ∧
    (HostCommand.readItem (.ref { slot := 8191, serial := 1 })).inRange ∧
    (HostCommand.defineOutlet 47 3 4095).inRange ∧ (HostCommand.startLane 3).inRange ∧
    ((HostCommand.createItem (keyed 3)).inRange ∧ keyValid (keyed 3).key = false) ∧
    (HostCommand.retireItem (.key (keyOf 21)) true).inRange ∧ keyValid (keyOf 21) = false ∧
    0 < ((HostCommand.createItem (wanted 90)).form 0).length := by
  refine ⟨⟨wanted_inRange 90, by decide +kernel⟩, ⟨keyed_inRange 20 (by decide), by decide +kernel⟩, ?_,
    ⟨by decide, by decide⟩, ⟨by decide, by decide⟩, trivial, ⟨keyed_inRange 3 (by decide), by decide +kernel⟩,
    show (keyOf 21).length < 65536 by decide, by decide +kernel, by decide +kernel⟩
  refine ⟨by decide, by decide, fun d hd => ?_⟩
  rw [List.eq_of_mem_replicate hd]
  exact wanted_inRange 90

/-- A body out of range for each command that has one, at the values next to the ranges. -/
theorem witness_CreateItemBodyReadsBack_outOfRange :
    (OutOfRange 0 0x13 [4] ∧ OutOfRange 0 0x0D [0] ∧ OutOfRange 0 0x0D [49] ∧ OutOfRange 0 0x10 [16] ∧
      OutOfRange 0 0x12 [128] ∧ OutOfRange 0 0x07 [48, 3, 4096] ∧ OutOfRange 0 0x09 [1, 0]) ∧
    (OutOfRange 0 0x0C [2, 4] ∧ OutOfRange 0 0x19 [3] ∧
      OutOfRange 0 0x01 (sentItem 0 (keyOf 3) 16 none none) ∧ OutOfRange 0 0x02 [0] ∧
      OutOfRange 0 0x05 [1, 8192, 0, 1] ∧ OutOfRange 0 0x06 [1, 0, 0, 0, 1] ∧ OutOfRange 0 0x03 [3, 8, 1, 1]) ∧
    OutOfRange 0 0x04 (designationForm 0 (.key (keyOf 3)) ++ guardForm none ++ listForm changeForm []) ∧
    OutOfRange 0 0x0F ([1] ++ [2, 5, 5] ++ [1] ++ [0]) ∧ OutOfRange 0 0x11 ([128, 1, 0, 4, 20, 15, 15]) ∧
    OutOfRange 0 0x15 [4, 1, 3, 7] ∧ OutOfRange 0 0x16 [8, 1, 1] ∧ OutOfRange 0 0x17 [7, 1, 8193, 0] := by
  refine ⟨⟨.lane _ _ (by decide) (by decide), .outlet _ _ (by decide) (by simp [within]),
    .outlet _ _ (by decide) (by simp [within]), .readGroup _ (by simp [within]), .readRule _ (by decide),
    .defineOutlet _ _ _ (.inr (.inr (by simp [within]))), .setCapacity _ _ (.inr (by simp [within]))⟩,
    ⟨.readBin _ (by decide), .firstKind _ 2 3 [] (by decide) (by simp [within]),
      .item _ _ _ _ (by decide) (.inl (by decide)), .itemCount [] (.inl rfl) (by simp),
      .designation _ [8192, 0, 1] [] (.inl (by decide)) (.inl (by decide)),
      .designation _ [0, 0, 0] [1] (.inr ⟨rfl, rfl⟩) (.inr (.inl (by decide))),
      .cursorRead _ _ _ (by decide) (by simp [within]) (by simp [within])⟩,
    .changes _ none [] (show (keyOf 3).length < 65536 by decide) (.inl rfl),
    .defineGroup 1 [5, 5] 1 none (by decide) (by simp [within]) (.inr (.inr (.inl (by decide)))),
    .writeRule 128 1 [] 4 20 15 15 (by decide) (.inl (by decide)),
    .parameters 4 [.lapLimit 7] (by decide) (.inl (by decide)), .setCursor 8 .key .first (by decide) ?_ ?_,
    .search 7 1 8193 [] (by simp [within]) (by decide) (by simp) (.inr (.inl (by simp [within])))⟩
  · rintro d ⟨⟩
  · rintro k ⟨⟩

/-- The item that fails is the last of 12, by its destination or by its key, and the members of a group are sent in
another order. -/
theorem witness_CreateItemBodyReadsBack_manifest :
    (∀ d ∈ List.replicate 11 (wanted 90), d.inRange ∧ keyValid d.key = true) ∧ 11 + 1 + 0 ≤ 12 ∧
    (¬(16 : Word).toNat ≤ 15 ∧ (15 : Word).toNat ≤ 15) ∧ keyValid (keyOf 3) = false ∧ (keyOf 3).length < 65536 ∧
    (HostCommand.defineGroup 0 [0, 47] .rotate (some 14)).inRange ∧ [47, 0].Perm ([0, 47] : List OutletId) := by
  refine ⟨fun d hd => ?_, by decide, by decide, by decide +kernel, by decide, ⟨by decide, by decide⟩, by decide⟩
  rw [List.eq_of_mem_replicate hd]
  exact ⟨wanted_inRange 90, by decide +kernel⟩

/-- The small directory with this lane unit for lane `l`. -/
def withLane (l : Lane) (u : LaneUnit) : State := demo.setLane l u

theorem witness_RequestsJoinTheQueueWithinTheLimit :
    (∀ n ∈ [4, 20], 4 ≤ (keyOf n).length ∧ (keyOf n).length ≤ 20 ∧
      ∀ b ∈ keyOf n, 33 ≤ b.toNat ∧ b.toNat ≤ 126) ∧
    ((withLane 1 { LaneUnit.reset with requests := List.replicate 7 (.miss (keyOf 4)) }).lane 1).outstanding < 8 ∧
    8 ≤ ((withLane 1 { LaneUnit.reset with requests := List.replicate 8 (.miss (keyOf 4)) }).lane 1).outstanding ∧
    ¬4 ≤ (keyOf 3).length ∧ demo.resetHeld = false ∧ (inReset false []).resetHeld = true ∧
    (([0, 0] : List Byte).length = (0 : Byte).toNat + 2 ∧ judgeLaneFrame (0xA5 :: 0x15 :: 0 :: [0, 0]) = none) := by
  decide +kernel

theorem witness_RequestsJoinTheQueueWithinTheLimit_skipped :
    ∀ (kind length : Byte) (rest : List Byte), [0x00] = 0xA5 :: kind :: length :: rest → rest.length ≠ length.toNat + 2 := by
  intro kind length rest h
  cases h

/-- The revise entry of record F. -/
def entryF : ReviseEntry :=
  { ref := refOf 5, ordinal := 1, target := .bin, expiry := 5000, condition := .waiting }

theorem witness_AnswersAndTimersSettleTheWaitingEntry :
    (demo.lane 0).reviseEntries = [] ++ entryF :: [] ∧ demo.resetHeld = false ∧
    (entryF.condition = .waiting ∧ entryF.ordinal = 1 ∧ entryF ∉ ([] : List ReviseEntry)) ∧
    ((5000 : Word32) - entryF.expiry).toNat < 2 ^ 31 ∧
    (∀ e ∈ (demo.lane 0).reviseEntries, ¬(e.condition = .waiting ∧ e.ordinal = 2)) ∧
    ∀ e ∈ (demo.lane 0).reviseEntries, e.condition = .waiting ∧ e.ordinal = 1 →
      2 ^ 31 ≤ ((4999 : Word32) - e.expiry).toNat ∧ 2 ^ 31 ≤ (demo.timebase - e.expiry).toNat := by
  decide +kernel

theorem witness_RestartEmptiesTheLaneUnit :
    missing.resetHeld = false ∧ missing.arbiter.busy ≠ some (.lane 1) ∧
    (missing.arbiter.busy = some (.lane 0) ∧ (missing.lane 0).inHand ≠ some .workItem) ∧
    let s := laneAt demo 0 .workItem [.lateNotice (key4 65) (some 0)]
    s.resetHeld = false ∧ s.arbiter.busy = some (.lane 0) ∧ (s.lane 0).inHand = some .workItem ∧
      (s.lane 0).workList = .lateNotice (key4 65) (some 0) :: [] := by decide +kernel

/-- A LOOKUP of a key of the small directory. -/
def lookupOf (b : Byte) : Request := .lookup (key4 b) 11 0 3 0

theorem witness_LaneQueuesMoveOn :
    (missing.lane 0).inHand ≠ none ∧ ((demo.lane 0).workList = [] ∧ (demo.lane 0).requests = []) ∧
    ((withLane 0 { LaneUnit.reset with requests := [lookupOf 65] }).lane 0).requests[0]? =
      some (.lookup (key4 65) 11 0 3 0) ∧
    ((withLane 0 { LaneUnit.reset with outbound := [.restartDone] }).lane 0).outbound = .restartDone :: [] ∧
    ((withLane 0 { LaneUnit.reset with outbound := [.restartDone] }).lane 0).finishing = none ∧
    ((withLane 0 { LaneUnit.reset with finishing := some (.revise 1 .bin) }).lane 0).finishing.isSome = true ∧
    ((withLane 0 { LaneUnit.reset with workList := [.linkFault] }).lane 0).inHand = none ∧
    ((withLane 0 { LaneUnit.reset with workList := [.linkFault] }).lane 0).workList ≠ [] ∧
    ∀ x ∈ [(LaneState.stopped, lookupOf 65), (.draining, lookupOf 65), (.running, lookupOf 65),
        (.stopped, .confirm (key4 65) 1), (.draining, .miss (key4 65))],
      let u := (withLane 0 { LaneUnit.reset with state := x.1, requests := [x.2] }).lane 0
      u.inHand = none ∧ u.workList = [] ∧ u.requests = x.2 :: [] ∧ u.state = x.1 := by decide +kernel

theorem witness_SelectionFollowsPolicyAndOverflow :
    ((1 : Destination).val = (0 : GroupId).val + 1 ∧ (15 : Destination).val = (14 : GroupId).val + 1) ∧
    (demo.choose 0 0 none).map Prod.fst = some 1 ∧
    (demo.choose 1 2 none = none ∧ (demo.group 1).overflow = none) ∧
    (demo.choose 0 1 none = none ∧ (demo.group 0).overflow = some 1 ∧
      (demo.choose 1 1 none).map Prod.fst = some 2) ∧
    (demo.choose 0 2 none = none ∧ demo.choose 1 2 none = none) := by decide +kernel

/-- A directory of `n` records with a RUNNING lane 0 and rule 0, and a LOOKUP in service. -/
def heldLookup (n : Nat) : State :=
  laneAt { holding n with
    store := { (holding n).store with rules := demo.store.rules }
    lanes := demo.lanes } 0 (.request (lookupOf 90)) []

theorem heldLookup_slots (n : Nat) : ∀ m, m < n → ∃ r ∈ (heldLookup n).store.records, r.ref.slot = m :=
  fun m h => ⟨_, mem_expectedRecords n m h, rfl⟩

theorem heldLookup_matches (n : Nat) : ((heldLookup n).matchRule (key4 90)).isSome = true := by
  have : (heldLookup n).matchRule (key4 90) = demo.matchRule (key4 90) := rfl
  rw [this]
  decide +kernel

theorem heldLookup_running (n : Nat) : ((heldLookup n).lane 0).state = .running := by
  simp [heldLookup, laneAt, State.lane, State.setLane, demo, LaneUnit.reset]

theorem witness_LookupAnswersWithoutRouting :
    (∀ s l r, (laneAt s l (.request r) []).laneSteps l (.request r)) ∧
    ((demo.lane 2).state = .stopped ∧
      ((withLane 0 { LaneUnit.reset with state := .draining }).lane 0).state = .draining ∧
      (demo.lane 0).state = .running) ∧
    (demo.recordOfKey? (key4 33) = none ∧ demo.matchRule (key4 33) = none) ∧
    (demo.recordOfKey? (key4 90) = none ∧ (demo.matchRule (key4 90)).isSome = true ∧
      ∀ r ∈ demo.store.records, r.ref.slot ≠ 7) ∧
    ((withLane 0 { LaneUnit.reset with state := .running, exhausted := true }).lane 0).exhausted = true ∧
    (demo.recordOfKey? (key4 65) = some recordA ∧ recordA.state = .routed (.outlet 0) 0 none ∧
      recordA.lane = some 0) ∧
    (demo.recordOfKey? (key4 67)).map (fun r => stateKind r.state) = some .expected :=
  ⟨fun _ _ _ => laneAt_steps _ _ _ _, by decide +kernel⟩

theorem witness_LookupAnswersWithoutRouting_full :
    (heldLookup 8192).laneSteps 0 (.request (lookupOf 90)) ∧ ((heldLookup 8192).lane 0).state = .running ∧
    (heldLookup 8192).recordOfKey? (key4 90) = none ∧ ((heldLookup 8192).matchRule (key4 90)).isSome = true ∧
    ∀ m, m < 8192 → ∃ r ∈ (heldLookup 8192).store.records, r.ref.slot = m :=
  ⟨laneAt_steps _ _ _ _, heldLookup_running 8192, rfl, heldLookup_matches 8192, heldLookup_slots 8192⟩

theorem witness_LookupRoutesTheRecord :
    let s := laneAt demo 0 (.request (lookupOf 67)) []
    s.laneSteps 0 (.request (lookupOf 67)) ∧ s.listed ∧ (s.lane 0).state = .running ∧
    s.recordOfKey? (key4 67) = some (item 2 67 .expected 0 none) ∧
    ¬(stateKind (item 2 67 .expected 0 none).state = .routed ∧ (item 2 67 .expected 0 none).lane = some 0) ∧
    (s.lane 0).exhausted = false :=
  ⟨laneAt_steps _ _ _ _, laneAt_listed _ _ _, by decide +kernel⟩

theorem witness_LookupCreatesFromTheWinningRule :
    let s := laneAt demo 0 (.request (lookupOf 90)) []
    s.laneSteps 0 (.request (lookupOf 90)) ∧ s.orderly ∧ (s.lane 0).state = .running ∧
    s.recordOfKey? (key4 90) = none ∧ s.matchRule (key4 90) = some 0 ∧ 7 < 8192 ∧
    (∀ r ∈ s.store.records, r.ref.slot ≠ 7) ∧ (∀ m, m < 7 → ∃ r ∈ s.store.records, r.ref.slot = m) ∧
    (s.lane 0).exhausted = false :=
  ⟨laneAt_steps _ _ _ _, (laneAt_listed _ _ _).1, by decide +kernel⟩

theorem witness_ConfirmFilesTheArrival :
    (∀ r, (laneAt demo 0 (.request r) []).laneSteps 0 (.request r) ∧ (laneAt demo 0 (.request r) []).listed) ∧
    (demo.outlet 0).definition = some { lane := 0, capacity := 2 } ∧
    (demo.recordOfKey? (key4 66)).map (·.state) = some (.sorted 0 0 false) ∧
    demo.recordOfKey? (key4 65) = some recordA ∧ (∀ arrival stray, recordA.state ≠ .sorted 0 arrival stray) ∧
    (demo.outlet 0).arrivalCounter ≠ 0xFFFFFFFF := by
  refine ⟨fun r => ⟨laneAt_steps _ _ _ _, laneAt_listed _ _ _⟩, by decide +kernel, by decide +kernel,
    by decide +kernel, ?_, by decide +kernel⟩
  intro _ _ h
  cases h

/-- The small directory with outlet 1's arrival counter at its last value, or its foreign count at its. -/
def atLastArrival : State := demo.setOutlet 0 { demo.outlet 0 with arrivalCounter := 0xFFFFFFFF }
def atLastForeign : State := demo.setOutlet 0 { demo.outlet 0 with foreign := 4095 }

theorem witness_ContentIsRenumberedAtTheLastOrdinal :
    (demo.recordsLaw ∧ demo.membershipLaw ∧ (demo.outlet 0).content.length ≤ 8192 ∧
      (demo.outlet 0).arrivalCounter ≠ 0xFFFFFFFF) ∧
    atLastArrival.recordsLaw ∧ atLastArrival.membershipLaw ∧ (atLastArrival.outlet 0).content.length ≤ 8192 ∧
    (atLastArrival.outlet 0).arrivalCounter = 0xFFFFFFFF ∧
    (atLastArrival.outlet 0).content[0]? = some (refOf 1) ∧ refOf 0 ∉ (atLastArrival.outlet 0).content ∧
    (atLastArrival.record? (refOf 0)).isSome = true := by
  have h : atLastArrival.listed :=
    listed_setOutlet demo 0 _ rfl rfl rfl rfl rfl (by decide +kernel) (by decide +kernel) demo_listed
  exact ⟨⟨demo_records, demo_membership, by decide +kernel⟩, h.1.1, h.2.2, by decide +kernel⟩

/-- The CONFIRM of record A at outlet 1 in service, the outlet's arrival counter at its last value. -/
def lastArrival : State := laneAt atLastArrival 0 (.request (.confirm (key4 65) 1)) []

theorem witness_ContentIsRenumberedAtTheLastOrdinal_confirm :
    lastArrival.laneSteps 0 (.request (.confirm (key4 65) (BitVec.ofNat 8 ((0 : OutletId).val + 1)))) ∧
    lastArrival.listed ∧ (lastArrival.outlet 0).definition = some { lane := 0, capacity := 2 } ∧
    lastArrival.recordOfKey? (key4 65) = some recordA ∧ (∀ arrival stray, recordA.state ≠ .sorted 0 arrival stray) ∧
    (lastArrival.outlet 0).arrivalCounter = 0xFFFFFFFF := by
  refine ⟨laneAt_steps _ _ _ _, ?_, by decide +kernel, by decide +kernel, ?_, by decide +kernel⟩
  · refine listed_of_same atLastArrival _ rfl rfl rfl (fun j => ?_)
      (listed_setOutlet demo 0 _ rfl rfl rfl rfl rfl (by decide +kernel) (by decide +kernel) demo_listed)
    revert j
    decide +kernel
  · intro _ _ h
    cases h

theorem witness_ConfirmOfBadOutletForeignOrBin :
    (∀ r, (laneAt demo 0 (.request r) []).laneSteps 0 (.request r) ∧ (laneAt demo 0 (.request r) []).listed) ∧
    (∀ n ∈ [(3 : Byte), 48, 49, 255], n ≠ 0 ∧ ∀ k : OutletId, ¬(n.toNat = k.val + 1 ∧
      (demo.outlet k).definedOn 0 = true)) ∧
    ((1 : Byte).toNat = (0 : OutletId).val + 1 ∧ (demo.outlet 0).definition = some { lane := 0, capacity := 2 } ∧
      demo.recordOfKey? (key4 90) = none ∧ (demo.outlet 0).foreign ≤ 4095) ∧
    (atLastForeign.listed ∧ (atLastForeign.outlet 0).foreign ≤ 4095) ∧
    demo.recordOfKey? (key4 90) = none ∧
    (demo.recordOfKey? (key4 69)).map (·.state) = some .rejected ∧
    (demo.recordOfKey? (key4 65)) = some recordA ∧ recordA.state ≠ .rejected := by
  refine ⟨fun r => ⟨laneAt_steps _ _ _ _, laneAt_listed _ _ _⟩, by decide +kernel, by decide +kernel,
    ⟨?_, by decide +kernel⟩, by decide +kernel⟩
  exact listed_setOutlet demo 0 _ rfl rfl rfl rfl rfl (by decide +kernel) (by decide +kernel) demo_listed

theorem witness_MissRecirculatesTheRecord :
    (∀ r, (laneAt demo 0 (.request r) []).laneSteps 0 (.request r) ∧ (laneAt demo 0 (.request r) []).listed) ∧
    demo.recordOfKey? (key4 90) = none ∧
    (demo.recordOfKey? (key4 66)).map (fun r => stateKind r.state) = some .sorted ∧
    ((demo.recordOfKey? (key4 71)).map fun r => (stateKind r.state, r.lane)) = some (.routed, some 1) ∧
    demo.recordOfKey? (key4 65) = some recordA ∧ stateKind recordA.state = .routed ∧ recordA.lane = some 0 :=
  ⟨fun r => ⟨laneAt_steps _ _ _ _, laneAt_listed _ _ _⟩, by decide +kernel⟩

theorem witness_RestartStepRecirculatesTheLane :
    (laneAt demo 0 .restart []).laneSteps 0 .restart ∧ (laneAt demo 0 .restart []).orderly :=
  ⟨laneAt_steps _ _ _ _, (laneAt_listed _ _ _).1⟩

theorem laneAt_item (s : State) (l : Lane) (w : WorkItem) : (laneAt s l .workItem [w]).itemSteps l w :=
  ⟨laneAt_steps _ _ _ _, by rw [laneAt_workList]; rfl⟩

theorem witness_NoticesAddTheirReason :
    (∀ w, (laneAt demo 0 .workItem [w]).itemSteps 0 w) ∧ demo.recordOfKey? (key4 90) = none ∧
    demo.recordOfKey? (key4 65) = some recordA :=
  ⟨laneAt_item demo 0, by decide +kernel⟩

/-- The settled entries of record F, one of them with a target that is on no lane. -/
def settledF (c : ReviseCondition) (target : Place) : ReviseEntry := { entryF with condition := c, target := target }

/-- The record F of the small directory. -/
def recordF : ItemRecord := item 5 70 (.routed (.outlet 1) 1 (some .bin)) 0 (some 0)

theorem witness_TakenRevisionMovesTheRecord :
    (∀ w, (laneAt demo 0 .workItem [w]).itemSteps 0 w ∧ (laneAt demo 0 .workItem [w]).listed) ∧
    demo.record? (refOf 5) = some recordF ∧ recordF.state = .routed (.outlet 1) entryF.ordinal (some .bin) ∧
    recordF.lane = some 0 ∧
    ((settledF .answeredTaken .bin).condition = .answeredTaken ∧
      ∀ k, (settledF .answeredTaken .bin).target = .outlet k →
        ∃ d, (demo.outlet k).definition = some d ∧ d.lane = 0) ∧
    ¬∀ k, (settledF .answeredTaken (.outlet 47)).target = .outlet k →
        ∃ d, (demo.outlet k).definition = some d ∧ d.lane = 0 := by
  refine ⟨fun w => ⟨laneAt_item demo 0 w, laneAt_listed _ _ _⟩, by decide +kernel, by decide +kernel,
    by decide +kernel, ⟨by decide +kernel, ?_⟩, ?_⟩
  · intro k h
    cases h
  · intro h
    obtain ⟨d, e, _⟩ := h 47 rfl
    rw [show (demo.outlet 47).definition = none by decide +kernel] at e
    cases e

theorem witness_OtherRevisionsLeaveTheRecord :
    (∀ w, (laneAt demo 0 .workItem [w]).itemSteps 0 w ∧ (laneAt demo 0 .workItem [w]).orderly) ∧
    (∀ c, (settledF c .bin).condition = c) ∧
    (demo.record? (refOf 5) = some recordF ∧ recordF.lane = some 0 ∧
      recordF.state = .routed (.outlet 1) (settledF .expired .bin).ordinal (some .bin)) ∧
    demo.record? (refOf 8) = none := by
  refine ⟨fun w => ⟨laneAt_item demo 0 w, (laneAt_listed _ _ _).1⟩, fun _ => rfl, by decide +kernel,
    by decide +kernel⟩

/-! ### Single steps of the worked examples (the expected values are the specification's) -/

/-- The state after one event. -/
def after (i : Instr) (s : State) : State :=
  match exec i s with
  | .next t => t
  | .fault _ | .refused _ => s

/-- A table with these entries in place of the reset ones. -/
def tableOf {α : Type} {n : Nat} (reset : α) (entries : List (Fin n × α)) : Vector α n :=
  entries.foldl (fun v x => v.set x.1.val x.2 x.1.isLt) (Vector.replicate n reset)

/-- The counts of these records. -/
def countsOf (rs : List ItemRecord) : Counts :=
  let n := fun k => rs.countP fun r => decide (stateKind r.state = k)
  { inUse := rs.length, expected := n .expected, routed := n .routed, sorted := n .sorted,
    recirculating := n .recirculating, rejected := n .rejected }

/-- A state with these records, outlets, groups, rules and lanes. -/
def world (rs : List ItemRecord) (outlets : List (OutletId × OutletEntry)) (groups : List (GroupId × GroupEntry))
    (rules : List (RuleId × RuleEntry)) (lanes : List (Lane × LaneUnit)) (serial : Word32) : State :=
  { State.reset with
    store := { Store.reset with
      records := rs
      keyIndex := rs.foldl (fun acc r => insertIndex { key := r.key, ref := r.ref } acc) []
      serialCounter := serial
      counts := countsOf rs
      outlets := tableOf OutletEntry.reset outlets
      groups := tableOf GroupEntry.reset groups
      rules := tableOf RuleEntry.reset rules }
    lanes := tableOf LaneUnit.reset lanes }

/-- An outlet with these lists; reserved and held are their lengths. -/
def outletOf (lane : Lane) (capacity : Nat) (expected content : List Ref) (counter : Word32) : OutletEntry :=
  { OutletEntry.reset with
    definition := some { lane := lane, capacity := capacity }
    reserved := expected.length, held := content.length
    expected := expected, content := content, arrivalCounter := counter }

/-- A group without an overflow group, with pointers at 0. -/
def groupOf (members : List OutletId) (policy : Policy) (overflow : Option GroupId) : GroupEntry :=
  { members := members, policy := policy, overflow := overflow, pointers := Vector.replicate 4 0 }

/-- A RUNNING lane unit with its counter here. -/
def runningAt (counter : Word32) (lapLimit : Nat) : LaneUnit :=
  { LaneUnit.reset with state := .running, ordinalCounter := counter, lapLimit := lapLimit }

/-- A record of the worked examples, its key four equal bytes. -/
def tote (slot : Nat) (b : Byte) (state : ItemState) (laps : Nat) (lane : Option Lane) (g : Destination)
    (revision : BitVec 16) : ItemRecord :=
  { ref := refOf slot, key := key4 b, origin := .manifest, state := state, destination := g, hold := none,
    hostTag := none, laps := laps, lane := lane, revision := revision }

/-- The key RT-55012 of section 3.7. -/
def keyRT : Key := [0x52, 0x54, 0x2D, 0x35, 0x35, 0x30, 0x31, 0x32]

/-- Section 3.7 before its event 2: D (68) in slot 4; outlets 40 and 41 on lane 2; rules 17 and 90. -/
def routing : State :=
  world
    [tote 0 65 .expected 0 none 3 0, tote 1 66 .expected 0 none 3 0, tote 2 67 .recirculating 3 (some 0) 3 6,
      tote 4 68 (.sorted 39 61 false) 0 (some 2) 3 3]
    [(39, outletOf 2 2 [] [refOf 4] 62), (40, outletOf 2 5 [] [] 0)]
    [(2, groupOf [4, 39] .first (some 7)), (7, groupOf [5, 40] .least none)]
    [(17, { enabled := true, pattern := { positions := [some 0x52, some 0x54], minLength := 6, maxLength := 12 },
            priority := 4, group := 3 }),
      (90, { enabled := true, pattern := { positions := [some 0x52], minLength := 4, maxLength := 20 },
             priority := 2, group := 0 })]
    [(2, runningAt 7000 2)] 500

/-- Section 3.7, event 2: rule 17 wins over rule 90; E is created in slot 3 with serial 500 at outlet 40. -/
theorem test_lookup_step_creates :
    let t := after (.lookupStep 2 false) (laneAt routing 2 (.request (.lookup keyRT 401 2000 2 8)) [])
    (t.record? { slot := 3, serial := 500 }).map (fun r => (r.state, r.origin, r.destination, r.revision)) =
      some (.routed (.outlet 39) 7000 none, .rule 17, 3, 0) ∧
    t.store.serialCounter = 501 ∧ (t.lane 2).ordinalCounter = 7001 ∧
    (t.lane 2).outbound = [.answer 401 (.outlet 39) .rule none] ∧
    t.store.attention = [{ subject := .outlet 39, reasons := [.full] }] := by decide +kernel
/-- Section 3.7, event 8: D leaves the content list of outlet 40 and is routed to its expected list. -/
theorem test_lookup_step_reinducts :
    let t := after (.lookupStep 2 false) (laneAt routing 2 (.request (.lookup (key4 68) 404 2000 2 8)) [])
    (t.record? (refOf 4)).map (fun r => (r.state, r.revision)) = some (.routed (.outlet 39) 7000 none, 4) ∧
    (t.outlet 39).content = [] ∧ (t.outlet 39).expected = [refOf 4] ∧
    (t.lane 2).outbound = [.answer 404 (.outlet 39) .direct none] := by decide +kernel

/-- Section 4.10 before its event 1: P (80), Q (81) and R (82) expected at outlet 22, S (83) in it. -/
def reports : State :=
  world
    [tote 0 80 (.routed (.outlet 21) 300 none) 1 (some 3) 3 0, tote 1 81 (.routed (.outlet 21) 301 none) 0 (some 3) 3 0,
      tote 2 82 (.routed (.outlet 21) 302 (some (.outlet 22))) 0 (some 3) 3 0,
      tote 3 83 (.sorted 21 40 false) 0 (some 3) 3 0]
    [(21, outletOf 3 4 [refOf 0, refOf 1, refOf 2] [refOf 3] 41), (22, outletOf 3 10 [] [] 0)] [] []
    [(3, { runningAt 303 2 with
           pendingCount := 1
           reviseEntries := [{ ref := refOf 2, ordinal := 302, target := .outlet 22, expiry := 5000,
                               condition := .waiting }] })] 9

/-- Section 4.10, event 1: Q arrives at outlet 22 while P heads its expected list. -/
theorem test_confirm_step_out_of_order :
    let t := after (.confirmStep 3 false) (laneAt reports 3 (.request (.confirm (key4 81) 22)) [])
    (t.outlet 21).expected = [refOf 0, refOf 2] ∧ (t.outlet 21).content = [refOf 3, refOf 1] ∧
    t.arrivalOf (refOf 1) = 41 ∧ (t.outlet 21).arrivalCounter = 42 ∧ t.store.attention = [] ∧
    (t.lane 3).outbound = [.note (key4 81) .sortedOutOfOrder] := by decide +kernel
/-- R31: at the counter's last value the members take 0 and 1, in order, and the arriving record 2; a member whose
ordinal changes advances its revision, and the boundary 46 of a clearing becomes 1. -/
theorem test_confirm_step_renumbers :
    let s := world
      [tote 0 80 (.routed (.outlet 21) 300 none) 1 (some 3) 3 0, tote 1 81 (.sorted 21 40 false) 0 (some 3) 3 5,
        tote 2 82 (.sorted 21 50 true) 0 (some 3) 3 7]
      [(21, { outletOf 3 9 [refOf 0] [refOf 1, refOf 2] 0xFFFFFFFF with clearing := some 46 })] [] []
      [(3, runningAt 303 2)] 9
    let t := after (.confirmStep 3 false) (laneAt s 3 (.request (.confirm (key4 80) 22)) [])
    t.store.records.map (fun r => (r.state, r.revision)) =
      [(.sorted 21 2 false, 1), (.sorted 21 0 false, 6), (.sorted 21 1 true, 8)] ∧
    (t.outlet 21).content = [refOf 1, refOf 2, refOf 0] ∧ (t.outlet 21).arrivalCounter = 3 ∧
    (t.outlet 21).clearing = some 1 := by decide +kernel
/-- Section 4.10, event 3: P's laps reach the lane's lap limit of 2. -/
theorem test_miss_step :
    let t := after (.missStep 3 false) (laneAt reports 3 (.request (.miss (key4 80))) [])
    (t.record? (refOf 0)).map (fun r => (r.state, r.laps)) = some (.recirculating, 2) ∧
    t.store.attention = [{ subject := .item (refOf 0), reasons := [.lapLimit] }] ∧
    (t.lane 3).outbound = [.note (key4 80) .recirculating] := by decide +kernel

/-- Section 5.7, event 4: J (74) is moved behind N (78) in outlet 15, which fills. -/
def revising : State :=
  world
    [tote 0 74 (.routed (.outlet 13) 410 (some (.outlet 14))) 0 (some 1) 3 2,
      tote 1 75 (.routed (.outlet 13) 411 none) 0 (some 1) 2 1, tote 2 78 (.routed (.outlet 14) 405 none) 0 (some 1) 3 1]
    [(13, outletOf 1 5 [refOf 0, refOf 1] [] 57), (14, outletOf 1 2 [refOf 2] [] 8)] [] []
    [(1, { runningAt 413 3 with
           pendingCount := 1
           reviseEntries := [{ ref := refOf 0, ordinal := 410, target := .outlet 14, expiry := 5000,
                               condition := .answeredTaken }] })] 9

theorem test_answered_taken_step :
    let t := after (.answeredTakenStep 1 false) (laneAt revising 1 .workItem
      [.revise { ref := refOf 0, ordinal := 410, target := .outlet 14, expiry := 5000, condition := .answeredTaken }])
    (t.outlet 13).expected = [refOf 1] ∧ (t.outlet 14).expected = [refOf 2, refOf 0] ∧
    (t.record? (refOf 0)).map (fun r => (r.state, r.revision)) = some (.routed (.outlet 14) 410 none, 3) ∧
    (t.lane 1).pendingCount = 0 ∧ (t.lane 1).reviseEntries = [] ∧
    t.store.attention = [{ subject := .outlet 14, reasons := [.full] }] := by decide +kernel

/-- R97, R104: a REVISE that has not begun to be sent leaves the outbound queue when its revision is settled, and one
that is being sent stays there until it has been sent (log entry 17). -/
theorem test_answered_too_late_withdraws_the_unsent_revise :
    let e : ReviseEntry :=
      { ref := refOf 0, ordinal := 410, target := .outlet 14, expiry := 5000, condition := .answeredTooLate }
    let sends := fun begun : Bool =>
      revising.setLane 1 { revising.lane 1 with outbound := [.revise 410 (.outlet 14), .restartDone], sending := begun }
    let t := fun begun => after (.answeredTooLateStep 1 false) (laneAt (sends begun) 1 .workItem [.revise e])
    ((t false).lane 1).outbound = [.restartDone] ∧
    ((t true).lane 1).outbound = [.revise 410 (.outlet 14), .restartDone] ∧ ((t true).lane 1).sending = true ∧
    ((t true).lane 1).finishing = none ∧
    ((after (.messageSent 1) (t true)).lane 1).outbound = [.restartDone] := by decide +kernel

/-- R87, R101: 8 REVISEs stand in the outbound queue when a revision is issued, and 8 stand there afterwards: the one
being sent is finished outside it, and the next begins after its end (log entry 18). -/
theorem test_amend_item_with_eight_revises_queued :
    let s := hostAt (demo.setLane 0 { demo.lane 0 with
      pendingCount := 7, outbound := (List.range 8).map fun n => .revise (BitVec.ofNat 32 n) .bin, sending := true })
      (.amendItem redirection) 0
    let t := after (.amendItem .step) s
    (t.lane 0).outbound.length = 8 ∧ (t.lane 0).outbound.getLast? = some (.revise 0 (.outlet 1)) ∧
    (t.lane 0).finishing = some (.revise 0 .bin) ∧ (t.lane 0).sending = false ∧
    (t.lane 0).beginSending.sending = false ∧
    ((after (.messageSent 0) t).lane 0).finishing = none ∧
    ((after (.messageSent 0) t).lane 0).outbound = (t.lane 0).outbound := by decide +kernel

/-- Section 6.9, event 7: V (86) recirculates and the DRAINING lane 2 stops. -/
theorem test_restart_step :
    let s := world [tote 0 86 (.routed (.outlet 33) 91 (some (.outlet 32))) 1 (some 2) 3 0]
      [(33, outletOf 2 5 [refOf 0] [] 0)] [] []
      [(2, { runningAt 92 3 with state := .draining, pendingCount := 1 })] 9
    let t := after (.restartStep 2 false) (laneAt s 2 .restart [])
    (t.record? (refOf 0)).map (fun r => (r.state, r.laps)) = some (.recirculating, 1) ∧
    (t.outlet 33).expected = [] ∧ (t.lane 2).state = .stopped ∧ (t.lane 2).pendingCount = 0 ∧
    (t.lane 2).ordinalCounter = 0 ∧ (t.lane 2).outbound = [.restartDone] ∧
    t.store.attention = [{ subject := .lane 2, reasons := [.restarted, .drained] }] := by decide +kernel

/-- Section 7.5, grants 1 and 5. -/
theorem test_grants :
    (let t := (requesting (Vector.replicate 4 true) true 0 2).arbitrate
     t.arbiter.busy = some (.lane 3) ∧ t.arbiter.lastLane = 3 ∧ t.arbiter.hostWait = 1) ∧
    let t := (requesting (Vector.replicate 4 true) true 4 2).arbitrate
    t.arbiter.busy = some .host ∧ t.arbiter.lastLane = 2 ∧ t.arbiter.hostWait = 0 := by decide +kernel

/-- The key TOTE-00417 of section 1.13. -/
def keyTote : Key := [0x54, 0x4F, 0x54, 0x45, 0x2D, 0x30, 0x30, 0x34, 0x31, 0x37]

/-- Section 1.13, event 1: the response is OK, slot 3, serial 1208, revision 0. -/
theorem test_create_item :
    let s := world [tote 0 65 .expected 0 none 1 0, tote 1 66 .expected 0 none 1 0, tote 2 67 .expected 0 none 1 0]
      [] [] [] [] 1208
    let t := after (.createItem .step) (hostAt s
      (.createItem { key := keyTote, destination := 5, hold := none, hostTag := some 90210 }) 0)
    t.host.responses = [{ code := 0x01, body := [0, 3, 0, 1208, 0] }] ∧ t.store.serialCounter = 1209 ∧
    (t.recordOfKey? keyTote).map (fun r => (r.state, r.destination, r.hostTag)) = some (.expected, 5, some 90210) ∧
    t.store.counts.inUse = 4 := by decide +kernel
/-- Section 1.13, event 6: a guard of 3 against the revision 4 draws STALE with 4. -/
theorem test_amend_item_stale :
    let s := world [tote 3 65 (.routed (.outlet 29) 880 none) 1 (some 2) 7 4] [(29, outletOf 2 9 [refOf 3] [] 214)]
      [] [] [(2, runningAt 881 3)] 9
    let t := after (.amendItem .step) (hostAt s
      (.amendItem { designation := .ref (refOf 3), guardRevision := some 3, changes := [.clearTag] }) 0)
    t.host.responses = [{ code := 0x04, body := [7, 4] }] ∧ t.store = s.store := by decide +kernel
/-- Section 1.13, event 8: RETIRE ITEM of the SORTED record. -/
theorem test_retire_item :
    let s := world [tote 3 65 (.sorted 29 214 false) 1 (some 2) 7 5] [(29, outletOf 2 9 [] [refOf 3] 215)] [] [] [] 9
    let t := after (.retireItem .step) (hostAt s (.retireItem (.key (key4 65)) false) 0)
    t.host.responses = [{ code := 0x06, body := [0, 3, 0, 4, 3] }] ∧ t.store.records = [] ∧
    t.store.keyIndex = [] ∧ (t.outlet 29).held = 0 ∧ (t.outlet 29).content = [] := by decide +kernel

/-- R124: an ABORT's header declares no body word, so that it is received, and answered, with the header. -/
theorem test_header_alone :
    (after (.abort (.header 0)) demo).host.responses = [{ code := 0x1C, body := [19] }] ∧
    (after (.abort (.header 0)) demo).host.reception = none ∧
    (after (.abort (.header 1)) demo).host.reception = some { code := 0x1C, length := 1 } := by decide +kernel
/-- R168: while the power-on reset pin is asserted no header is acknowledged and no lane frame received. -/
theorem test_held_in_reset :
    let s := after (.powerOnReset .asserted) demo
    after (.abort (.header 0)) s = s ∧ after (.restart 1) s = s ∧ s.urgentLine = false ∧
    after (.powerOnReset (.released 10)) s = State.reset := by decide +kernel
/-- The manifest cut short of chapter 8, event 6: OK for the ABORT, then ABORTED for LOAD MANIFEST. -/
theorem test_abort_of_a_manifest :
    let c := HostCommand.loadManifest [wanted 65, wanted 66, wanted 67, wanted 68, wanted 69]
    let f := { flightIn c .waiting 3 with
      progress := { outcomes := [.created { slot := 6, serial := 700 }, .created { slot := 8, serial := 702 }, .existing]
                    examined := 0, retired := 0, foreignAside := 0 } }
    let t := after (.abort (.received [])) { waitingHost c .waiting 3 with
      host := { (waitingHost c .waiting 3).host with inFlight := some f } }
    t.host.inFlight = none ∧ t.arbiter.hostRequest = false ∧ t.arbiter.hostWait = 0 ∧
    t.host.responses.map Response.code = [0x1C, 0x02] ∧
    t.host.responses.map (fun r => r.body.head?) = [some 0, some 18] := by decide +kernel

/-- Section 9.7 before its event 6: A to E in outlet 18, cursor 4 on D with its flag set. -/
def examining : State :=
  (world
    [tote 0 65 (.sorted 17 10 false) 0 (some 0) 1 0, tote 2 67 (.sorted 17 12 false) 0 (some 0) 1 0,
      tote 3 68 (.sorted 17 13 false) 0 (some 0) 1 0, tote 4 69 (.sorted 17 14 true) 0 (some 0) 1 1]
    [(17, outletOf 0 10 [] [refOf 0, refOf 2, refOf 3, refOf 4] 15)] [] [] [] 9).setCursor 4
    { view := .content 17, position := .record (refOf 3), slipped := true }

/-- Section 9.7, event 6: the search ends with LIMIT, 3 examined, slipped, and E's slot and serial. -/
theorem test_search_step_limit :
    let c := HostCommand.search { cursor := 4, startNext := true, limit := 3, conditions := [.stray] }
    let s := hostAt examining c 2
    let t := after .searchStep { s with host := { s.host with
      inFlight := some { flightAt c 2 with
        progress := { outcomes := [], examined := 2, retired := 0, foreignAside := 0 } } } }
    t.host.responses.map (fun r => (r.code, r.body.tail)) = [(0x17, [3, 1, 4, 0, 5])] ∧
    (t.cursor 4).position = .record (refOf 4) ∧ (t.cursor 4).slipped = false := by decide +kernel
/-- R141, with the lists of section 9.7's event 9: E leaves outlet 18, and cursor 4, which stood on it, goes to
AFTER_LAST. -/
theorem test_cursor_slips :
    let s := examining.setCursor 4 { view := .content 17, position := .record (refOf 4), slipped := false }
    let t := after (.retireItem .step) (hostAt s (.retireItem (.ref (refOf 4)) false) 0)
    (t.outlet 17).content = [refOf 0, refOf 2, refOf 3] ∧ (t.cursor 4).position = .afterLast ∧
    (t.cursor 4).slipped = true := by decide +kernel

/-- The clearing of chapter 10's worked example, before its start step: A, B and C in outlet 25, P expected, foreign 2. -/
def clearing25 (boundary : Option Word32) (foreign : Nat) : State :=
  world
    [tote 0 65 (.sorted 24 50 false) 0 (some 1) 1 0, tote 1 66 (.sorted 24 51 false) 0 (some 1) 1 0,
      tote 2 67 (.sorted 24 52 false) 0 (some 1) 1 0, tote 3 80 (.routed (.outlet 24) 7 none) 0 (some 1) 1 0]
    [(24, { outletOf 1 6 [refOf 3] [refOf 0, refOf 1, refOf 2] 53 with clearing := boundary, foreign := foreign })]
    [] [] [(1, runningAt 8 3)] 9

/-- The clearing of chapter 10, event 1: the boundary is 53 and the foreign count is set aside. -/
theorem test_clear_outlet_start :
    let t := after .clearOutletStartStep (hostAt (clearing25 none 2) (.clearOutlet 24) 0)
    (t.outlet 24).clearing = some 53 ∧ (t.outlet 24).foreign = 0 ∧ (t.outlet 24).state = .clearing ∧
    t.host.inFlight.map (fun f => (f.stepsDone, f.progress.foreignAside)) = some (1, 2) := by decide +kernel
/-- The clearing of chapter 10, event 2: the head A (50) is retired. -/
theorem test_clear_outlet_retires :
    let t := after .clearOutletRetiringStep (hostAt (clearing25 (some 53) 0) (.clearOutlet 24) 1)
    (t.outlet 24).content = [refOf 1, refOf 2] ∧ (t.outlet 24).held = 2 ∧ t.record? (refOf 0) = none ∧
    t.host.inFlight.map (fun f => f.progress.retired) = some 1 := by decide +kernel

/-- Section 11.6, event 1: one step adds FOREIGN and FULL for outlet 9. -/
theorem test_confirm_step_foreign :
    let s := world [] [(8, { outletOf 0 4 [] [] 0 with foreign := 3 })] [] [] [(0, runningAt 0 3)] 9
    let t := after (.confirmStep 0 false) (laneAt s 0 (.request (.confirm (key4 88) 9)) [])
    t.store.attention = [{ subject := .outlet 8, reasons := [.full, .foreign] }] ∧
    (t.outlet 8).foreign = 4 ∧ t.routineLine = true ∧ t.urgentLine = false := by decide +kernel
/-- Section 11.6, event 5: K's entry is returned with LAP_LIMIT and LATE; 2 entries remain, 1 urgent. -/
theorem test_take_attention_urgent :
    let es : List AttentionEntry := [{ subject := .outlet 8, reasons := [.full, .foreign] },
      { subject := .item (refOf 0), reasons := [.late, .lapLimit] }, { subject := .lane 0, reasons := [.linkFault] }]
    let t := after (.takeAttention .step) (hostAt (demo.setAttention es) (.takeAttention true) 0)
    t.store.attention.map AttentionEntry.subject = [.outlet 8, .lane 0] ∧ t.urgentLine = true ∧
    t.routineLine = true ∧
    t.host.responses.map (fun r => (r.code, r.body.drop (r.body.length - 2))) = [(0x18, [2, 1])] := by decide +kernel

end Sys2Proof.Tests
end

section
/-!
SUPPORT and CERTIFICATE. Selection (section 2.6): the candidates of a group on a lane (R35), the choice that each
policy makes among them (R36, R37, R38), the overflow group (R39), and statement O49, assembled from them.
-/
namespace Sys2Proof.Machine

/-! ### Candidates (R25, R26, R35) -/

/-- R25: the conditions of OPEN, at a load taken as given. -/
theorem OutletEntry.stateWithLoad_eq_opened_iff (o : OutletEntry) (load : Nat) :
    o.stateWithLoad load = .opened ↔
      ∃ d, o.definition = some d ∧ o.clearing = none ∧ o.closed = false ∧ load < d.capacity := by
  unfold OutletEntry.stateWithLoad
  cases o.definition with
  | none => simp
  | some d =>
    cases o.clearing <;> cases o.closed <;> simp

theorem OutletEntry.definedOn_iff (o : OutletEntry) (l : Lane) :
    o.definedOn l = true ↔ ∃ d, o.definition = some d ∧ d.lane = l := by
  unfold OutletEntry.definedOn
  cases o.definition <;> simp

theorem State.loadSeen_eq (s : State) (given : Option OutletId) (k : OutletId) :
    s.loadSeen given k =
      (s.outlet k).reserved + (s.outlet k).held + (s.outlet k).foreign - if given = some k then 1 else 0 := by
  unfold State.loadSeen OutletEntry.load
  split <;> rfl

/-- R35: the candidates are the members that are defined on the lane and OPEN. -/
theorem State.mem_candidates_iff (s : State) (g : GroupId) (l : Lane) (given : Option OutletId) (k : OutletId) :
    k ∈ s.candidates g l given ↔ k ∈ (s.group g).members ∧ ∃ d, (s.outlet k).definition = some d ∧
      d.lane = l ∧ (s.outlet k).clearing = none ∧ (s.outlet k).closed = false ∧
        s.loadSeen given k < d.capacity := by
  simp only [State.candidates, allOutlets, List.mem_filter, List.mem_finRange, true_and, Bool.and_eq_true,
    decide_eq_true_eq, OutletEntry.definedOn_iff, OutletEntry.stateWithLoad_eq_opened_iff, and_assoc]
  constructor
  · rintro ⟨member, ⟨d, hd, lane⟩, d', hd', opened⟩
    obtain rfl : d = d' := Option.some.inj (hd.symm.trans hd')
    exact ⟨member, d, hd, lane, opened⟩
  · rintro ⟨member, d, hd, lane, opened⟩
    exact ⟨member, ⟨d, hd, lane⟩, d, hd, opened⟩

/-- The candidates stand in ascending number. -/
theorem State.candidates_ascending (s : State) (g : GroupId) (l : Lane) (given : Option OutletId) :
    (s.candidates g l given).Pairwise (· < ·) :=
  (List.pairwise_lt_finRange 48).filter _

/-! ### Choosing from an ascending list -/

theorem head?_le_of_ascending {cs : List OutletId} (ascending : cs.Pairwise (· < ·)) {k : OutletId}
    (h : cs.head? = some k) : k ∈ cs ∧ ∀ j ∈ cs, k ≤ j := by
  obtain ⟨ks, rfl⟩ := List.head?_eq_some_iff.mp h
  refine ⟨List.mem_cons_self, fun j hj => ?_⟩
  rcases List.mem_cons.mp hj with rfl | hj
  · exact le_rfl
  · exact (List.rel_of_pairwise_cons ascending hj).le

/-- R37: the first entry above a pointer is the lowest of those above it. -/
theorem find?_le_of_ascending {cs : List OutletId} (ascending : cs.Pairwise (· < ·)) {p : OutletId → Bool}
    {k : OutletId} (h : cs.find? p = some k) : k ∈ cs ∧ p k = true ∧ ∀ j ∈ cs, p j = true → k ≤ j := by
  rw [← List.head?_filter] at h
  obtain ⟨mem, le⟩ := head?_le_of_ascending (ascending.filter p) h
  obtain ⟨mem, above⟩ := List.mem_filter.mp mem
  exact ⟨mem, above, fun j hj hp => le j (List.mem_filter.mpr ⟨hj, hp⟩)⟩

theorem leastLoaded_eq_none_iff (load : OutletId → Nat) (cs : List OutletId) :
    leastLoaded load cs = none ↔ cs = [] := by
  cases cs with
  | nil => simp [leastLoaded]
  | cons c cs =>
    simp only [leastLoaded, reduceCtorEq, iff_false]
    split
    · simp
    · split <;> simp

/-- R38: the smallest load, and the lowest number among equals. -/
theorem leastLoaded_least {load : OutletId → Nat} {cs : List OutletId} (ascending : cs.Pairwise (· < ·))
    {k : OutletId} (h : leastLoaded load cs = some k) :
    k ∈ cs ∧ ∀ j ∈ cs, load k < load j ∨ load k = load j ∧ k ≤ j := by
  induction cs generalizing k with
  | nil => simp [leastLoaded] at h
  | cons c cs ih =>
    obtain ⟨below, ascending⟩ := List.pairwise_cons.mp ascending
    simp only [leastLoaded] at h
    split at h
    next hnone =>
      obtain rfl := (leastLoaded_eq_none_iff load cs).mp hnone
      obtain rfl := Option.some.inj h
      simp
    next i hi =>
      obtain ⟨mem, least⟩ := ih ascending hi
      split at h
      next smaller =>
        obtain rfl := Option.some.inj h
        exact ⟨List.mem_cons_of_mem c mem, List.forall_mem_cons.mpr ⟨.inl smaller, least⟩⟩
      next notSmaller =>
        obtain rfl := Option.some.inj h
        refine ⟨List.mem_cons_self, List.forall_mem_cons.mpr ⟨.inr ⟨rfl, le_rfl⟩, fun j hj => ?_⟩⟩
        have le : load c ≤ load j := by rcases least j hj with less | ⟨equal, -⟩ <;> omega
        exact le.lt_or_eq.imp_right fun equal => ⟨equal, (below j hj).le⟩

/-! ### The choice of a group (R36, R37, R38) -/

section
variable {s : State} {g : GroupId}

theorem State.choose_of_first (l : Lane) (given : Option OutletId) (policy : (s.group g).policy = .first) :
    s.choose g l given = (s.candidates g l given).head?.map fun k => (k, s) := by
  simp only [State.choose, policy]

theorem State.choose_of_least (l : Lane) (given : Option OutletId) (policy : (s.group g).policy = .least) :
    s.choose g l given =
      (leastLoaded (s.loadSeen given) (s.candidates g l given)).map fun k => (k, s) := by
  simp only [State.choose, policy]

/-- R37: the first candidate above the lane's pointer, else the lowest; the lane's pointer is set to it. -/
theorem State.choose_of_rotate (l : Lane) (given : Option OutletId) (policy : (s.group g).policy = .rotate) :
    s.choose g l given =
      (((s.candidates g l given).find? fun k => decide ((s.group g).pointers[l] < outletNumber k)).or
        (s.candidates g l given).head?).map fun k =>
          (k, s.setGroup g
            { s.group g with pointers := (s.group g).pointers.set l.val (outletNumber k) l.isLt }) := by
  simp only [State.choose, policy]
  cases (s.candidates g l given).find? fun k => decide ((s.group g).pointers[l] < outletNumber k) with
  | some i => rfl
  | none => cases (s.candidates g l given).head? <;> rfl

end

/-- R35: a group chooses nothing exactly when it has no candidate. -/
theorem State.choose_eq_none_iff (s : State) (g : GroupId) (l : Lane) (given : Option OutletId) :
    s.choose g l given = none ↔ s.candidates g l given = [] := by
  cases policy : (s.group g).policy with
  | first => rw [State.choose_of_first l given policy, Option.map_eq_none_iff, List.head?_eq_none_iff]
  | least => rw [State.choose_of_least l given policy, Option.map_eq_none_iff, leastLoaded_eq_none_iff]
  | rotate =>
    rw [State.choose_of_rotate l given policy, Option.map_eq_none_iff, Option.or_eq_none_iff,
      List.head?_eq_none_iff, and_iff_right_iff_imp]
    intro empty
    rw [empty, List.find?_nil]

section
variable {s t : State} {g : GroupId} {l : Lane} {given : Option OutletId} {k : OutletId}

/-- R36: under FIRST the lowest candidate, and nothing changes. -/
theorem State.choose_first_spec (policy : (s.group g).policy = .first) (h : s.choose g l given = some (k, t)) :
    k ∈ s.candidates g l given ∧ t = s ∧ ∀ j ∈ s.candidates g l given, k ≤ j := by
  rw [State.choose_of_first l given policy, Option.map_eq_some_iff] at h
  obtain ⟨_, head, heq⟩ := h
  obtain ⟨rfl, rfl⟩ := Prod.mk.inj heq
  obtain ⟨mem, lowest⟩ := head?_le_of_ascending (s.candidates_ascending g l given) head
  exact ⟨mem, rfl, lowest⟩

/-- R38: under LEAST the candidate of the smallest load, the lowest among equals, and nothing changes. -/
theorem State.choose_least_spec (policy : (s.group g).policy = .least) (h : s.choose g l given = some (k, t)) :
    k ∈ s.candidates g l given ∧ t = s ∧ ∀ j ∈ s.candidates g l given,
      s.loadSeen given k < s.loadSeen given j ∨ s.loadSeen given k = s.loadSeen given j ∧ k ≤ j := by
  rw [State.choose_of_least l given policy, Option.map_eq_some_iff] at h
  obtain ⟨_, found, heq⟩ := h
  obtain ⟨rfl, rfl⟩ := Prod.mk.inj heq
  obtain ⟨mem, least⟩ := leastLoaded_least (s.candidates_ascending g l given) found
  exact ⟨mem, rfl, least⟩

/-- R37: under ROTATE the next candidate above the lane's pointer, else the lowest; the pointer alone changes. -/
theorem State.choose_rotate_spec (policy : (s.group g).policy = .rotate) (h : s.choose g l given = some (k, t)) :
    k ∈ s.candidates g l given ∧
      t = s.setGroup g
        { s.group g with pointers := (s.group g).pointers.set l.val (outletNumber k) l.isLt } ∧
      ((∃ j ∈ s.candidates g l given, (s.group g).pointers[l] < outletNumber j) →
        (s.group g).pointers[l] < outletNumber k ∧
          ∀ j ∈ s.candidates g l given, (s.group g).pointers[l] < outletNumber j → k ≤ j) ∧
      ((∀ j ∈ s.candidates g l given, outletNumber j ≤ (s.group g).pointers[l]) →
        ∀ j ∈ s.candidates g l given, k ≤ j) := by
  have ascending := s.candidates_ascending g l given
  rw [State.choose_of_rotate l given policy, Option.map_eq_some_iff] at h
  obtain ⟨_, found, heq⟩ := h
  obtain ⟨rfl, rfl⟩ := Prod.mk.inj heq
  rcases Option.or_eq_some_iff.mp found with above | ⟨noneAbove, head⟩
  · obtain ⟨mem, kAbove, lowest⟩ := find?_le_of_ascending ascending above
    simp only [decide_eq_true_eq] at kAbove lowest
    exact ⟨mem, rfl, fun _ => ⟨kAbove, lowest⟩, fun allBelow => absurd kAbove (allBelow _ mem).not_gt⟩
  · obtain ⟨mem, lowest⟩ := head?_le_of_ascending ascending head
    simp only [List.find?_eq_none, decide_eq_true_eq] at noneAbove
    exact ⟨mem, rfl, fun ⟨j, hj, jAbove⟩ => absurd jAbove (noneAbove j hj), fun _ => lowest⟩

end

/-! ### Selection with the overflow group (R34, R35, R39) -/

theorem destinationGroup_of_number {g : GroupId} {n : Destination} (h : n.val = g.val + 1) :
    destinationGroup n = some g := by
  have bound := g.isLt
  rw [destinationGroup, groupOf, dif_pos (by omega)]
  simp [h]

/-- R34: the reject group. -/
theorem State.select_rejectGroup (s : State) (l : Lane) (given : Option OutletId) :
    s.select l 0 given = (.bin, .rejectGroup, s) := rfl

section
variable {s t : State} {l : Lane} {given : Option OutletId} {g h : GroupId} {n : Destination} {k : OutletId}

theorem State.select_primary (number : n.val = g.val + 1) (chosen : s.choose g l given = some (k, t)) :
    s.select l n given = (.outlet k, .primary, t) := by
  simp only [State.select, destinationGroup_of_number number, chosen]

theorem State.select_no_overflow (number : n.val = g.val + 1) (nothing : s.choose g l given = none)
    (overflow : (s.group g).overflow = none) : s.select l n given = (.bin, .noOutlet, s) := by
  simp only [State.select, destinationGroup_of_number number, nothing, overflow]

theorem State.select_overflow (number : n.val = g.val + 1) (nothing : s.choose g l given = none)
    (overflow : (s.group g).overflow = some h) (chosen : s.choose h l given = some (k, t)) :
    s.select l n given = (.outlet k, .overflow, t) := by
  simp only [State.select, destinationGroup_of_number number, nothing, overflow, chosen]

/-- R39: the overflow group's own overflow group is not followed. -/
theorem State.select_overflow_none (number : n.val = g.val + 1) (nothing : s.choose g l given = none)
    (overflow : (s.group g).overflow = some h) (nothingThere : s.choose h l given = none) :
    s.select l n given = (.bin, .noOutlet, s) := by
  simp only [State.select, destinationGroup_of_number number, nothing, overflow, nothingThere]

end

/-! ### The statement -/

/-- Settles O49: the choice by the policies, each among the candidates of R35, then the overflow group. -/
theorem selectionFollowsPolicyAndOverflow : Obligations.SelectionFollowsPolicyAndOverflow := by
  unfold Obligations.SelectionFollowsPolicyAndOverflow
  constructor
  · intro s g l given
    simp only [← State.loadSeen_eq, ← State.mem_candidates_iff]
    refine ⟨by rw [State.choose_eq_none_iff, List.eq_nil_iff_forall_not_mem], fun k t chosen => ?_⟩
    split
    next policy => exact State.choose_first_spec policy chosen
    next policy => exact State.choose_least_spec policy chosen
    next policy => exact State.choose_rotate_spec policy chosen
  · intro s l given
    refine ⟨s.select_rejectGroup l given, fun g n number => ⟨fun k t => State.select_primary number, ?_⟩⟩
    intro nothing
    refine ⟨State.select_no_overflow number nothing, fun h overflow => ⟨fun k t => ?_, ?_⟩⟩
    · exact State.select_overflow number nothing overflow
    · exact State.select_overflow_none number nothing overflow

end Sys2Proof.Machine
end

section
/-!
PROOF. Obligation O9: every step leaves URGENT and ROUTINE showing what the attention list holds (R162). An event
leaves the list and the two lines as they were, or completes a changing step, or refreshes the lines itself.
-/
namespace Sys2Proof.Machine

/-! ### Updates that leave the list and the lines as they were (R162) -/

/-- R162: the law speaks of the attention list and the two lines alone. -/
theorem State.linesLaw_congr {s t : State} (attention : t.store.attention = s.store.attention)
    (urgent : t.urgentLine = s.urgentLine) (routine : t.routineLine = s.routineLine) :
    t.linesLaw ↔ s.linesLaw := by
  simp only [State.linesLaw, attention, urgent, routine]

theorem State.setGroup_linesLaw (s : State) (g : GroupId) (e : GroupEntry) :
    (s.setGroup g e).linesLaw ↔ s.linesLaw := .rfl
theorem State.setRule_linesLaw (s : State) (n : RuleId) (e : RuleEntry) :
    (s.setRule n e).linesLaw ↔ s.linesLaw := .rfl
theorem State.setCursor_linesLaw (s : State) (c : CursorId) (v : Cursor) :
    (s.setCursor c v).linesLaw ↔ s.linesLaw := .rfl
theorem State.placeCursor_linesLaw (s : State) (c : CursorId) (p : Position) :
    (s.placeCursor c p).linesLaw ↔ s.linesLaw := .rfl
theorem State.moveCursor_linesLaw (s : State) (c : CursorId) (p : Position) :
    (s.moveCursor c p).linesLaw ↔ s.linesLaw := .rfl
@[simp] theorem State.setLane_linesLaw (s : State) (l : Lane) (u : LaneUnit) :
    (s.setLane l u).linesLaw ↔ s.linesLaw := .rfl
@[simp] theorem State.onLane_linesLaw (s : State) (l : Lane) (f : LaneUnit → LaneUnit) :
    (s.onLane l f).linesLaw ↔ s.linesLaw := .rfl
@[simp] theorem State.setHost_linesLaw (s : State) (u : HostEngine) : (s.setHost u).linesLaw ↔ s.linesLaw := .rfl
@[simp] theorem State.requestLaneStep_linesLaw (s : State) (l : Lane) :
    (s.requestLaneStep l).linesLaw ↔ s.linesLaw := .rfl
@[simp] theorem State.respond_linesLaw (s : State) (c : Byte) (st : Status) (ws : List Word) :
    (s.respond c st ws).linesLaw ↔ s.linesLaw := .rfl
/-- R168: the pins stand outside the part. -/
theorem State.withPins_linesLaw (s t : State) (asserted : Bool) :
    (s.withPins t asserted).linesLaw ↔ t.linesLaw := .rfl

@[simp] theorem State.arbitrate_linesLaw (s : State) : s.arbitrate.linesLaw ↔ s.linesLaw :=
  State.linesLaw_congr (by simp) (by simp) (by simp)
@[simp] theorem State.truncateReception_linesLaw (s : State) : s.truncateReception.linesLaw ↔ s.linesLaw :=
  State.linesLaw_congr (by simp) (by simp) (by simp)
@[simp] theorem State.beginFrame_linesLaw (s : State) (c n : Byte) : (s.beginFrame c n).linesLaw ↔ s.linesLaw :=
  State.linesLaw_congr (by simp) (by simp) (by simp)
@[simp] theorem State.acceptCommand_linesLaw (s : State) (c : Byte) (j : List Word → Judged) (b : List Word) :
    (s.acceptCommand c j b).linesLaw ↔ s.linesLaw :=
  State.linesLaw_congr (by simp) (by simp) (by simp)
@[simp] theorem State.abortCommand_linesLaw (s : State) : s.abortCommand.linesLaw ↔ s.linesLaw :=
  State.linesLaw_congr (by simp) (by simp) (by simp)
/-- R127: the host engine's end of a step leaves the list and the lines as the step's work left them. -/
@[simp] theorem State.completeHostStep_linesLaw (s : State) (f : InFlight) (r : StepResult) :
    (s.completeHostStep f r).linesLaw ↔ s.linesLaw :=
  State.linesLaw_congr (by simp) (by simp) (by simp)
/-- R117: a lane unit's end of a step leaves the list and the lines as the step's work left them. -/
@[simp] theorem State.completeLaneStep_linesLaw (s : State) (l : Lane) (m : Option Message) (takeUp : Bool) :
    (s.completeLaneStep l m takeUp).linesLaw ↔ s.linesLaw :=
  State.linesLaw_congr (by simp) (by simp) (by simp)
@[simp] theorem State.takeUp_linesLaw (s : State) (l : Lane) : (s.takeUp l).linesLaw ↔ s.linesLaw :=
  State.linesLaw_congr (by simp) (by simp) (by simp)

theorem State.restartArrives_linesLaw (s : State) (l : Lane) : (s.restartArrives l).linesLaw ↔ s.linesLaw := by
  unfold State.restartArrives
  dsimp only
  split <;> simp

theorem State.tick_linesLaw (s : State) : s.tick.linesLaw ↔ s.linesLaw := by
  unfold State.tick
  split <;> exact .rfl

/-! ### Updates that refresh the lines (R162) -/

theorem State.reset_linesLaw : State.reset.linesLaw := by simp [State.linesLaw, State.reset, Store.reset]

/-- R158, R162: a step whose only effect is on the attention list refreshes the lines. -/
theorem State.noteReasons_linesLaw (s : State) (xs : List (Subject × Reason)) : (s.noteReasons xs).linesLaw :=
  State.refreshLines_linesLaw _

/-- R154: the finish of RESET DIRECTORY refreshes the lines. -/
theorem State.finishReset_linesLaw (s : State) : s.finishReset.linesLaw := State.refreshLines_linesLaw _

section
variable {s : State} (hs : s.linesLaw)
include hs

/-! ### The host channel (chapter 8) -/

/-- R124: receiving a frame changes the host engine alone, apart from what is done with the frame. -/
theorem State.takeFrame_linesLaw (code : Byte) (body : List Word) {k : State → State}
    (hk : ∀ t : State, t.linesLaw → (k t).linesLaw) : (s.takeFrame code body k).linesLaw := by
  unfold State.takeFrame
  dsimp only
  split
  · exact hs
  · split
    next => exact hk _ ((s.setHost_linesLaw _).mpr hs)
    next =>
      have begun := (s.beginFrame_linesLaw code (receptionOf code body).length).mpr hs
      split
      · exact hk _ ((State.setHost_linesLaw _ _).mpr begun)
      · exact begun

theorem State.takePart_linesLaw (code : Byte) {k : List Word → State → State}
    (hk : ∀ body (t : State), t.linesLaw → (k body t).linesLaw) (part : FramePart) :
    (s.takePart code k part).linesLaw := by
  cases part with
  | header length =>
    have begun : (s.beginFrame code length).linesLaw := (s.beginFrame_linesLaw code length).mpr hs
    simp only [State.takePart]
    split
    · exact State.takeFrame_linesLaw begun code [] (hk [])
    · exact begun
  | received body => exact State.takeFrame_linesLaw hs code body (hk body)

theorem State.commandFrame_linesLaw (code : Byte) (judge : List Word → Judged) (part : FramePart) :
    (s.commandFrame code judge part).linesLaw :=
  State.takePart_linesLaw hs code (fun body t => (t.acceptCommand_linesLaw code judge body).mpr) part

theorem State.bareCommand_linesLaw (code : Byte) {work : State → State}
    (hwork : ∀ t : State, t.linesLaw → (work t).linesLaw) (part : FramePart) :
    (s.bareCommand code work part).linesLaw := by
  refine State.takePart_linesLaw hs code (fun body t ht => ?_) part
  split
  · exact hwork t ht
  · exact (t.respond_linesLaw code .badFrame []).mpr ht

theorem State.truncateFrame_linesLaw (code : Byte) : (s.truncateFrame code).linesLaw := by
  unfold State.truncateFrame
  split
  · exact hs
  · split <;> simpa using hs

theorem State.refuseCode_linesLaw (code : Byte) : (s.refuseCode code).linesLaw := by
  unfold State.refuseCode
  split <;> simpa using hs

theorem State.readWords_linesLaw (words : Nat) : (s.readWords words).linesLaw := by
  have truncated : s.truncateReception.linesLaw := s.truncateReception_linesLaw.mpr hs
  unfold State.readWords
  split
  · exact hs
  · dsimp only
    split
    · exact truncated
    · split <;> exact truncated

theorem State.takeAbort_linesLaw : s.takeAbort.linesLaw := by
  unfold State.takeAbort
  split <;> simpa using hs

/-- R131: the reset of the host channel aborts the command in flight, and leaves the attention list as it is. -/
theorem State.assertHostReset_linesLaw : s.assertHostReset.linesLaw := by
  unfold State.assertHostReset
  split <;> simpa using hs

end

/-! ### What an event hands on -/

/-- Where a step of a single-step command does its work, the lines show what the attention list holds. -/
def resultLinesLaw : Option (State × Status × List Word) → Prop
  | none => True
  | some (t, _, _) => t.linesLaw

/-- The event takes effect, and leaves the lines showing what the attention list holds. -/
def nextLinesLaw (o : Host.Outcome State Fault Refusal) : Prop := ∃ t, o = .next t ∧ t.linesLaw

section
variable {s : State} (hs : s.linesLaw)
include hs

/-! ### Single-step commands (R119, R127) -/

theorem State.singleStep_linesLaw {work : HostCommand → Option (State × Status × List Word)}
    (hwork : ∀ c, resultLinesLaw (work c)) : (s.singleStep work).linesLaw := by
  unfold State.singleStep
  split
  · exact hs
  next f _ =>
    have done := hwork f.command
    split
    · exact hs
    next t status results found =>
      rw [found] at done
      exact (t.completeHostStep_linesLaw f (.done status results)).mpr done

theorem State.singleCommand_linesLaw (code : Byte) (judge : List Word → Judged)
    {work : HostCommand → Option (State × Status × List Word)} (hwork : ∀ c, resultLinesLaw (work c))
    (part : CommandPart) : (s.singleCommand code judge work part).linesLaw := by
  cases part with
  | header length => exact State.commandFrame_linesLaw hs code judge (.header length)
  | received body => exact State.commandFrame_linesLaw hs code judge (.received body)
  | step => exact State.singleStep_linesLaw hs hwork

/-! ### The steps of the commands on records (chapters 1 and 5) -/

/-- R13: a creation completes a changing step, and a refusal changes nothing. -/
theorem State.createItem_linesLaw (d : ItemDefinition) : (s.createItem d).2.linesLaw := by
  unfold State.createItem
  split
  · exact hs
  · split
    · exact hs
    · exact commit_linesLaw _ _ _

theorem createItemStep_linesLaw (c : HostCommand) : resultLinesLaw (createItemStep s c) := by
  unfold createItemStep
  split
  · exact State.createItem_linesLaw hs _
  · trivial

theorem readItemStep_linesLaw (c : HostCommand) : resultLinesLaw (readItemStep s c) := by
  unfold readItemStep
  split
  · split <;> exact hs
  · trivial

theorem amendOk_linesLaw (ref : Ref) (note : Word) (target : Option Place) :
    resultLinesLaw (amendOk s ref note target) := hs

omit hs in
/-- R85 to R87: every outcome for a ROUTED record completes a changing step. -/
theorem amendRouted_linesLaw (before s1 : State) (old r1 : ItemRecord) (assigned : Place) (ordinal : Word32) :
    resultLinesLaw (amendRouted before s1 old r1 assigned ordinal) := by
  unfold amendRouted
  split
  · dsimp only
    split_ifs <;> exact amendOk_linesLaw (commit_linesLaw _ _ _) _ _ _
  · exact amendOk_linesLaw (commit_linesLaw _ _ _) _ _ _

theorem amendItemStep_linesLaw (c : HostCommand) : resultLinesLaw (amendItemStep s c) := by
  unfold amendItemStep
  split
  · split
    · exact hs
    · split
      · exact hs
      · dsimp only
        split
        · exact hs
        · exact amendRouted_linesLaw _ _ _ _ _ _
        · exact amendOk_linesLaw (commit_linesLaw _ _ _) _ _ _
  · trivial

theorem restoreItemStep_linesLaw (c : HostCommand) : resultLinesLaw (restoreItemStep s c) := by
  unfold restoreItemStep
  split
  · split
    · exact hs
    · split
      · exact commit_linesLaw _ _ _
      · exact commit_linesLaw _ _ _
      all_goals exact hs
  · trivial

theorem retireItemStep_linesLaw (c : HostCommand) : resultLinesLaw (retireItemStep s c) := by
  unfold retireItemStep
  split
  · split
    · exact hs
    · split
      · exact hs
      · exact commit_linesLaw _ _ _
  · trivial

/-! ### The steps of the commands on outlets, groups and rules (chapters 2 and 3) -/

theorem outletOk_linesLaw (k : OutletId) : resultLinesLaw (outletOk s k) := hs

theorem defineOutletStep_linesLaw (c : HostCommand) : resultLinesLaw (defineOutletStep s c) := by
  unfold defineOutletStep
  split
  · split
    · exact hs
    · exact outletOk_linesLaw (commit_linesLaw _ _ _) _
  · trivial

theorem undefineOutletStep_linesLaw (c : HostCommand) : resultLinesLaw (undefineOutletStep s c) := by
  unfold undefineOutletStep
  split
  · split
    · exact hs
    · split
      · exact hs
      · exact commit_linesLaw _ _ _
  · trivial

/-- R42 to R44: a change of a defined outlet completes a changing step, and a refusal changes nothing. -/
theorem changeOutlet_linesLaw (k : OutletId) (f : OutletEntry → OutletDefinition → OutletEntry) :
    resultLinesLaw (changeOutlet s k f) := by
  unfold changeOutlet
  split
  · exact hs
  · exact outletOk_linesLaw (commit_linesLaw _ _ _) _

theorem setCapacityStep_linesLaw (c : HostCommand) : resultLinesLaw (setCapacityStep s c) := by
  unfold setCapacityStep
  split
  · exact changeOutlet_linesLaw hs _ _
  · trivial

theorem closeOutletStep_linesLaw (c : HostCommand) : resultLinesLaw (closeOutletStep s c) := by
  unfold closeOutletStep
  split
  · exact changeOutlet_linesLaw hs _ _
  · trivial

theorem openOutletStep_linesLaw (c : HostCommand) : resultLinesLaw (openOutletStep s c) := by
  unfold openOutletStep
  split
  · exact changeOutlet_linesLaw hs _ _
  · trivial

theorem readOutletStep_linesLaw (c : HostCommand) : resultLinesLaw (readOutletStep s c) := by
  unfold readOutletStep
  split
  · exact hs
  · exact hs
  · trivial

theorem defineGroupStep_linesLaw (c : HostCommand) : resultLinesLaw (defineGroupStep s c) := by
  unfold defineGroupStep
  split
  · exact (s.setGroup_linesLaw _ _).mpr hs
  · trivial

theorem readGroupStep_linesLaw (c : HostCommand) : resultLinesLaw (readGroupStep s c) := by
  unfold readGroupStep
  split
  · exact hs
  · trivial

theorem writeRuleStep_linesLaw (c : HostCommand) : resultLinesLaw (writeRuleStep s c) := by
  unfold writeRuleStep
  split
  · exact (s.setRule_linesLaw _ _).mpr hs
  · trivial

theorem readRuleStep_linesLaw (c : HostCommand) : resultLinesLaw (readRuleStep s c) := by
  unfold readRuleStep
  split
  · exact hs
  · trivial

/-! ### The steps of the commands on lanes (chapter 6) -/

theorem startLaneStep_linesLaw (c : HostCommand) : resultLinesLaw (startLaneStep s c) := by
  unfold startLaneStep
  split
  · exact (s.setLane_linesLaw _ _).mpr hs
  · trivial

/-- R109: a stop that finds nothing routed notes DRAINED; any other leaves the attention list as it is. -/
theorem State.stopLane_linesLaw (l : Lane) : (s.stopLane l).linesLaw := by
  unfold State.stopLane
  split
  · split
    · exact State.noteReasons_linesLaw _ _
    · exact (s.setLane_linesLaw _ _).mpr hs
  all_goals exact hs

theorem stopLaneStep_linesLaw (c : HostCommand) : resultLinesLaw (stopLaneStep s c) := by
  unfold stopLaneStep
  split
  · exact State.stopLane_linesLaw hs _
  · trivial

theorem setLaneParametersStep_linesLaw (c : HostCommand) : resultLinesLaw (setLaneParametersStep s c) := by
  unfold setLaneParametersStep
  split
  · exact (s.setLane_linesLaw _ _).mpr hs
  · trivial

theorem readLaneStep_linesLaw (c : HostCommand) : resultLinesLaw (readLaneStep s c) := by
  unfold readLaneStep
  split
  · exact hs
  · trivial

/-! ### The steps of the commands on cursors and on the attention list (chapters 9 and 11) -/

theorem State.placed_linesLaw (c : CursorId) (v : View) (p : Position) : resultLinesLaw (s.placed c v p) :=
  (s.setCursor_linesLaw _ _).mpr hs

theorem setCursorStep_linesLaw (c : HostCommand) : resultLinesLaw (setCursorStep s c) := by
  unfold setCursorStep
  split
  · exact State.placed_linesLaw hs _ _ _
  · exact State.placed_linesLaw hs _ _ _
  · exact State.placed_linesLaw hs _ _ _
  · split
    · exact hs
    · split
      · exact State.placed_linesLaw hs _ _ _
      · exact hs
  · trivial

theorem readItemByCursorStep_linesLaw (c : HostCommand) : resultLinesLaw (readItemByCursorStep s c) := by
  unfold readItemByCursorStep
  split
  · exact (s.placeCursor_linesLaw _ _).mpr hs
  · trivial

/-- R160, R162: the taking of an entry refreshes the lines. -/
theorem takeAttentionStep_linesLaw (c : HostCommand) : resultLinesLaw (takeAttentionStep s c) := by
  unfold takeAttentionStep
  split
  · split
    · exact hs
    · exact State.refreshLines_linesLaw _
  · trivial

theorem peekAttentionStep_linesLaw (c : HostCommand) : resultLinesLaw (peekAttentionStep s c) := by
  unfold peekAttentionStep
  split
  · split <;> exact hs
  · trivial

/-! ### The steps of the long commands (R119) -/

theorem State.loadManifestItem_linesLaw : s.loadManifestItem.linesLaw := by
  unfold State.loadManifestItem
  split
  · exact hs
  · split
    · split
      · exact hs
      · exact (State.completeHostStep_linesLaw _ _ _).mpr (State.createItem_linesLaw hs _)
    · exact hs

theorem searchEnds_linesLaw (q : SearchQuery) (f : InFlight) (p : Position) (status : Status) (examined : Nat)
    (results : List Word) : (searchEnds s q f p status examined results).linesLaw :=
  (State.completeHostStep_linesLaw _ _ _).mpr ((s.placeCursor_linesLaw _ _).mpr hs)

/-- R144: a step of a search ends the search or moves its cursor on. -/
theorem searchExamine_linesLaw (q : SearchQuery) (f : InFlight) (p : Position) :
    (searchExamine s q f p).linesLaw := by
  have ends := searchEnds_linesLaw hs q f
  unfold searchExamine
  dsimp only
  split
  · split
    · exact ends _ _ _ _
    · split
      · exact ends _ _ _ _
      · split
        · split
          · exact ends _ _ _ _
          · exact (State.completeHostStep_linesLaw _ _ _).mpr ((s.moveCursor_linesLaw _ _).mpr hs)
        · exact ends _ _ _ _
  · exact ends _ _ _ _

theorem State.searchStep_linesLaw : s.searchStep.linesLaw := by
  unfold State.searchStep
  split
  · exact hs
  · split
    · split
      · exact searchExamine_linesLaw ((s.placeCursor_linesLaw _ _).mpr hs) _ _ _
      · exact searchExamine_linesLaw hs _ _ _
    · exact hs

omit hs in
/-- R117, R162: a changing step of a long command ends or goes on with the lines refreshed. -/
theorem commit_completeHostStep_linesLaw (before after : State) (xs : List (Subject × Reason)) (f : InFlight)
    (r : StepResult) : ((commit before after xs).completeHostStep f r).linesLaw :=
  (State.completeHostStep_linesLaw _ _ _).mpr (commit_linesLaw _ _ _)

theorem State.clearStart_linesLaw : s.clearStart.linesLaw := by
  unfold State.clearStart
  split
  · exact hs
  · split
    · split
      · exact (s.completeHostStep_linesLaw _ _).mpr hs
      · exact commit_completeHostStep_linesLaw _ _ _ _ _
    · exact hs

theorem State.clearRetire_linesLaw : s.clearRetire.linesLaw := by
  unfold State.clearRetire
  split
  · exact hs
  · split
    · split
      · exact hs
      · exact commit_completeHostStep_linesLaw _ _ _ _ _
    · exact hs

theorem State.clearFinish_linesLaw : s.clearFinish.linesLaw := by
  unfold State.clearFinish
  split
  · exact hs
  · split
    · split
      · exact hs
      · exact commit_completeHostStep_linesLaw _ _ _ _ _
    · exact hs

theorem State.clearEnding_linesLaw : s.clearEnding.linesLaw := by
  unfold State.clearEnding
  split
  · exact hs
  · split
    · exact hs
    · exact commit_completeHostStep_linesLaw _ _ _ _ _

theorem State.resetRetire_linesLaw : s.resetRetire.linesLaw := by
  unfold State.resetRetire
  split
  · exact hs
  · split
    · exact (s.completeHostStep_linesLaw _ _).mpr hs
    · split
      · exact hs
      · exact commit_completeHostStep_linesLaw _ _ _ _ _

theorem State.resetFinish_linesLaw : s.resetFinish.linesLaw := by
  unfold State.resetFinish
  split
  · exact hs
  · split
    · exact hs
    · split
      · exact hs
      · exact (State.completeHostStep_linesLaw _ _ _).mpr s.finishReset_linesLaw

/-! ### The steps of the lane units (chapters 3 to 6) -/

omit hs in
theorem routeFromGroup_linesLaw (before t : State) (l : Lane) (ref : Ref) (g : Destination)
    (primary : AnswerReason) : (routeFromGroup before t l ref g primary).state.linesLaw :=
  commit_linesLaw _ _ _

omit hs in
/-- R58 to R60: a route completes a changing step, whatever the group choice. -/
theorem routeRecord_linesLaw (before t : State) (l : Lane) (r : ItemRecord) (lapLimit : Nat)
    (holdGroup : Destination) : (routeRecord before t l r lapLimit holdGroup).state.linesLaw := by
  unfold routeRecord
  split
  · exact commit_linesLaw _ _ _
  · exact routeFromGroup_linesLaw _ _ _ _ _ _
  · exact routeFromGroup_linesLaw _ _ _ _ _ _

theorem State.lookupUnknown_linesLaw (l : Lane) (key : Key) : (s.lookupUnknown l key).state.linesLaw := by
  unfold State.lookupUnknown
  split
  · exact hs
  · split
    · exact s.noteReasons_linesLaw _
    · split
      · exact hs
      · exact routeFromGroup_linesLaw _ _ _ _ _ _

theorem State.lookupRoute_linesLaw (l : Lane) (r : ItemRecord) (lapLimit : Nat) (holdGroup : Destination) :
    (s.lookupRoute l r lapLimit holdGroup).state.linesLaw := by
  unfold State.lookupRoute
  split
  · exact hs
  · exact routeRecord_linesLaw _ _ _ _ _ _

theorem State.lookupFound_linesLaw (l : Lane) (r : ItemRecord) (lapLimit : Nat) (holdGroup : Destination) :
    (s.lookupFound l r lapLimit holdGroup).state.linesLaw := by
  unfold State.lookupFound
  split
  · split
    · exact hs
    · exact State.lookupRoute_linesLaw hs _ _ _ _
  all_goals exact State.lookupRoute_linesLaw hs _ _ _ _

theorem State.serveLookup_linesLaw (l : Lane) (key : Key) (lapLimit : Nat) (holdGroup : Destination) :
    (s.serveLookup l key lapLimit holdGroup).state.linesLaw := by
  unfold State.serveLookup
  split
  · exact hs
  · split
    · exact State.lookupUnknown_linesLaw hs _ _
    · exact State.lookupFound_linesLaw hs _ _ _ _

omit hs in
theorem State.fileArrival_linesLaw (t : State) (k : OutletId) (r : ItemRecord) (stray : Bool) :
    (t.fileArrival k r stray).linesLaw :=
  commit_linesLaw _ _ _

omit hs in
theorem State.confirmRouted_linesLaw (t : State) (k : OutletId) (r : ItemRecord) (assigned : Place)
    (pending : Option Place) : (t.confirmRouted k r assigned pending).2.linesLaw := by
  unfold State.confirmRouted
  split
  · exact State.fileArrival_linesLaw _ _ _ _
  · split <;> exact State.fileArrival_linesLaw _ _ _ _

theorem State.confirmRecord_linesLaw (l : Lane) (k : OutletId) (r : ItemRecord) :
    (s.confirmRecord l k r).2.linesLaw := by
  unfold State.confirmRecord
  split
  · split
    · exact hs
    · exact State.fileArrival_linesLaw _ _ _ _
  · split
    · exact State.confirmRouted_linesLaw _ _ _ _ _
    · exact State.fileArrival_linesLaw _ _ _ _
  all_goals exact State.fileArrival_linesLaw _ _ _ _

theorem State.confirmAtOutlet_linesLaw (l : Lane) (k : OutletId) (key : Key) :
    (s.confirmAtOutlet l k key).2.linesLaw := by
  unfold State.confirmAtOutlet
  split
  · exact commit_linesLaw _ _ _
  · exact State.confirmRecord_linesLaw hs _ _ _

theorem State.confirmAtBin_linesLaw (key : Key) : (s.confirmAtBin key).2.linesLaw := by
  unfold State.confirmAtBin
  split
  · exact hs
  · split
    · exact hs
    · exact commit_linesLaw _ _ _

theorem State.serveConfirm_linesLaw (l : Lane) (key : Key) (outlet : Byte) :
    (s.serveConfirm l key outlet).2.linesLaw := by
  unfold State.serveConfirm
  split
  · exact State.confirmAtBin_linesLaw hs _
  · split
    · split
      · exact State.confirmAtOutlet_linesLaw hs _ _ _
      · exact s.noteReasons_linesLaw _
    · exact s.noteReasons_linesLaw _

theorem State.serveMiss_linesLaw (l : Lane) (key : Key) : (s.serveMiss l key).2.linesLaw := by
  unfold State.serveMiss
  split
  · exact hs
  · split
    · exact commit_linesLaw _ _ _
    · exact hs

theorem State.serveLateNotice_linesLaw (key : Key) : (s.serveLateNotice key).linesLaw := by
  unfold State.serveLateNotice
  split
  · exact s.noteReasons_linesLaw _
  · exact hs

theorem State.serveTaken_linesLaw (l : Lane) (e : ReviseEntry) : (s.serveTaken l e).linesLaw := by
  unfold State.serveTaken
  split
  · exact hs
  · split <;> exact commit_linesLaw _ _ _

theorem State.serveTooLate_linesLaw (l : Lane) (e : ReviseEntry) : (s.serveTooLate l e).linesLaw := by
  unfold State.serveTooLate
  split
  · exact hs
  · exact commit_linesLaw _ _ _

theorem State.serveExpired_linesLaw (l : Lane) (e : ReviseEntry) : (s.serveExpired l e).linesLaw := by
  unfold State.serveExpired
  split
  · exact hs
  · exact commit_linesLaw _ _ _

/-! ### The events (R162) -/

omit hs in
/-- R168: power-on reset leaves an empty list and both lines released. -/
theorem execPowerOnReset_linesLaw (part : PowerOnPart)
    (full : ∀ heldMicros, part = .released heldMicros → Config.powerOnMicros ≤ heldMicros) :
    nextLinesLaw (execPowerOnReset part s) := by
  refine ⟨_, rfl, ?_⟩
  cases part with
  | asserted => exact (s.withPins_linesLaw _ _).mpr State.reset_linesLaw
  | released heldMicros =>
    show (s.releasePowerOn heldMicros).linesLaw
    rw [s.releasePowerOn_full heldMicros (full heldMicros rfl)]
    exact (s.withPins_linesLaw _ _).mpr State.reset_linesLaw

theorem execBadFrame_linesLaw (part : BadFramePart) : nextLinesLaw (execBadFrame part s) := by
  have refused (code : Byte) := State.takePart_linesLaw hs code (k := fun _ t => t.refuseCode code)
    fun _ _ ht => State.refuseCode_linesLaw ht code
  cases part with
  | header code length => exact ⟨_, rfl, refused code (.header length)⟩
  | received code body => exact ⟨_, rfl, refused code (.received body)⟩
  | truncated code => exact ⟨_, rfl, State.truncateFrame_linesLaw hs code⟩

/-- R168: a frame of a lane link that leaves the law in place does so whether or not the pin loses it. -/
theorem State.fromLink_linesLaw {t : State} (ht : t.linesLaw) : (s.fromLink t).linesLaw := by
  unfold State.fromLink
  split
  · exact hs
  · exact ht

theorem State.receive_linesLaw (l : Lane) (key : Key) (r : Request) : (s.receive l key r).linesLaw :=
  State.fromLink_linesLaw hs ((s.onLane_linesLaw l _).mpr hs)

theorem execDiscardedFrame_linesLaw (l : Lane) (bytes : List Byte) :
    nextLinesLaw (execDiscardedFrame l bytes s) := by
  refine ⟨_, rfl, State.fromLink_linesLaw hs ?_⟩
  split
  · exact (s.onLane_linesLaw l _).mpr hs
  · exact hs

theorem execLookupStep_linesLaw (l : Lane) (takeUp : Bool) : nextLinesLaw (execLookupStep l takeUp s) := by
  refine ⟨_, rfl, ?_⟩
  split
  · exact (State.completeLaneStep_linesLaw _ _ _ _).mpr (State.serveLookup_linesLaw hs _ _ _ _)
  · exact hs

theorem execConfirmStep_linesLaw (l : Lane) (takeUp : Bool) : nextLinesLaw (execConfirmStep l takeUp s) := by
  refine ⟨_, rfl, ?_⟩
  split
  · exact (State.completeLaneStep_linesLaw _ _ _ _).mpr (State.serveConfirm_linesLaw hs _ _ _)
  · exact hs

theorem execMissStep_linesLaw (l : Lane) (takeUp : Bool) : nextLinesLaw (execMissStep l takeUp s) := by
  refine ⟨_, rfl, ?_⟩
  split
  · exact (State.completeLaneStep_linesLaw _ _ _ _).mpr (State.serveMiss_linesLaw hs _ _)
  · exact hs

theorem execRestartStep_linesLaw (l : Lane) (takeUp : Bool) : nextLinesLaw (execRestartStep l takeUp s) := by
  refine ⟨_, rfl, ?_⟩
  split
  · exact (State.completeLaneStep_linesLaw _ _ _ _).mpr (commit_linesLaw _ _ _)
  · exact hs

theorem execLateNoticeStep_linesLaw (l : Lane) (takeUp : Bool) :
    nextLinesLaw (execLateNoticeStep l takeUp s) := by
  refine ⟨_, rfl, ?_⟩
  split
  · exact (State.completeLaneStep_linesLaw _ _ _ _).mpr (State.serveLateNotice_linesLaw hs _)
  · exact hs

theorem execLinkFaultNoticeStep_linesLaw (l : Lane) (takeUp : Bool) :
    nextLinesLaw (execLinkFaultNoticeStep l takeUp s) := by
  refine ⟨_, rfl, ?_⟩
  split
  · exact (State.completeLaneStep_linesLaw _ _ _ _).mpr (s.noteReasons_linesLaw _)
  · exact hs

theorem execAnsweredTakenStep_linesLaw (l : Lane) (takeUp : Bool) :
    nextLinesLaw (execAnsweredTakenStep l takeUp s) := by
  refine ⟨_, rfl, ?_⟩
  split
  · exact (State.completeLaneStep_linesLaw _ _ _ _).mpr (State.serveTaken_linesLaw hs _ _)
  · exact hs

theorem execAnsweredTooLateStep_linesLaw (l : Lane) (takeUp : Bool) :
    nextLinesLaw (execAnsweredTooLateStep l takeUp s) := by
  refine ⟨_, rfl, ?_⟩
  split
  · exact (State.completeLaneStep_linesLaw _ _ _ _).mpr (State.serveTooLate_linesLaw hs _ _)
  · exact hs

theorem execExpiredStep_linesLaw (l : Lane) (takeUp : Bool) : nextLinesLaw (execExpiredStep l takeUp s) := by
  refine ⟨_, rfl, ?_⟩
  split
  · exact (State.completeLaneStep_linesLaw _ _ _ _).mpr (State.serveExpired_linesLaw hs _ _)
  · exact hs

/-- R162: every event but a release of too short a power-on reset leaves the lines as the law says. -/
theorem exec_linesLaw (i : Instr)
    (full : ∀ heldMicros, i = .powerOnReset (.released heldMicros) → Config.powerOnMicros ≤ heldMicros) :
    nextLinesLaw (exec i s) := by
  cases i with
  | powerOnReset part => exact execPowerOnReset_linesLaw part fun n e => full n (congrArg _ e)
  | hostChannelReset => exact ⟨_, rfl, State.assertHostReset_linesLaw hs⟩
  | hostChannelResetRelease => exact ⟨_, rfl, (s.setHost_linesLaw _).mpr hs⟩
  | badFrame part => exact execBadFrame_linesLaw hs part
  | readResponse words => exact ⟨_, rfl, State.readWords_linesLaw hs words⟩
  | readStatus part =>
    exact ⟨_, rfl, State.bareCommand_linesLaw hs _ (fun t => (t.respond_linesLaw _ _ _).mpr) part⟩
  | abort part => exact ⟨_, rfl, State.bareCommand_linesLaw hs _ (fun _ => State.takeAbort_linesLaw) part⟩
  | createItem part => exact ⟨_, rfl, State.singleCommand_linesLaw hs _ _ (createItemStep_linesLaw hs) part⟩
  | readItem part => exact ⟨_, rfl, State.singleCommand_linesLaw hs _ _ (readItemStep_linesLaw hs) part⟩
  | readItemByCursor part =>
    exact ⟨_, rfl, State.singleCommand_linesLaw hs _ _ (readItemByCursorStep_linesLaw hs) part⟩
  | amendItem part => exact ⟨_, rfl, State.singleCommand_linesLaw hs _ _ (amendItemStep_linesLaw hs) part⟩
  | restoreItem part => exact ⟨_, rfl, State.singleCommand_linesLaw hs _ _ (restoreItemStep_linesLaw hs) part⟩
  | retireItem part => exact ⟨_, rfl, State.singleCommand_linesLaw hs _ _ (retireItemStep_linesLaw hs) part⟩
  | defineOutlet part =>
    exact ⟨_, rfl, State.singleCommand_linesLaw hs _ _ (defineOutletStep_linesLaw hs) part⟩
  | undefineOutlet part =>
    exact ⟨_, rfl, State.singleCommand_linesLaw hs _ _ (undefineOutletStep_linesLaw hs) part⟩
  | setCapacity part => exact ⟨_, rfl, State.singleCommand_linesLaw hs _ _ (setCapacityStep_linesLaw hs) part⟩
  | closeOutlet part => exact ⟨_, rfl, State.singleCommand_linesLaw hs _ _ (closeOutletStep_linesLaw hs) part⟩
  | openOutlet part => exact ⟨_, rfl, State.singleCommand_linesLaw hs _ _ (openOutletStep_linesLaw hs) part⟩
  | readOutlet part => exact ⟨_, rfl, State.singleCommand_linesLaw hs _ _ (readOutletStep_linesLaw hs) part⟩
  | defineGroup part => exact ⟨_, rfl, State.singleCommand_linesLaw hs _ _ (defineGroupStep_linesLaw hs) part⟩
  | readGroup part => exact ⟨_, rfl, State.singleCommand_linesLaw hs _ _ (readGroupStep_linesLaw hs) part⟩
  | writeRule part => exact ⟨_, rfl, State.singleCommand_linesLaw hs _ _ (writeRuleStep_linesLaw hs) part⟩
  | readRule part => exact ⟨_, rfl, State.singleCommand_linesLaw hs _ _ (readRuleStep_linesLaw hs) part⟩
  | startLane part => exact ⟨_, rfl, State.singleCommand_linesLaw hs _ _ (startLaneStep_linesLaw hs) part⟩
  | stopLane part => exact ⟨_, rfl, State.singleCommand_linesLaw hs _ _ (stopLaneStep_linesLaw hs) part⟩
  | setLaneParameters part =>
    exact ⟨_, rfl, State.singleCommand_linesLaw hs _ _ (setLaneParametersStep_linesLaw hs) part⟩
  | readLane part => exact ⟨_, rfl, State.singleCommand_linesLaw hs _ _ (readLaneStep_linesLaw hs) part⟩
  | setCursor part => exact ⟨_, rfl, State.singleCommand_linesLaw hs _ _ (setCursorStep_linesLaw hs) part⟩
  | takeAttention part =>
    exact ⟨_, rfl, State.singleCommand_linesLaw hs _ _ (takeAttentionStep_linesLaw hs) part⟩
  | peekAttention part =>
    exact ⟨_, rfl, State.singleCommand_linesLaw hs _ _ (peekAttentionStep_linesLaw hs) part⟩
  | loadManifest part => exact ⟨_, rfl, State.commandFrame_linesLaw hs _ _ part⟩
  | clearOutlet part => exact ⟨_, rfl, State.commandFrame_linesLaw hs _ _ part⟩
  | search part => exact ⟨_, rfl, State.commandFrame_linesLaw hs _ _ part⟩
  | resetDirectory part => exact ⟨_, rfl, State.commandFrame_linesLaw hs _ _ part⟩
  | loadManifestItemStep => exact ⟨_, rfl, State.loadManifestItem_linesLaw hs⟩
  | clearOutletStartStep => exact ⟨_, rfl, State.clearStart_linesLaw hs⟩
  | clearOutletRetiringStep => exact ⟨_, rfl, State.clearRetire_linesLaw hs⟩
  | clearOutletFinishStep => exact ⟨_, rfl, State.clearFinish_linesLaw hs⟩
  | clearOutletEndingStep => exact ⟨_, rfl, State.clearEnding_linesLaw hs⟩
  | searchStep => exact ⟨_, rfl, State.searchStep_linesLaw hs⟩
  | resetDirectoryRetiringStep => exact ⟨_, rfl, State.resetRetire_linesLaw hs⟩
  | resetDirectoryFinishStep => exact ⟨_, rfl, State.resetFinish_linesLaw hs⟩
  | lookup l key scanTag => exact ⟨_, rfl, State.receive_linesLaw hs l key _⟩
  | confirm l key outlet => exact ⟨_, rfl, State.receive_linesLaw hs l key _⟩
  | miss l key => exact ⟨_, rfl, State.receive_linesLaw hs l key _⟩
  | reviseAnswer l ordinal reply =>
    exact ⟨_, rfl, State.fromLink_linesLaw hs ((s.onLane_linesLaw l _).mpr hs)⟩
  | restart l => exact ⟨_, rfl, State.fromLink_linesLaw hs ((s.restartArrives_linesLaw l).mpr hs)⟩
  | discardedFrame l bytes => exact execDiscardedFrame_linesLaw hs l bytes
  | serviceStart l =>
    exact ⟨_, rfl, (State.arbitrate_linesLaw _).mpr ((s.takeUp_linesLaw l).mpr hs)⟩
  | decisionWindowExpiry l position => exact ⟨_, rfl, (s.onLane_linesLaw l _).mpr hs⟩
  | reviseTimerExpiry l ordinal => exact ⟨_, rfl, (s.onLane_linesLaw l _).mpr hs⟩
  | messageSent l => exact ⟨_, rfl, (s.onLane_linesLaw l _).mpr hs⟩
  | lookupStep l takeUp => exact execLookupStep_linesLaw hs l takeUp
  | confirmStep l takeUp => exact execConfirmStep_linesLaw hs l takeUp
  | missStep l takeUp => exact execMissStep_linesLaw hs l takeUp
  | restartStep l takeUp => exact execRestartStep_linesLaw hs l takeUp
  | lateNoticeStep l takeUp => exact execLateNoticeStep_linesLaw hs l takeUp
  | linkFaultNoticeStep l takeUp => exact execLinkFaultNoticeStep_linesLaw hs l takeUp
  | answeredTakenStep l takeUp => exact execAnsweredTakenStep_linesLaw hs l takeUp
  | answeredTooLateStep l takeUp => exact execAnsweredTooLateStep_linesLaw hs l takeUp
  | expiredStep l takeUp => exact execExpiredStep_linesLaw hs l takeUp

/-- R162: a step with no event waiting lets a microsecond pass, and any other is its event's. -/
theorem step_linesLaw (notShort : s.noShortPowerOn) : nextLinesLaw (step s) := by
  unfold step
  split
  · exact ⟨_, rfl, s.tick_linesLaw.mpr hs⟩
  next i rest waiting =>
    have popped : ({ s with pending := rest } : State).linesLaw := hs
    exact exec_linesLaw popped i fun heldMicros e => notShort heldMicros rest (e ▸ waiting)

end

/-! ### The statement -/

/-- Settles O9: one event at a time, by what it does to the attention list and the two lines. -/
theorem alertLinesFollowTheList : Obligations.AlertLinesFollowTheList := by
  unfold Obligations.AlertLinesFollowTheList
  intro s t notShort hs next
  obtain ⟨u, reached, law⟩ := step_linesLaw hs notShort
  obtain rfl : u = t := Host.Outcome.next.inj (reached.symm.trans next)
  exact law

end Sys2Proof.Machine
end

section
/-!
SUPPORT. What an event can do to the part, said once (R117, R118): the work of a store step, the moves of the host
channel and of a lane unit, and the inversion lemmas from which the laws that every step keeps are derived.
-/
namespace Sys2Proof.Machine

/-! ### The work of a store step -/

/-- R37: the state after a selection, which moves at most one group's rotation pointers. -/
inductive PointersMoved (s : State) : State → Prop
  | kept : PointersMoved s s
  | moved (g : GroupId) (e : GroupEntry) : PointersMoved s (s.setGroup g e)

/-- The reasons of a step that moves the record `ref` name no other record (R158). -/
def onlyAbout (ref : Ref) (xs : List (Subject × Reason)) : Prop := ∀ x ∈ xs, ∀ q, x.1 = .item q → q = ref

/-- The reasons of a step that moves no record name none (R158). -/
def aboutNoItem (xs : List (Subject × Reason)) : Prop := ∀ x ∈ xs, ∀ q, x.1 ≠ .item q

/-- R40 to R44, R79, R148: what a step that moves no record can make of an outlet's entry. -/
inductive OutletChange (o : OutletEntry) : OutletEntry → Prop
  | defined (l : Lane) (capacity : Nat) (empty : o.definition = none ∨ o.isEmpty = true) :
      OutletChange o (o.define l capacity)
  | undefined (empty : o.isEmpty = true) : OutletChange o OutletEntry.reset
  | altered (lane : Lane) (capacity capacity' foreign : Nat) (closed : Bool) (clearing : Option Word32)
      (was : o.definition = some { lane := lane, capacity := capacity }) :
      OutletChange o
        { o with definition := some { lane := lane, capacity := capacity' }, foreign := foreign,
                 closed := closed, clearing := clearing }
  | cleared : OutletChange o { o with clearing := none }

/-- R118: what the work of a changing step that began in `s` can come to before its completion (`commit`), with the
reasons that the step adds. -/
inductive StoreChange (s : State) : State → List (Subject × Reason) → Prop
  | created (slot : Nat) (o : Origin) (d : ItemDefinition) (newKey : s.recordOfKey? d.key = none)
      (free : s.lowestFreeSlot = some slot) : StoreChange s (s.createRecord slot o d) []
  | createdAndRouted (slot : Nat) (o : Origin) (d : ItemDefinition) (l : Lane) (p : Place) (t : State)
      (newKey : s.recordOfKey? d.key = none) (free : s.lowestFreeSlot = some slot)
      (running : (s.lane l).state = .running) (open_ : (s.lane l).exhausted = false)
      (selected : PointersMoved (s.createRecord slot o d) t)
      (place : (s.createRecord slot o d).targetOnLane l p = true) :
      StoreChange s (t.route l { slot := slot, serial := s.store.serialCounter } p) ((s.lane l).exhaustReasons l)
  | routed (r : ItemRecord) (l : Lane) (p : Place) (t : State) (xs : List (Subject × Reason))
      (found : s.record? r.ref = some r) (running : (s.lane l).state = .running)
      (open_ : (s.lane l).exhausted = false) (elsewhere : stateKind r.state = .routed → r.lane ≠ some l)
      (selected : PointersMoved (s.leaveLists r) t) (place : (s.leaveLists r).targetOnLane l p = true)
      (reasons : onlyAbout r.ref xs) : StoreChange s (t.route l r.ref p) xs
  | amended (r : ItemRecord) (cs : List Change) (t : State) (found : s.record? r.ref = some r)
      (selected : PointersMoved (s.updateRecord r.ref (applyChanges cs)) t) : StoreChange s t []
  | revisionIssued (r : ItemRecord) (cs : List Change) (t : State) (l : Lane) (assigned : Place) (ordinal : Word32)
      (target : Place) (found : s.record? r.ref = some r) (lane : r.lane = some l)
      (state : r.state = .routed assigned ordinal none)
      (selected : PointersMoved (s.updateRecord r.ref (applyChanges cs)) t)
      (room : (s.lane l).mayRevise = true) :
      StoreChange s (t.issueRevision l r.ref assigned ordinal target) []
  | restored (r : ItemRecord) (found : s.record? r.ref = some r)
      (state : r.state = .recirculating ∨ r.state = .rejected) : StoreChange s (s.restore r.ref) []
  | retired (r : ItemRecord) (found : s.record? r.ref = some r) : StoreChange s (s.retireRecord r) []
  | outletSet (k : OutletId) (o : OutletEntry) (xs : List (Subject × Reason)) (change : OutletChange (s.outlet k) o)
      (reasons : aboutNoItem xs) : StoreChange s (s.setOutlet k o) xs
  | filed (r : ItemRecord) (l : Lane) (k : OutletId) (stray : Bool) (xs : List (Subject × Reason))
      (found : s.record? r.ref = some r) (place : (s.outlet k).definedOn l = true)
      (elsewhere : ∀ n m, r.state ≠ .sorted k n m) (reasons : onlyAbout r.ref xs) :
      StoreChange s ((s.leaveLists r).arrive k r.ref stray) xs
  | rejected (r : ItemRecord) (xs : List (Subject × Reason)) (found : s.record? r.ref = some r)
      (reasons : onlyAbout r.ref xs) : StoreChange s ((s.leaveLists r).changeState r.ref .rejected) xs
  | recirculated (r : ItemRecord) (xs : List (Subject × Reason)) (found : s.record? r.ref = some r)
      (reasons : onlyAbout r.ref xs) :
      StoreChange s
        (((s.leaveLists r).updateRecord r.ref fun q => { q with laps := nextLaps q.laps }).changeState r.ref
          .recirculating) xs
  | laneAbandoned (l : Lane) : StoreChange s (s.abandonLane l) [(.lane l, .restarted)]
  | revisionDropped (l : Lane) (e : ReviseEntry) (assigned : Place) (reason : Reason)
      (still : s.stillPending l e = some assigned) :
      StoreChange s (s.settleRevision l e assigned) [(.item e.ref, reason)]
  | revisionTaken (l : Lane) (e : ReviseEntry) (assigned : Place) (still : s.stillPending l e = some assigned)
      (place : s.targetOnLane l e.target = true) :
      StoreChange s
        (((s.removeExpected l assigned e.ref).insertExpected l e.target e.ref e.ordinal).settleRevision l e
          e.target) []

/-- R117, R118: everything that the work of a store step which began in `s` can come to. -/
inductive StoreWork (s : State) : State → Prop
  | nothing : StoreWork s s
  | changed {a : State} {xs : List (Subject × Reason)} (change : StoreChange s a xs) : StoreWork s (commit s a xs)
  | noted (xs : List (Subject × Reason))
      (known : ∀ x ∈ xs, ∀ q, x.1 = .item q → (s.record? q).isSome = true) : StoreWork s (s.noteReasons xs)
  | attentionTaken (es : List AttentionEntry) (fewer : es.Sublist s.store.attention) :
      StoreWork s (s.setAttention es).refreshLines
  | cursorSet (c : CursorId) (v : Cursor)
      (member : s.cursorsLaw → ∀ ref, v.position = .record ref → ref ∈ s.members v.view) :
      StoreWork s (s.setCursor c v)
  | groupSet (g : GroupId) (e : GroupEntry) : StoreWork s (s.setGroup g e)
  | ruleSet (n : RuleId) (e : RuleEntry) : StoreWork s (s.setRule n e)
  | laneStarted (l : Lane) : StoreWork s (s.setLane l { s.lane l with state := .running })
  | laneDraining (l : Lane) (running : (s.lane l).state = .running) (loaded : s.routedCount l ≠ 0) :
      StoreWork s (s.setLane l { s.lane l with state := .draining })
  | laneStopped (l : Lane) (empty : s.routedCount l = 0) :
      StoreWork s ((s.setLane l (s.lane l).reachStopped).noteReasons [(.lane l, .drained)])
  | laneSet (l : Lane) (ps : List Parameter) :
      StoreWork s (s.setLane l (ps.foldl LaneUnit.setParameter (s.lane l)))
  | directoryReset (empty : s.store.records = []) : StoreWork s s.finishReset

/-! ### Selection and lookup by key -/

/-- R5, R7: the record that a key names is found by its own slot and serial too. -/
theorem State.record?_of_recordOfKey? {s : State} {key : Key} {r : ItemRecord} (h : s.recordOfKey? key = some r) :
    s.record? r.ref = some r := by
  unfold State.recordOfKey? at h
  split at h
  next e _ =>
    have ref : r.ref = e.ref := (s.record?_some h).2
    rwa [ref]
  next => cases h

theorem State.record?_self {s : State} {ref : Ref} {r : ItemRecord} (h : s.record? ref = some r) :
    s.record? r.ref = some r := by
  have same : r.ref = ref := (s.record?_some h).2
  rwa [same]

theorem State.record?_of_designated? {s : State} {d : Designation} {r : ItemRecord} (h : s.designated? d = some r) :
    s.record? r.ref = some r := by
  cases d with
  | ref q => exact State.record?_self h
  | key k => exact State.record?_of_recordOfKey? h

/-- R35, R37: a choice is an outlet defined on the lane, and moves at most its group's pointers. -/
theorem State.choose_inv {s t : State} {g : GroupId} {l : Lane} {given : Option OutletId} {k : OutletId}
    (h : s.choose g l given = some (k, t)) : (s.outlet k).definedOn l = true ∧ PointersMoved s t := by
  have candidate : k ∈ s.candidates g l given → (s.outlet k).definedOn l = true := by
    intro mem
    simp only [State.candidates, List.mem_filter, Bool.and_eq_true] at mem
    exact mem.2.1.2
  cases policy : (s.group g).policy with
  | first =>
    obtain ⟨mem, rfl, -⟩ := State.choose_first_spec policy h
    exact ⟨candidate mem, .kept⟩
  | least =>
    obtain ⟨mem, rfl, -⟩ := State.choose_least_spec policy h
    exact ⟨candidate mem, .kept⟩
  | rotate =>
    obtain ⟨mem, rfl, -⟩ := State.choose_rotate_spec policy h
    exact ⟨candidate mem, .moved _ _⟩

/-- R35, R39: a selection on a lane names a place on it, and moves at most one group's pointers. -/
theorem State.select_inv {s t : State} {l : Lane} {g : Destination} {given : Option OutletId} {p : Place}
    {o : SelectionOutcome} (h : s.select l g given = (p, o, t)) :
    s.targetOnLane l p = true ∧ PointersMoved s t := by
  have atBin {o' : SelectionOutcome} (e : (Place.bin, o', s) = (p, o, t)) :
      s.targetOnLane l p = true ∧ PointersMoved s t := by
    cases e
    exact ⟨rfl, .kept⟩
  unfold State.select at h
  split at h
  next => exact atBin h
  next =>
    split at h
    next k t' chosen =>
      cases h
      exact State.choose_inv chosen
    next =>
      split at h
      next => exact atBin h
      next =>
        split at h
        next k t' chosen =>
          cases h
          exact State.choose_inv chosen
        next => exact atBin h

theorem LaneUnit.exhaustReasons_aboutNoItem (u : LaneUnit) (l : Lane) : aboutNoItem (u.exhaustReasons l) := by
  unfold LaneUnit.exhaustReasons
  split <;> simp [aboutNoItem]

theorem onlyAbout_of_aboutNoItem {ref : Ref} {xs : List (Subject × Reason)} (h : aboutNoItem xs) :
    onlyAbout ref xs := fun x hx q e => absurd e (h x hx q)

/-- The reasons that a step adds on a condition for the record it moves. -/
theorem onlyAbout_ite (ref : Ref) (reason : Reason) (c : Prop) [Decidable c] :
    onlyAbout ref (if c then [(.item ref, reason)] else []) := by
  split <;> simp [onlyAbout, eq_comm]

end Sys2Proof.Machine
end

section
/-!
SUPPORT. Each host command's step and each lane unit's step is one of the works of a store step.
-/
namespace Sys2Proof.Machine

/-- What a single-step command's step hands on is a work of the state it began in. -/
def isWork (s : State) (o : Option (State × Status × List Word)) : Prop :=
  ∀ r, o = some r → StoreWork s r.1

@[simp] theorem isWork_none (s : State) : isWork s none := by simp [isWork]

@[simp] theorem isWork_some (s : State) (r : State × Status × List Word) : isWork s (some r) ↔ StoreWork s r.1 :=
  ⟨fun h => h r rfl, fun h _ e => by cases e; exact h⟩

/-! ### Commands on records (chapters 1 and 5) -/

theorem State.createItem_work (s : State) (d : ItemDefinition) : StoreWork s (s.createItem d).2 := by
  unfold State.createItem
  split
  · exact .nothing
  next newKey =>
    split
    · exact .nothing
    next slot free => exact .changed (.created slot .manifest d newKey free)

theorem createItemStep_work (s : State) (c : HostCommand) : isWork s (createItemStep s c) := by
  cases c <;> simp [createItemStep, State.createItem_work]

theorem readItemStep_work (s : State) (c : HostCommand) : isWork s (readItemStep s c) := by
  unfold readItemStep
  split
  · split <;> simp [StoreWork.nothing]
  · simp

/-- R86: a redirection selection moves pointers alone. -/
theorem State.redirect_pointers {s t : State} {l : Lane} {r : ItemRecord} {assigned p : Place}
    (h : s.redirect l r assigned = (p, t)) : PointersMoved s t := by
  unfold State.redirect at h
  dsimp only at h
  split at h
  · cases h
    exact .kept
  all_goals
    cases h
    exact (State.select_inv rfl).2

theorem PointersMoved.lanes {s t : State} (h : PointersMoved s t) : t.lanes = s.lanes := by
  cases h <;> rfl

theorem PointersMoved.lane {s t : State} (h : PointersMoved s t) (l : Lane) : t.lane l = s.lane l := by
  cases h <;> rfl

theorem amendRouted_work {s : State} {r : ItemRecord} {cs : List Change} {assigned : Place} {ordinal : Word32}
    (found : s.record? r.ref = some r) (state : r.state = .routed assigned ordinal none) :
    isWork s (amendRouted s (s.updateRecord r.ref (applyChanges cs)) r (applyChanges cs r) assigned ordinal) := by
  unfold amendRouted
  split
  next l lane _ =>
    split
    next target t redirected =>
      have selected := State.redirect_pointers redirected
      split
      · exact (isWork_some _ _).mpr (.changed (.amended r cs t found selected))
      · split
        next room =>
          rw [selected.lane] at room
          exact (isWork_some _ _).mpr
            (.changed (.revisionIssued r cs t l assigned ordinal target found lane state selected room))
        next => exact (isWork_some _ _).mpr (.changed (.amended r cs t found selected))
  next => exact (isWork_some _ _).mpr (.changed (.amended r cs _ found .kept))

theorem amendItemStep_work (s : State) (c : HostCommand) : isWork s (amendItemStep s c) := by
  unfold amendItemStep
  split
  next a =>
    split
    next => simp [StoreWork.nothing]
    next r designated =>
      have found := State.record?_of_designated? designated
      split
      · simp [StoreWork.nothing]
      · dsimp only
        split
        · simp [StoreWork.nothing]
        next assigned ordinal state => exact amendRouted_work found state
        next => exact (isWork_some _ _).mpr (.changed (.amended r a.changes _ found .kept))
  next => simp

theorem restoreItemStep_work (s : State) (c : HostCommand) : isWork s (restoreItemStep s c) := by
  unfold restoreItemStep
  split
  next d =>
    split
    · simp [StoreWork.nothing]
    next r designated =>
      have found := State.record?_of_designated? designated
      split
      next state => exact (isWork_some _ _).mpr (.changed (.restored r found (.inl state)))
      next state => exact (isWork_some _ _).mpr (.changed (.restored r found (.inr state)))
      all_goals simp [StoreWork.nothing]
  next => simp

theorem retireItemStep_work (s : State) (c : HostCommand) : isWork s (retireItemStep s c) := by
  unfold retireItemStep
  split
  next d force =>
    split
    · simp [StoreWork.nothing]
    next r designated =>
      split
      · simp [StoreWork.nothing]
      · exact (isWork_some _ _).mpr (.changed (.retired r (State.record?_of_designated? designated)))
  next => simp

/-! ### Commands on outlets, groups and rules (chapters 2 and 3) -/

theorem StoreWork.outlet {s : State} {k : OutletId} {o : OutletEntry} (change : OutletChange (s.outlet k) o) :
    StoreWork s (commit s (s.setOutlet k o) []) :=
  .changed (.outletSet k o [] change (by simp [aboutNoItem]))

theorem defineOutletStep_work (s : State) (c : HostCommand) : isWork s (defineOutletStep s c) := by
  unfold defineOutletStep
  split
  next k l capacity =>
    split
    · simp [StoreWork.nothing]
    next unrefused =>
      have empty : (s.outlet k).definition = none ∨ (s.outlet k).isEmpty = true := by
        cases h : (s.outlet k).definition with
        | none => exact .inl rfl
        | some d => simpa [h] using unrefused
      exact (isWork_some _ _).mpr (.outlet (.defined l capacity empty))
  next => simp

theorem undefineOutletStep_work (s : State) (c : HostCommand) : isWork s (undefineOutletStep s c) := by
  unfold undefineOutletStep
  split
  next k =>
    split
    · simp [StoreWork.nothing]
    · split
      · simp [StoreWork.nothing]
      next unrefused => exact (isWork_some _ _).mpr (.outlet (.undefined (by simpa using unrefused)))
  next => simp

theorem changeOutlet_work {s : State} {k : OutletId} {f : OutletEntry → OutletDefinition → OutletEntry}
    (change : ∀ d, (s.outlet k).definition = some d → OutletChange (s.outlet k) (f (s.outlet k) d)) :
    isWork s (changeOutlet s k f) := by
  unfold changeOutlet
  split
  · simp [StoreWork.nothing]
  next d was => exact (isWork_some _ _).mpr (.outlet (change d was))

theorem setCapacityStep_work (s : State) (c : HostCommand) : isWork s (setCapacityStep s c) := by
  unfold setCapacityStep
  split
  next k capacity => exact changeOutlet_work fun d was => .altered d.lane d.capacity capacity _ _ _ was
  next => simp

theorem closeOutletStep_work (s : State) (c : HostCommand) : isWork s (closeOutletStep s c) := by
  unfold closeOutletStep
  split
  next k =>
    refine changeOutlet_work fun d was => ?_
    have change := OutletChange.altered d.lane d.capacity d.capacity (s.outlet k).foreign true (s.outlet k).clearing was
    rwa [← was] at change
  next => simp

theorem openOutletStep_work (s : State) (c : HostCommand) : isWork s (openOutletStep s c) := by
  unfold openOutletStep
  split
  next k =>
    refine changeOutlet_work fun d was => ?_
    have change := OutletChange.altered d.lane d.capacity d.capacity (s.outlet k).foreign false (s.outlet k).clearing was
    rwa [← was] at change
  next => simp

theorem readOutletStep_work (s : State) (c : HostCommand) : isWork s (readOutletStep s c) := by
  unfold readOutletStep
  split <;> simp [StoreWork.nothing]

theorem defineGroupStep_work (s : State) (c : HostCommand) : isWork s (defineGroupStep s c) := by
  unfold defineGroupStep
  split <;> simp [StoreWork.groupSet]

theorem readGroupStep_work (s : State) (c : HostCommand) : isWork s (readGroupStep s c) := by
  unfold readGroupStep
  split <;> simp [StoreWork.nothing]

theorem writeRuleStep_work (s : State) (c : HostCommand) : isWork s (writeRuleStep s c) := by
  unfold writeRuleStep
  split <;> simp [StoreWork.ruleSet]

theorem readRuleStep_work (s : State) (c : HostCommand) : isWork s (readRuleStep s c) := by
  unfold readRuleStep
  split <;> simp [StoreWork.nothing]

/-! ### Commands on lanes (chapter 6) -/

theorem startLaneStep_work (s : State) (c : HostCommand) : isWork s (startLaneStep s c) := by
  unfold startLaneStep
  split
  · exact (isWork_some _ _).mpr (.laneStarted _)
  · simp

theorem State.stopLane_work (s : State) (l : Lane) : StoreWork s (s.stopLane l) := by
  unfold State.stopLane
  split
  next running =>
    split
    next empty => exact .laneStopped l empty
    next loaded => exact .laneDraining l running loaded
  all_goals exact .nothing

theorem stopLaneStep_work (s : State) (c : HostCommand) : isWork s (stopLaneStep s c) := by
  unfold stopLaneStep
  split
  · exact (isWork_some _ _).mpr (s.stopLane_work _)
  · simp

theorem setLaneParametersStep_work (s : State) (c : HostCommand) : isWork s (setLaneParametersStep s c) := by
  unfold setLaneParametersStep
  split <;> simp [StoreWork.laneSet]

theorem readLaneStep_work (s : State) (c : HostCommand) : isWork s (readLaneStep s c) := by
  unfold readLaneStep
  split <;> simp [StoreWork.nothing]

/-! ### Commands on cursors and on the attention list (chapters 9 and 11) -/

theorem mem_of_positionAtHead {refs : List Ref} {ref : Ref} (h : positionAtHead refs = .record ref) : ref ∈ refs := by
  cases refs with
  | nil => cases h
  | cons q qs =>
    cases h
    simp

theorem mem_of_positionAtHeadBack {refs : List Ref} {ref : Ref} (h : positionAtHeadBack refs = .record ref) :
    ref ∈ refs := by
  cases refs with
  | nil => cases h
  | cons q qs =>
    cases h
    simp

theorem mem_of_mem_following {ref q : Ref} {refs : List Ref} (h : q ∈ following ref refs) : q ∈ refs :=
  (List.dropWhile_sublist _).mem (List.mem_of_mem_tail h)

/-- R138: a cursor that SET CURSOR places stands at an end of its view or on a member of it. -/
theorem State.placed_work {s : State} {c : CursorId} {v : View} {p : Position}
    (member : ∀ ref, p = .record ref → ref ∈ s.members v) : isWork s (s.placed c v p) :=
  (isWork_some _ _).mpr (.cursorSet c _ fun _ => member)

theorem setCursorStep_work (s : State) (c : HostCommand) : isWork s (setCursorStep s c) := by
  unfold setCursorStep
  split
  · exact State.placed_work fun ref => mem_of_positionAtHead
  · exact State.placed_work fun ref h => List.mem_reverse.mp (mem_of_positionAtHeadBack h)
  · exact State.placed_work fun ref h => List.mem_of_mem_filter (mem_of_positionAtHead h)
  · split
    · simp [StoreWork.nothing]
    · split
      next member =>
        refine State.placed_work fun ref h => ?_
        cases h
        exact member
      next => simp [StoreWork.nothing]
  · simp

/-- R139: NEXT leaves a cursor at an end of its view or on a member of it. -/
theorem State.mem_of_nextPosition {s : State} (law : s.cursorsLaw) (c : CursorId) {ref : Ref}
    (h : s.nextPosition (s.cursor c) = .record ref) : ref ∈ s.members (s.cursor c).view := by
  unfold State.nextPosition at h
  split at h
  · exact mem_of_positionAtHead h
  next q at_ =>
    split at h
    · cases h
      exact law c ref at_
    · exact mem_of_mem_following (mem_of_positionAtHead h)
  · cases h

theorem State.mem_of_prevPosition {s : State} (c : CursorId) {ref : Ref}
    (h : s.prevPosition (s.cursor c) = .record ref) : ref ∈ s.members (s.cursor c).view := by
  unfold State.prevPosition at h
  split at h
  · cases h
  · exact List.mem_reverse.mp (mem_of_mem_following (mem_of_positionAtHeadBack h))
  · exact List.mem_reverse.mp (mem_of_positionAtHeadBack h)

theorem readItemByCursorStep_work (s : State) (c : HostCommand) : isWork s (readItemByCursorStep s c) := by
  unfold readItemByCursorStep
  split
  next c step access =>
    refine (isWork_some _ _).mpr (.cursorSet c _ fun law ref h => ?_)
    cases step with
    | next => exact State.mem_of_nextPosition law c h
    | prev => exact State.mem_of_prevPosition c h
    | hold => exact law c ref h
  next => simp

theorem withoutChosen_sublist (urgentOnly : Bool) (es : List AttentionEntry) :
    (withoutChosen urgentOnly es).Sublist es := by
  unfold withoutChosen
  split
  · exact List.eraseP_sublist
  · exact List.tail_sublist es

theorem takeAttentionStep_work (s : State) (c : HostCommand) : isWork s (takeAttentionStep s c) := by
  unfold takeAttentionStep
  split
  · split
    · simp [StoreWork.nothing]
    · exact (isWork_some _ _).mpr (.attentionTaken _ (withoutChosen_sublist _ _))
  · simp

theorem peekAttentionStep_work (s : State) (c : HostCommand) : isWork s (peekAttentionStep s c) := by
  unfold peekAttentionStep
  split
  · split <;> simp [StoreWork.nothing]
  · simp

/-! ### Steps of the lane units (chapters 3 to 6) -/

/-- R100, R107: the reasons of a step that adds reasons alone. -/
theorem StoreWork.notedLane (s : State) (l : Lane) (reason : Reason) :
    StoreWork s (s.noteReasons [(.lane l, reason)]) := .noted _ (by simp)

theorem LaneState.refusal_eq_none_iff (u : LaneState) : u.refusal = none ↔ u = .running := by
  cases u <;> simp [LaneState.refusal]

section
variable {s : State} {l : Lane} (running : (s.lane l).state = .running)
include running

theorem State.lookupUnknown_work {key : Key} (newKey : s.recordOfKey? key = none) :
    StoreWork s (s.lookupUnknown l key).state := by
  unfold State.lookupUnknown
  split
  · exact .nothing
  next n _ =>
    split
    · exact .noted _ (by simp)
    next slot free =>
      split
      · exact .nothing
      next unmarked =>
        obtain ⟨place, selected⟩ := State.select_inv (s := s.createRecord slot (.rule n)
          { key := key, destination := (s.rule n).group, hold := none, hostTag := none })
          (l := l) (g := (s.rule n).group) (given := none) rfl
        exact .changed
          (.createdAndRouted slot (.rule n) _ l _ _ newKey free running (by simpa using unmarked) selected place)

theorem State.lookupRoute_work {r : ItemRecord} (found : s.record? r.ref = some r)
    (elsewhere : stateKind r.state = .routed → r.lane ≠ some l) (lapLimit : Nat) (holdGroup : Destination) :
    StoreWork s (s.lookupRoute l r lapLimit holdGroup).state := by
  unfold State.lookupRoute
  split
  · exact .nothing
  next unmarked =>
    have open_ : (s.lane l).exhausted = false := by simpa using unmarked
    have exhaust := fun u : LaneUnit => onlyAbout_of_aboutNoItem (ref := r.ref) (u.exhaustReasons_aboutNoItem l)
    have fromGroup (g : Destination) (primary : AnswerReason) :
        StoreWork s (routeFromGroup s (s.leaveLists r) l r.ref g primary).state := by
      obtain ⟨place, selected⟩ := State.select_inv (s := s.leaveLists r) (l := l) (g := g) (given := none) rfl
      exact .changed (.routed r l _ _ _ found running open_ elsewhere selected place (exhaust _))
    unfold routeRecord
    split
    · refine .changed (.routed r l .bin _ _ found running open_ elsewhere .kept rfl ?_)
      intro x hx q e
      rcases List.mem_cons.mp hx with rfl | hx
      · cases e
        rfl
      · exact exhaust _ x hx q e
    · exact fromGroup _ _
    · exact fromGroup _ _

theorem State.lookupFound_work {r : ItemRecord} (found : s.record? r.ref = some r) (lapLimit : Nat)
    (holdGroup : Destination) : StoreWork s (s.lookupFound l r lapLimit holdGroup).state := by
  unfold State.lookupFound
  split
  · split
    · exact .nothing
    next elsewhere => exact State.lookupRoute_work running found (fun _ => elsewhere) _ _
  all_goals
    next state => exact State.lookupRoute_work running found (by simp [state, stateKind]) _ _

end

theorem State.serveLookup_work (s : State) (l : Lane) (key : Key) (lapLimit : Nat) (holdGroup : Destination) :
    StoreWork s (s.serveLookup l key lapLimit holdGroup).state := by
  unfold State.serveLookup
  split
  · exact .nothing
  next unrefused =>
    have running := (LaneState.refusal_eq_none_iff _).mp unrefused
    split
    next newKey => exact State.lookupUnknown_work running newKey
    next r known => exact State.lookupFound_work running (State.record?_of_recordOfKey? known) _ _

theorem State.fileArrival_work {s : State} {l : Lane} {k : OutletId} {r : ItemRecord}
    (found : s.record? r.ref = some r) (place : (s.outlet k).definedOn l = true)
    (elsewhere : ∀ n m, r.state ≠ .sorted k n m) (stray : Bool) : StoreWork s (s.fileArrival k r stray) :=
  .changed (.filed r l k stray _ found place elsewhere (onlyAbout_ite _ _ _))

theorem State.confirmRecord_work {s : State} {l : Lane} {k : OutletId} {r : ItemRecord}
    (found : s.record? r.ref = some r) (place : (s.outlet k).definedOn l = true) :
    StoreWork s (s.confirmRecord l k r).2 := by
  unfold State.confirmRecord
  split
  next j n m state =>
    split
    · exact .nothing
    next other =>
      refine State.fileArrival_work found place (fun n' m' e => other ?_) true
      rw [state] at e
      cases e
      rfl
  next assigned n pending state =>
    have filed := State.fileArrival_work found place (by simp [state])
    split
    · unfold State.confirmRouted
      split
      · exact filed false
      · split
        · exact filed false
        · exact filed true
    · exact filed true
  all_goals
    next state => exact State.fileArrival_work found place (by simp [state]) true

theorem OutletEntry.addForeign_change {o : OutletEntry} {l : Lane} (place : o.definedOn l = true) :
    OutletChange o o.addForeign := by
  obtain ⟨d, was, -⟩ := (o.definedOn_iff l).mp place
  have change := fun n => OutletChange.altered d.lane d.capacity d.capacity n o.closed o.clearing was
  simp only [← was] at change
  unfold OutletEntry.addForeign
  split
  · exact change _
  · exact change o.foreign

theorem State.serveConfirm_work (s : State) (l : Lane) (key : Key) (outlet : Byte) :
    StoreWork s (s.serveConfirm l key outlet).2 := by
  unfold State.serveConfirm
  split
  · unfold State.confirmAtBin
    split
    · exact .nothing
    next r known =>
      split
      · exact .nothing
      · exact .changed (.rejected r _ (State.record?_of_recordOfKey? known) (by simp [onlyAbout, eq_comm]))
  · split
    next k _ =>
      split
      next place =>
        unfold State.confirmAtOutlet
        split
        · exact .changed (.outletSet k _ _ (OutletEntry.addForeign_change place) (by simp [aboutNoItem]))
        next r known => exact State.confirmRecord_work (State.record?_of_recordOfKey? known) place
      next => exact .notedLane s l .linkFault
    next => exact .notedLane s l .linkFault

theorem State.serveMiss_work (s : State) (l : Lane) (key : Key) : StoreWork s (s.serveMiss l key).2 := by
  unfold State.serveMiss
  split
  · exact .nothing
  next r known =>
    split
    · exact .changed (.recirculated r _ (State.record?_of_recordOfKey? known) (onlyAbout_ite _ _ _))
    · exact .nothing

theorem State.serveLateNotice_work (s : State) (key : Key) : StoreWork s (s.serveLateNotice key) := by
  unfold State.serveLateNotice
  split
  next r known =>
    refine .noted _ fun x hx q e => ?_
    obtain rfl := List.mem_singleton.mp hx
    cases e
    simp [State.record?_of_recordOfKey? known]
  next => exact .nothing

theorem State.serveTaken_work (s : State) (l : Lane) (e : ReviseEntry) : StoreWork s (s.serveTaken l e) := by
  unfold State.serveTaken
  split
  · exact .nothing
  next assigned still =>
    split
    next place => exact .changed (.revisionTaken l e assigned still place)
    next => exact .changed (.revisionDropped l e assigned _ still)

theorem State.serveTooLate_work (s : State) (l : Lane) (e : ReviseEntry) : StoreWork s (s.serveTooLate l e) := by
  unfold State.serveTooLate
  split
  · exact .nothing
  next assigned still => exact .changed (.revisionDropped l e assigned _ still)

theorem State.serveExpired_work (s : State) (l : Lane) (e : ReviseEntry) : StoreWork s (s.serveExpired l e) := by
  unfold State.serveExpired
  split
  · exact .nothing
  next assigned still => exact .changed (.revisionDropped l e assigned _ still)

end Sys2Proof.Machine
end

section
/-!
SUPPORT. Every event is a power-on reset, a move of the host channel, a move of one lane unit, the completion of a
host step or of a lane step, or nothing (`exec_effect`); with no event waiting time passes (`step_effect`).
-/
namespace Sys2Proof.Machine

/-! ### The moves of the host channel (chapter 8) -/

/-- R124, R126: a whole frame is taken off the channel: `u` is the state with its header acknowledged and nothing left
in reception. -/
inductive FrameTaken (s : State) : State → Prop
  | afterHeader (r : Reception) (inReception : s.host.reception = some r) :
      FrameTaken s (s.setHost { s.host with reception := none })
  | withHeader (code length : Byte) (r : Reception)
      (acknowledged : (s.beginFrame code length).host.reception = some r) :
      FrameTaken s
        ((s.beginFrame code length).setHost { (s.beginFrame code length).host with reception := none })

/-- R125 to R129: what is done with a frame that has been taken. -/
inductive FrameAnswer (u : State) : State → Prop
  | nothing : FrameAnswer u u
  | answered (code : Byte) (status : Status) (results : List Word) : FrameAnswer u (u.respond code status results)
  | entered (c : HostCommand) (idle : u.host.inFlight = none) : FrameAnswer u (u.enterFlight c)
  | aborted : FrameAnswer u u.takeAbort

/-- R124 to R131: everything that an event of the host channel can do. -/
inductive ChannelMove (s : State) : State → Prop
  | headed (code length : Byte) (body : length ≠ 0) : ChannelMove s (s.beginFrame code length)
  | withheld (code length : Byte) (nothing : (s.beginFrame code length).host.reception = none) :
      ChannelMove s (s.beginFrame code length)
  | received {u t : State} (released : s.channelHeld = false) (taken : FrameTaken s u) (answer : FrameAnswer u t) :
      ChannelMove s t
  | cut (released : s.channelHeld = false) : ChannelMove s s.truncateReception
  | cutAtOnce (code : Byte) (released : s.channelHeld = false) :
      ChannelMove s (s.beginFrame code 1).truncateReception
  | read (r : Response) (rest : List Response) (head : s.truncateReception.host.responses = r :: rest)
      (released : s.channelHeld = false) :
      ChannelMove s (s.truncateReception.setHost { s.truncateReception.host with responses := rest })
  | resetAsserted (released : s.host.lineHeld = false) : ChannelMove s s.assertHostReset
  | resetReleased : ChannelMove s s.releaseHostReset

/-! ### The moves of a lane unit (chapters 5 and 6) -/

/-- R89, R93, R99 to R106: everything that an event of a lane link or of a lane unit, outside its store steps, can make
of the lane unit, but for RESTART and the start of service. -/
inductive UnitMove (s : State) (l : Lane) : LaneUnit → Prop
  | accepted (r : Request) (released : s.resetHeld = false) : UnitMove s l ((s.lane l).accept r)
  | faulted (released : s.resetHeld = false) : UnitMove s l (s.lane l).markLinkFault
  | settled (p : ReviseEntry → Bool) (c : ReviseCondition) (waiting : ∀ e, p e = true → e.condition = .waiting)
      (settles : c ≠ .waiting) : UnitMove s l ((s.lane l).settleEntry p c)
  | expired (position : Nat) (key : Key) (tag : Word) (expiry : Word32) (lapLimit : Nat) (holdGroup : Destination)
      (stands : (s.lane l).requests[position]? = some (.lookup key tag expiry lapLimit holdGroup)) :
      UnitMove s l ((s.lane l).answerLate position key tag)
  | sent : UnitMove s l (s.lane l).messageSent

/-! ### The effect of a step of the machine -/

/-- Everything that a step of the part can do, a power-on reset that is too short apart (R168). -/
inductive Effect (s : State) : State → Prop
  | nothing : Effect s s
  | powerOn (asserted : Bool) : Effect s (s.withPins State.reset asserted)
  | channel {t : State} (move : ChannelMove s t) : Effect s t
  | hostStep {t : State} (f : InFlight) (r : StepResult) (work : StoreWork s t)
      (busy : s.arbiter.busy = some .host) (flight : s.host.inFlight = some f) : Effect s (t.completeHostStep f r)
  | laneStep {t : State} (l : Lane) (x : InHand) (reply : Option Message) (takeUp : Bool) (work : StoreWork s t)
      (stepping : s.laneStepping l = some x) (replies : reply.isSome = true → x ≠ .workItem)
      (kind : ∀ m, reply = some m → isReply m = true) : Effect s (t.completeLaneStep l reply takeUp)
  | unit (l : Lane) {u : LaneUnit} (move : UnitMove s l u) : Effect s (s.setLane l u)
  | restarted (l : Lane) (released : s.resetHeld = false) : Effect s (s.restartArrives l)
  | service (l : Lane) : Effect s (s.takeUp l).arbitrate
  | ticked (released : s.resetHeld = false) :
      Effect s { s with timebase := s.timebase + 1, lanes := s.lanes.map LaneUnit.beginSending }

/-! ### The host channel -/

theorem State.beginFrame_reception (s : State) (code length : Byte) (released : s.channelHeld = false) :
    (s.beginFrame code length).host.reception = none ∨
      (s.beginFrame code length).host.reception = some { code := code, length := length } := by
  rw [s.beginFrame_spec, released]
  simp only [Bool.false_eq_true, if_false]
  split
  · exact .inr rfl
  · exact .inl rfl

theorem State.channelHeld_beginFrame (s : State) (code length : Byte) :
    (s.beginFrame code length).channelHeld = s.channelHeld := by
  rw [s.beginFrame_spec]
  split <;> rfl

/-- R126: a header that was withheld is withheld again. -/
theorem State.beginFrame_withheld (s : State) (code length : Byte)
    (h : (s.beginFrame code length).host.reception = none) (released : s.channelHeld = false) :
    (s.beginFrame code length).beginFrame code length = s.beginFrame code length := by
  have long : ¬ (s.beginFrame code length).host.responses.length ≤ 2 := by
    rw [s.beginFrame_spec, released] at h ⊢
    simp only [Bool.false_eq_true, if_false] at h ⊢
    split at h
    · cases h
    next long => exact long
  have open_ := (s.channelHeld_beginFrame code length).trans released
  generalize s.beginFrame code length = b at h long open_ ⊢
  rw [b.beginFrame_spec, open_]
  simp [h, long]
  rw [← h]

theorem State.takeFrame_move (s : State) (code : Byte) (body : List Word) {k : State → State}
    (answer : ∀ u, FrameAnswer u (k u)) :
    s.takeFrame code body k = s ∨ ChannelMove s (s.takeFrame code body k) := by
  unfold State.takeFrame
  dsimp only
  split
  · exact .inl rfl
  next fits =>
    have released : s.channelHeld = false := by simpa using fun h => fits (.inl h)
    right
    split
    next inReception =>
      exact .received released (.afterHeader _ inReception) (answer _)
    next =>
      split
      next acknowledged => exact .received released (.withHeader code _ _ acknowledged) (answer _)
      next other =>
        refine .withheld code _ ((s.beginFrame_reception code _ released).resolve_right ?_)
        exact other

theorem State.takePart_move (s : State) (code : Byte) {k : List Word → State → State}
    (answer : ∀ body u, FrameAnswer u (k body u)) (part : FramePart) :
    s.takePart code k part = s ∨ ChannelMove s (s.takePart code k part) := by
  cases part with
  | received body => exact s.takeFrame_move code body (answer body)
  | header length =>
    by_cases bare : length = 0
    next =>
      subst bare
      simp only [State.takePart, if_true]
      cases held : s.channelHeld with
      | true =>
        have same : s.beginFrame code 0 = s := by rw [s.beginFrame_spec, held]; rfl
        rw [same, s.takeFrame_held _ _ _ held]
        exact .inl rfl
      | false =>
        right
        rcases s.beginFrame_reception code 0 held with withheld | acknowledged
        · have again := s.beginFrame_withheld code 0 withheld held
          have open_ := (s.channelHeld_beginFrame code 0).trans held
          have same : (s.beginFrame code 0).takeFrame code [] (k []) = s.beginFrame code 0 := by
            generalize s.beginFrame code 0 = b at withheld again open_ ⊢
            have again' : b.beginFrame code 0#8 = b := again
            simp [State.takeFrame, open_, withheld, receptionOf, again']
          rw [same]
          exact .withheld code 0 withheld
        · have taken := State.takeFrame_spec (s.beginFrame code 0) code [] (k []) (by
            have open_ := (s.channelHeld_beginFrame code 0).trans held
            simp only [State.channelHeld, Bool.or_eq_false_iff] at open_
            exact ⟨open_.1, open_.2, by simp, .inl acknowledged⟩)
          rw [taken]
          exact .received held (.withHeader code 0 _ acknowledged) (answer [] _)
    next =>
      right
      rw [s.takePart_header code length k bare]
      exact .headed code length bare

theorem State.acceptCommand_answer (u : State) (code : Byte) (judge : List Word → Judged) (body : List Word) :
    FrameAnswer u (u.acceptCommand code judge body) := by
  unfold State.acceptCommand
  split
  · exact .answered _ _ _
  next idle =>
    split
    · exact .answered _ _ _
    · exact .entered _ (by simpa using idle)

/-- An event of the host channel does nothing or is one of its moves. -/
theorem Effect.of_move {s t : State} (h : t = s ∨ ChannelMove s t) : Effect s t := by
  rcases h with rfl | h
  · exact .nothing
  · exact .channel h

theorem State.commandFrame_effect (s : State) (code : Byte) (judge : List Word → Judged) (part : FramePart) :
    Effect s (s.commandFrame code judge part) :=
  .of_move (s.takePart_move code (fun body u => u.acceptCommand_answer code judge body) part)

theorem State.bareCommand_effect (s : State) (code : Byte) {work : State → State}
    (answer : ∀ u, FrameAnswer u (work u)) (part : FramePart) : Effect s (s.bareCommand code work part) := by
  refine .of_move (s.takePart_move code (fun body u => ?_) part)
  split
  · exact answer u
  · exact .answered _ _ _

theorem execBadFrame_effect (s : State) (part : BadFramePart) :
    ∃ t, execBadFrame part s = .next t ∧ Effect s t := by
  have refused (code : Byte) (p : FramePart) : Effect s (s.takePart code (fun _ t => t.refuseCode code) p) := by
    refine .of_move (s.takePart_move code (fun body u => ?_) p)
    unfold State.refuseCode
    split
    · exact .nothing
    · exact .answered _ _ _
  refine ⟨_, rfl, ?_⟩
  cases part with
  | header code length => exact refused code (.header length)
  | received code body => exact refused code (.received body)
  | truncated code =>
    show Effect s (s.truncateFrame code)
    unfold State.truncateFrame
    split
    · exact .nothing
    next held =>
      have released : s.channelHeld = false := by simpa using held
      split
      · exact .channel (.cut released)
      · exact .channel (.cutAtOnce code released)

theorem State.readWords_effect (s : State) (words : Nat) : Effect s (s.readWords words) := by
  unfold State.readWords
  split
  · exact .nothing
  next held =>
    have released : s.channelHeld = false := by simpa using held
    dsimp only
    split
    · exact .channel (.cut released)
    next r rest head =>
      split
      · exact .channel (.read r rest head released)
      · exact .channel (.cut released)

theorem State.assertHostReset_effect (s : State) : Effect s s.assertHostReset := by
  cases h : s.host.lineHeld with
  | false => exact .channel (.resetAsserted h)
  | true =>
    rw [State.assertHostReset, if_pos h]
    exact .nothing

/-! ### Host steps -/

theorem State.steppingCommand_inv {s : State} {f : InFlight} (h : s.steppingCommand = some f) :
    s.arbiter.busy = some .host ∧ s.host.inFlight = some f ∧ f.condition = .stepping := by
  unfold State.steppingCommand at h
  split at h
  next busy flight =>
    split at h
    next stepping =>
      cases h
      exact ⟨busy, flight, stepping⟩
    next => cases h
  next => cases h

theorem State.endingCommand_inv {s : State} {f : InFlight} (h : s.endingCommand = some f) :
    s.arbiter.busy = some .host ∧ s.host.inFlight = some f ∧ f.condition = .ending := by
  unfold State.endingCommand at h
  split at h
  next busy flight =>
    split at h
    next ending =>
      cases h
      exact ⟨busy, flight, ending⟩
    next => cases h
  next => cases h

/-- R127: the work of the command whose step is in progress, and the completion of its step. -/
theorem Effect.stepping {s t : State} {f : InFlight} (h : s.steppingCommand = some f) (work : StoreWork s t)
    (r : StepResult) : Effect s (t.completeHostStep f r) :=
  .hostStep f r work (State.steppingCommand_inv h).1 (State.steppingCommand_inv h).2.1

theorem State.singleStep_effect (s : State) {work : HostCommand → Option (State × Status × List Word)}
    (works : ∀ c, isWork s (work c)) : Effect s (s.singleStep work) := by
  unfold State.singleStep
  split
  · exact .nothing
  next f stepping =>
    split
    · exact .nothing
    next t status results found => exact .stepping stepping (works f.command _ found) _

theorem State.singleCommand_effect (s : State) (code : Byte) (judge : List Word → Judged)
    {work : HostCommand → Option (State × Status × List Word)} (works : ∀ c, isWork s (work c))
    (part : CommandPart) : Effect s (s.singleCommand code judge work part) := by
  cases part with
  | header length => exact s.commandFrame_effect code judge (.header length)
  | received body => exact s.commandFrame_effect code judge (.received body)
  | step => exact s.singleStep_effect works

theorem State.loadManifestItem_effect (s : State) : Effect s s.loadManifestItem := by
  unfold State.loadManifestItem
  split
  · exact .nothing
  next f stepping =>
    split
    · split
      · exact .nothing
      next d _ => exact .stepping stepping (s.createItem_work d) _
    · exact .nothing

theorem State.clearStart_effect (s : State) : Effect s s.clearStart := by
  unfold State.clearStart
  split
  · exact .nothing
  next f stepping =>
    split
    next k _ _ =>
      split
      · exact .stepping stepping .nothing _
      next defined =>
        obtain ⟨d, was⟩ := Option.ne_none_iff_exists'.mp defined
        have change := OutletChange.altered d.lane d.capacity d.capacity 0 (s.outlet k).closed
          (some (s.outlet k).arrivalCounter) was
        rw [← was] at change
        exact .stepping stepping (.outlet change) _
    · exact .nothing

theorem State.toRetire_found {s : State} {k : OutletId} {r : ItemRecord} (h : s.toRetire k = some r) :
    s.record? r.ref = some r := by
  unfold State.toRetire at h
  split at h
  · split at h
    · exact State.record?_self h
    · cases h
  · cases h

theorem State.clearRetire_effect (s : State) : Effect s s.clearRetire := by
  unfold State.clearRetire
  split
  · exact .nothing
  next f stepping =>
    split
    · split
      · exact .nothing
      next r next_ => exact .stepping stepping (.changed (.retired r (State.toRetire_found next_))) _
    · exact .nothing

theorem State.stopClearing_work (s : State) (k : OutletId) {xs : List (Subject × Reason)} (reasons : aboutNoItem xs) :
    StoreWork s (commit s (s.stopClearing k) xs) := .changed (.outletSet k _ _ .cleared reasons)

theorem State.clearFinish_effect (s : State) : Effect s s.clearFinish := by
  unfold State.clearFinish
  split
  · exact .nothing
  next f stepping =>
    split
    next k _ _ _ =>
      split
      · exact .nothing
      · exact .stepping stepping (s.stopClearing_work k (by simp [aboutNoItem])) _
    · exact .nothing

theorem State.clearEnding_effect (s : State) : Effect s s.clearEnding := by
  unfold State.clearEnding
  split
  · exact .nothing
  next f ending =>
    obtain ⟨busy, flight, -⟩ := State.endingCommand_inv ending
    split
    · exact .nothing
    next k _ => exact .hostStep f _ (s.stopClearing_work k (by simp [aboutNoItem])) busy flight

theorem State.resettingCommand_inv {s : State} {f : InFlight} (h : s.resettingCommand = some f) :
    s.steppingCommand = some f ∧ f.command = .resetDirectory := by
  unfold State.resettingCommand at h
  split at h
  next g stepping =>
    split at h
    next command =>
      cases h
      exact ⟨stepping, command⟩
    next => cases h
  next => cases h

theorem State.resetRetire_effect (s : State) : Effect s s.resetRetire := by
  unfold State.resetRetire
  split
  · exact .nothing
  next f resetting =>
    have stepping := (State.resettingCommand_inv resetting).1
    split
    · exact .stepping stepping .nothing _
    · split
      · exact .nothing
      next r rs records =>
        have found : s.record? r.ref = some r := by simp [State.record?, records]
        exact .stepping stepping (.changed (.retired r found)) _

theorem State.resetFinish_effect (s : State) : Effect s s.resetFinish := by
  unfold State.resetFinish
  split
  · exact .nothing
  next f resetting =>
    split
    · exact .nothing
    · split
      · exact .nothing
      next records => exact .stepping (State.resettingCommand_inv resetting).1 (.directoryReset records) _

theorem State.setCursor_setCursor (s : State) (c : CursorId) (v w : Cursor) :
    (s.setCursor c v).setCursor c w = s.setCursor c w := by
  simp [State.setCursor, State.setStore]

/-- R144: a step of SEARCH places its cursor, on a member of its view or at an end, and completes. `t` is the state
with the cursor placed as the step found or began it. -/
theorem searchExamine_effect {s t : State} {q : SearchQuery} {f : InFlight} {p : Position}
    (stepping : s.steppingCommand = some f)
    (placed : ∀ v, t.setCursor q.cursor v = s.setCursor q.cursor v)
    (members : t.members (t.cursor q.cursor).view = s.members (s.cursor q.cursor).view)
    (view : (t.cursor q.cursor).view = (s.cursor q.cursor).view)
    (member : s.cursorsLaw → ∀ ref, p = .record ref → ref ∈ s.members (s.cursor q.cursor).view) :
    Effect s (searchExamine t q f p) := by
  have sets (v : Cursor) (hv : v.view = (s.cursor q.cursor).view)
      (h : s.cursorsLaw → ∀ ref, v.position = .record ref → ref ∈ s.members (s.cursor q.cursor).view)
      (r : StepResult) : Effect s ((t.setCursor q.cursor v).completeHostStep f r) := by
    rw [placed]
    refine .stepping stepping (.cursorSet _ v ?_) r
    rwa [hv]
  have ends (p' : Position)
      (h : s.cursorsLaw → ∀ ref, p' = .record ref → ref ∈ s.members (s.cursor q.cursor).view)
      (status : Status) (n : Nat) (ws : List Word) : Effect s (searchEnds t q f p' status n ws) :=
    sets { t.cursor q.cursor with position := p', slipped := false } view h _
  have next {ref q' : Ref} (h : positionAtHead (following ref (t.members (t.cursor q.cursor).view)) = .record q') :
      q' ∈ s.members (s.cursor q.cursor).view :=
    members ▸ mem_of_mem_following (mem_of_positionAtHead h)
  unfold searchExamine
  dsimp only
  split
  next ref =>
    split
    · exact ends _ (by simp) _ _ _
    · split
      · exact ends _ member _ _ _
      · split
        next q' found =>
          have stays : s.cursorsLaw → ∀ ref', Position.record q' = .record ref' →
              ref' ∈ s.members (s.cursor q.cursor).view := by
            rintro - _ ⟨⟩
            exact next found
          split
          · exact ends _ stays _ _ _
          · exact sets { t.cursor q.cursor with position := .record q' } view stays _
        next p' notRecord =>
          exact ends _ (fun _ ref' e => absurd e (notRecord ref')) _ _ _
  next notRecord => exact ends _ (fun _ ref' e => absurd e (notRecord ref')) _ _ _

theorem State.mem_of_searchStart {s : State} (law : s.cursorsLaw) (q : SearchQuery) {ref : Ref}
    (h : s.searchStart q = .record ref) : ref ∈ s.members (s.cursor q.cursor).view := by
  unfold State.searchStart at h
  dsimp only at h
  split at h
  · exact State.mem_of_nextPosition law _ h
  · split at h
    · exact mem_of_positionAtHead h
    · exact law _ _ h

theorem State.searchStep_effect (s : State) : Effect s s.searchStep := by
  unfold State.searchStep
  split
  · exact .nothing
  next f stepping =>
    split
    next q _ =>
      split
      · refine searchExamine_effect stepping (fun v => s.setCursor_setCursor _ _ v) ?_ ?_
          fun law ref => State.mem_of_searchStart law q
        · simp only [State.placeCursor, State.cursor_setCursor_self]
          rfl
        · simp [State.placeCursor]
      · exact searchExamine_effect stepping (fun _ => rfl) rfl rfl fun law ref => law _ ref
    · exact .nothing

/-! ### Lane steps -/

/-- R117: a lane's step with a reply answers the request in hand. -/
theorem Effect.replied {s t : State} {l : Lane} {x : InHand} (stepping : s.laneStepping l = some x)
    (work : StoreWork s t) (request : x ≠ .workItem) {m : Message} (kind : isReply m = true) (takeUp : Bool) :
    Effect s (t.completeLaneStep l (some m) takeUp) :=
  .laneStep l x _ takeUp work stepping (fun _ => request) (by rintro _ ⟨⟩; exact kind)

/-- R117: the step of a work item has no reply. -/
theorem Effect.itemDone {s t : State} {l : Lane} {w : WorkItem} (stepping : s.itemStepping l = some w)
    (work : StoreWork s t) (takeUp : Bool) : Effect s (t.completeLaneStep l none takeUp) := by
  unfold State.itemStepping at stepping
  split at stepping
  next inHand => exact .laneStep l _ none takeUp work inHand (by simp) (by simp)
  next => cases stepping

theorem execLookupStep_effect (s : State) (l : Lane) (takeUp : Bool) :
    ∃ t, execLookupStep l takeUp s = .next t ∧ Effect s t := by
  refine ⟨_, rfl, ?_⟩
  split
  next stepping => exact .replied stepping (s.serveLookup_work _ _ _ _) (by simp) rfl _
  next => exact .nothing

theorem execConfirmStep_effect (s : State) (l : Lane) (takeUp : Bool) :
    ∃ t, execConfirmStep l takeUp s = .next t ∧ Effect s t := by
  refine ⟨_, rfl, ?_⟩
  split
  next stepping => exact .replied stepping (s.serveConfirm_work _ _ _) (by simp) rfl _
  next => exact .nothing

theorem execMissStep_effect (s : State) (l : Lane) (takeUp : Bool) :
    ∃ t, execMissStep l takeUp s = .next t ∧ Effect s t := by
  refine ⟨_, rfl, ?_⟩
  split
  next stepping => exact .replied stepping (s.serveMiss_work _ _) (by simp) rfl _
  next => exact .nothing

theorem execRestartStep_effect (s : State) (l : Lane) (takeUp : Bool) :
    ∃ t, execRestartStep l takeUp s = .next t ∧ Effect s t := by
  refine ⟨_, rfl, ?_⟩
  split
  next stepping => exact .replied stepping (.changed (.laneAbandoned l)) (by simp) rfl _
  next => exact .nothing

theorem execLateNoticeStep_effect (s : State) (l : Lane) (takeUp : Bool) :
    ∃ t, execLateNoticeStep l takeUp s = .next t ∧ Effect s t := by
  refine ⟨_, rfl, ?_⟩
  split
  next stepping => exact .itemDone stepping (s.serveLateNotice_work _) _
  next => exact .nothing

theorem execLinkFaultNoticeStep_effect (s : State) (l : Lane) (takeUp : Bool) :
    ∃ t, execLinkFaultNoticeStep l takeUp s = .next t ∧ Effect s t := by
  refine ⟨_, rfl, ?_⟩
  split
  next stepping => exact .itemDone stepping (.notedLane s l _) _
  next => exact .nothing

/-- R103: the revise item whose step is in progress stands at the head of the work list. -/
theorem State.reviseStepping_inv {s : State} {l : Lane} {c : ReviseCondition} {e : ReviseEntry}
    (h : s.reviseStepping l c = some e) : s.itemStepping l = some (.revise e) := by
  unfold State.reviseStepping at h
  split at h
  next stepping =>
    split at h
    · cases h
      exact stepping
    · cases h
  next => cases h

theorem execAnsweredTakenStep_effect (s : State) (l : Lane) (takeUp : Bool) :
    ∃ t, execAnsweredTakenStep l takeUp s = .next t ∧ Effect s t := by
  refine ⟨_, rfl, ?_⟩
  split
  next stepping => exact .itemDone (State.reviseStepping_inv stepping) (s.serveTaken_work _ _) _
  next => exact .nothing

theorem execAnsweredTooLateStep_effect (s : State) (l : Lane) (takeUp : Bool) :
    ∃ t, execAnsweredTooLateStep l takeUp s = .next t ∧ Effect s t := by
  refine ⟨_, rfl, ?_⟩
  split
  next stepping => exact .itemDone (State.reviseStepping_inv stepping) (s.serveTooLate_work _ _) _
  next => exact .nothing

theorem execExpiredStep_effect (s : State) (l : Lane) (takeUp : Bool) :
    ∃ t, execExpiredStep l takeUp s = .next t ∧ Effect s t := by
  refine ⟨_, rfl, ?_⟩
  split
  next stepping => exact .itemDone (State.reviseStepping_inv stepping) (s.serveExpired_work _ _) _
  next => exact .nothing

/-! ### Events of the lane units outside their steps -/

/-- R168: a frame of a lane link does nothing while the pin is asserted. -/
theorem State.fromLink_effect {s t : State} (h : s.resetHeld = false → Effect s t) : Effect s (s.fromLink t) := by
  unfold State.fromLink
  split
  · exact .nothing
  next released => exact h (by simpa using released)

theorem State.receive_effect (s : State) (l : Lane) (key : Key) (r : Request) : Effect s (s.receive l key r) := by
  refine State.fromLink_effect fun released => .unit l ?_
  split
  · exact .accepted r released
  · exact .faulted released

theorem execDiscardedFrame_effect (s : State) (l : Lane) (bytes : List Byte) :
    ∃ t, execDiscardedFrame l bytes s = .next t ∧ Effect s t := by
  refine ⟨_, rfl, State.fromLink_effect fun released => ?_⟩
  split
  · exact .unit l (.faulted released)
  · exact .nothing

theorem waitingFor_waiting {ordinal : Word32} {e : ReviseEntry} (h : waitingFor ordinal e = true) :
    e.condition = .waiting := by
  simp only [waitingFor, decide_eq_true_eq] at h
  exact h.1

theorem execDecisionWindowExpiry_effect (s : State) (l : Lane) (position : Nat) :
    ∃ t, execDecisionWindowExpiry l position s = .next t ∧ Effect s t := by
  have same : s.setLane l (s.lane l) = s := by simp [State.setLane, State.lane]
  refine ⟨_, rfl, ?_⟩
  unfold State.onLane LaneUnit.expireLookup
  dsimp only
  split
  next stands =>
    split
    · exact .unit l (.expired _ _ _ _ _ _ stands)
    · exact same.symm ▸ .nothing
  all_goals exact same.symm ▸ .nothing

/-! ### The events -/

/-- Every event but a release of power-on reset has one of the effects. -/
theorem exec_effect (s : State) (i : Instr) (full : ∀ n, i = .powerOnReset (.released n) → Config.powerOnMicros ≤ n) :
    ∃ t, exec i s = .next t ∧ Effect s t := by
  have single {code : Byte} {judge : List Word → Judged} {part : CommandPart}
      {work : HostCommand → Option (State × Status × List Word)} (works : ∀ c, isWork s (work c)) :
      ∃ t, (Host.Outcome.next (s.singleCommand code judge work part) : Host.Outcome State Fault Refusal) = .next t ∧
        Effect s t := ⟨_, rfl, s.singleCommand_effect code judge works part⟩
  cases i with
  | powerOnReset part =>
    refine ⟨_, rfl, ?_⟩
    cases part with
    | asserted => exact .powerOn true
    | released n =>
      show Effect s (s.releasePowerOn n)
      rw [s.releasePowerOn_full n (full n rfl)]
      exact .powerOn false
  | hostChannelReset => exact ⟨_, rfl, s.assertHostReset_effect⟩
  | hostChannelResetRelease => exact ⟨_, rfl, .channel .resetReleased⟩
  | badFrame part => exact execBadFrame_effect s part
  | readResponse words => exact ⟨_, rfl, s.readWords_effect words⟩
  | readStatus part => exact ⟨_, rfl, s.bareCommand_effect _ (fun _ => .answered _ _ _) part⟩
  | abort part => exact ⟨_, rfl, s.bareCommand_effect _ (fun _ => .aborted) part⟩
  | createItem part => exact single (createItemStep_work s)
  | readItem part => exact single (readItemStep_work s)
  | readItemByCursor part => exact single (readItemByCursorStep_work s)
  | amendItem part => exact single (amendItemStep_work s)
  | restoreItem part => exact single (restoreItemStep_work s)
  | retireItem part => exact single (retireItemStep_work s)
  | defineOutlet part => exact single (defineOutletStep_work s)
  | undefineOutlet part => exact single (undefineOutletStep_work s)
  | setCapacity part => exact single (setCapacityStep_work s)
  | closeOutlet part => exact single (closeOutletStep_work s)
  | openOutlet part => exact single (openOutletStep_work s)
  | readOutlet part => exact single (readOutletStep_work s)
  | defineGroup part => exact single (defineGroupStep_work s)
  | readGroup part => exact single (readGroupStep_work s)
  | writeRule part => exact single (writeRuleStep_work s)
  | readRule part => exact single (readRuleStep_work s)
  | startLane part => exact single (startLaneStep_work s)
  | stopLane part => exact single (stopLaneStep_work s)
  | setLaneParameters part => exact single (setLaneParametersStep_work s)
  | readLane part => exact single (readLaneStep_work s)
  | setCursor part => exact single (setCursorStep_work s)
  | takeAttention part => exact single (takeAttentionStep_work s)
  | peekAttention part => exact single (peekAttentionStep_work s)
  | loadManifest part => exact ⟨_, rfl, s.commandFrame_effect _ _ part⟩
  | clearOutlet part => exact ⟨_, rfl, s.commandFrame_effect _ _ part⟩
  | search part => exact ⟨_, rfl, s.commandFrame_effect _ _ part⟩
  | resetDirectory part => exact ⟨_, rfl, s.commandFrame_effect _ _ part⟩
  | loadManifestItemStep => exact ⟨_, rfl, s.loadManifestItem_effect⟩
  | clearOutletStartStep => exact ⟨_, rfl, s.clearStart_effect⟩
  | clearOutletRetiringStep => exact ⟨_, rfl, s.clearRetire_effect⟩
  | clearOutletFinishStep => exact ⟨_, rfl, s.clearFinish_effect⟩
  | clearOutletEndingStep => exact ⟨_, rfl, s.clearEnding_effect⟩
  | searchStep => exact ⟨_, rfl, s.searchStep_effect⟩
  | resetDirectoryRetiringStep => exact ⟨_, rfl, s.resetRetire_effect⟩
  | resetDirectoryFinishStep => exact ⟨_, rfl, s.resetFinish_effect⟩
  | lookup l key scanTag => exact ⟨_, rfl, s.receive_effect l key _⟩
  | confirm l key outlet => exact ⟨_, rfl, s.receive_effect l key _⟩
  | miss l key => exact ⟨_, rfl, s.receive_effect l key _⟩
  | reviseAnswer l ordinal reply =>
    refine ⟨_, rfl, State.fromLink_effect fun _ => .unit l (.settled _ _ (fun _ => waitingFor_waiting) ?_)⟩
    cases reply <;> simp [answeredCondition]
  | restart l => exact ⟨_, rfl, State.fromLink_effect fun released => .restarted l released⟩
  | discardedFrame l bytes => exact execDiscardedFrame_effect s l bytes
  | serviceStart l => exact ⟨_, rfl, .service l⟩
  | decisionWindowExpiry l position => exact execDecisionWindowExpiry_effect s l position
  | reviseTimerExpiry l ordinal =>
    refine ⟨_, rfl, .unit l (.settled _ _ (fun e h => ?_) (by simp))⟩
    exact waitingFor_waiting (Bool.and_eq_true_iff.mp h).1
  | messageSent l => exact ⟨_, rfl, .unit l .sent⟩
  | lookupStep l takeUp => exact execLookupStep_effect s l takeUp
  | confirmStep l takeUp => exact execConfirmStep_effect s l takeUp
  | missStep l takeUp => exact execMissStep_effect s l takeUp
  | restartStep l takeUp => exact execRestartStep_effect s l takeUp
  | lateNoticeStep l takeUp => exact execLateNoticeStep_effect s l takeUp
  | linkFaultNoticeStep l takeUp => exact execLinkFaultNoticeStep_effect s l takeUp
  | answeredTakenStep l takeUp => exact execAnsweredTakenStep_effect s l takeUp
  | answeredTooLateStep l takeUp => exact execAnsweredTooLateStep_effect s l takeUp
  | expiredStep l takeUp => exact execExpiredStep_effect s l takeUp

/-- A step of the machine has one of the effects, on the state or on the state with its queue's front taken. -/
theorem step_effect {s t : State} (notShort : s.noShortPowerOn) (next : step s = .next t) :
    ∃ queue, Effect { s with pending := queue } t := by
  unfold step at next
  split at next
  next idle =>
    cases next
    refine ⟨s.pending, ?_⟩
    unfold State.tick
    split
    · exact .nothing
    next released => exact .ticked (by simpa using released)
  next i rest waiting =>
    obtain ⟨u, reached, effect⟩ := exec_effect { s with pending := rest } i
      fun n e => notShort n rest (e ▸ waiting)
    obtain rfl : u = t := Host.Outcome.next.inj (reached.symm.trans next)
    exact ⟨rest, effect⟩

end Sys2Proof.Machine
end

section
/-!
SUPPORT. What the work of a store step leaves alone: the host engine, the arbiter, the clock, the pin, the queue of
events, and, before its completion, the cursors and the rules.
-/
namespace Sys2Proof.Machine

/-- Host engine, arbiter, clock, reset pin, queue of events, cursors and rules are as they were. -/
structure State.keepsOutside (s t : State) : Prop where
  host : t.host = s.host
  arbiter : t.arbiter = s.arbiter
  timebase : t.timebase = s.timebase
  pending : t.pending = s.pending
  resetHeld : t.resetHeld = s.resetHeld
  cursors : t.store.cursors = s.store.cursors
  rules : t.store.rules = s.store.rules

section
variable (s : State)

theorem State.keepsOutside_refl : s.keepsOutside s := ⟨rfl, rfl, rfl, rfl, rfl, rfl, rfl⟩

variable {s}

theorem State.keepsOutside.trans {t u : State} (h : s.keepsOutside t) (h' : t.keepsOutside u) : s.keepsOutside u :=
  ⟨h'.host.trans h.host, h'.arbiter.trans h.arbiter, h'.timebase.trans h.timebase, h'.pending.trans h.pending,
    h'.resetHeld.trans h.resetHeld, h'.cursors.trans h.cursors, h'.rules.trans h.rules⟩

variable (s)

theorem State.setOutlet_keepsOutside (k : OutletId) (o : OutletEntry) : s.keepsOutside (s.setOutlet k o) :=
  ⟨rfl, rfl, rfl, rfl, rfl, rfl, rfl⟩
theorem State.setLane_keepsOutside (l : Lane) (u : LaneUnit) : s.keepsOutside (s.setLane l u) :=
  ⟨rfl, rfl, rfl, rfl, rfl, rfl, rfl⟩
theorem State.updateRecord_keepsOutside (ref : Ref) (f : ItemRecord → ItemRecord) :
    s.keepsOutside (s.updateRecord ref f) := ⟨rfl, rfl, rfl, rfl, rfl, rfl, rfl⟩
theorem State.createRecord_keepsOutside (slot : Nat) (o : Origin) (d : ItemDefinition) :
    s.keepsOutside (s.createRecord slot o d) := ⟨rfl, rfl, rfl, rfl, rfl, rfl, rfl⟩
theorem State.abandonLane_keepsOutside (l : Lane) : s.keepsOutside (s.abandonLane l) :=
  ⟨rfl, rfl, rfl, rfl, rfl, rfl, rfl⟩
theorem State.settleRevision_keepsOutside (l : Lane) (e : ReviseEntry) (p : Place) :
    s.keepsOutside (s.settleRevision l e p) := ⟨rfl, rfl, rfl, rfl, rfl, rfl, rfl⟩
theorem State.issueRevision_keepsOutside (l : Lane) (ref : Ref) (p : Place) (n : Word32) (q : Place) :
    s.keepsOutside (s.issueRevision l ref p n q) := ⟨rfl, rfl, rfl, rfl, rfl, rfl, rfl⟩

theorem State.changeState_keepsOutside (ref : Ref) (new : ItemState) : s.keepsOutside (s.changeState ref new) := by
  unfold State.changeState
  split <;> exact ⟨rfl, rfl, rfl, rfl, rfl, rfl, rfl⟩

theorem State.setExpected_keepsOutside (l : Lane) (p : Place) (refs : List Ref) (n : Nat) :
    s.keepsOutside (s.setExpected l p refs n) := by
  cases p <;> exact ⟨rfl, rfl, rfl, rfl, rfl, rfl, rfl⟩

theorem State.removeExpected_keepsOutside (l : Lane) (p : Place) (ref : Ref) :
    s.keepsOutside (s.removeExpected l p ref) := by
  unfold State.removeExpected
  split
  · exact s.setExpected_keepsOutside _ _ _ _
  · exact s.keepsOutside_refl

theorem State.removeContent_keepsOutside (k : OutletId) (ref : Ref) : s.keepsOutside (s.removeContent k ref) := by
  unfold State.removeContent
  dsimp only
  split
  · exact s.setOutlet_keepsOutside _ _
  · exact s.keepsOutside_refl

theorem State.clearPending_keepsOutside (l : Lane) (ref : Ref) (n : Word32) (pending : Option Place) :
    s.keepsOutside (s.clearPending l ref n pending) := by
  cases pending
  · exact s.keepsOutside_refl
  · exact s.setLane_keepsOutside _ _

theorem State.leaveLists_keepsOutside (r : ItemRecord) : s.keepsOutside (s.leaveLists r) := by
  unfold State.leaveLists
  split
  · exact (s.removeExpected_keepsOutside _ _ _).trans (State.clearPending_keepsOutside _ _ _ _ _)
  · exact s.removeContent_keepsOutside _ _
  · exact s.keepsOutside_refl

theorem State.retireRecord_keepsOutside (r : ItemRecord) : s.keepsOutside (s.retireRecord r) :=
  (s.leaveLists_keepsOutside r).trans ⟨rfl, rfl, rfl, rfl, rfl, rfl, rfl⟩

theorem State.renumberIfDue_keepsOutside (k : OutletId) : s.keepsOutside (s.renumberIfDue k) := by
  unfold State.renumberIfDue
  split
  · exact ⟨rfl, rfl, rfl, rfl, rfl, rfl, rfl⟩
  · exact s.keepsOutside_refl

theorem State.arrive_keepsOutside (k : OutletId) (ref : Ref) (stray : Bool) :
    s.keepsOutside (s.arrive k ref stray) :=
  ((s.renumberIfDue_keepsOutside k).trans (State.setOutlet_keepsOutside _ _ _)).trans
    (State.changeState_keepsOutside _ _ _)

theorem State.route_keepsOutside (l : Lane) (ref : Ref) (p : Place) : s.keepsOutside (s.route l ref p) :=
  (((s.setExpected_keepsOutside _ _ _ _).trans (State.setLane_keepsOutside _ _ _)).trans
    (State.updateRecord_keepsOutside _ _ _)).trans (State.changeState_keepsOutside _ _ _)

end

section
variable {s t a : State} {xs : List (Subject × Reason)}

theorem PointersMoved.keepsOutside (h : PointersMoved s t) : s.keepsOutside t := by
  cases h <;> exact ⟨rfl, rfl, rfl, rfl, rfl, rfl, rfl⟩

/-- R117: the work of a changing step leaves all that is no record, list, lane unit, pointer or reason as it was. -/
theorem StoreChange.keepsOutside (h : StoreChange s a xs) : s.keepsOutside a := by
  cases h with
  | created => exact s.createRecord_keepsOutside _ _ _
  | createdAndRouted slot o d l p t _ _ _ _ selected =>
    exact ((s.createRecord_keepsOutside _ _ _).trans selected.keepsOutside).trans (t.route_keepsOutside _ _ _)
  | routed r l p t _ _ _ _ _ selected =>
    exact ((s.leaveLists_keepsOutside _).trans selected.keepsOutside).trans (t.route_keepsOutside _ _ _)
  | amended r cs t _ selected => exact (s.updateRecord_keepsOutside _ _).trans selected.keepsOutside
  | revisionIssued r cs t _ _ _ _ _ _ _ selected =>
    exact ((s.updateRecord_keepsOutside _ _).trans selected.keepsOutside).trans
      (t.issueRevision_keepsOutside _ _ _ _ _)
  | restored => exact (s.updateRecord_keepsOutside _ _).trans (State.changeState_keepsOutside _ _ _)
  | retired => exact s.retireRecord_keepsOutside _
  | outletSet => exact s.setOutlet_keepsOutside _ _
  | filed => exact (s.leaveLists_keepsOutside _).trans (State.arrive_keepsOutside _ _ _ _)
  | rejected => exact (s.leaveLists_keepsOutside _).trans (State.changeState_keepsOutside _ _ _)
  | recirculated =>
    exact ((s.leaveLists_keepsOutside _).trans (State.updateRecord_keepsOutside _ _ _)).trans
      (State.changeState_keepsOutside _ _ _)
  | laneAbandoned => exact s.abandonLane_keepsOutside _
  | revisionDropped => exact s.settleRevision_keepsOutside _ _ _
  | revisionTaken =>
    exact ((s.removeExpected_keepsOutside _ _ _).trans (State.setExpected_keepsOutside _ _ _ _ _)).trans
      (State.settleRevision_keepsOutside _ _ _ _)

theorem StoreWork.host (h : StoreWork s t) : t.host = s.host := by
  cases h with
  | changed change => exact (commit_host _ _ _).trans change.keepsOutside.host
  | _ => rfl

theorem StoreWork.arbiter (h : StoreWork s t) : t.arbiter = s.arbiter := by
  cases h with
  | changed change => exact (commit_arbiter _ _ _).trans change.keepsOutside.arbiter
  | _ => rfl

theorem StoreWork.timebase (h : StoreWork s t) : t.timebase = s.timebase := by
  cases h with
  | changed change => exact (commit_timebase _ _ _).trans change.keepsOutside.timebase
  | _ => rfl

theorem StoreWork.pending (h : StoreWork s t) : t.pending = s.pending := by
  cases h with
  | changed change => exact (commit_pending _ _ _).trans change.keepsOutside.pending
  | _ => rfl

theorem StoreWork.resetHeld (h : StoreWork s t) : t.resetHeld = s.resetHeld := by
  cases h with
  | changed change => exact (commit_resetHeld _ _ _).trans change.keepsOutside.resetHeld
  | _ => rfl

end

end Sys2Proof.Machine
end

section
/-!
PROOF. Obligation O14: the responses, the command in flight and the frame in reception are never more than 4 together
(R126), since a header is acknowledged only while at most 2 responses wait, and a response takes the place of its frame
or of its command.
-/
namespace Sys2Proof.Machine

/-- R126: the responses that stand in the queue or are owed to the command in flight and to the frame in reception. -/
def HostEngine.owed (h : HostEngine) : Nat :=
  h.responses.length + h.inFlight.isSome.toNat + h.reception.isSome.toNat

theorem State.channelLaw_iff (s : State) :
    s.channelLaw ↔ s.host.owed ≤ 4 ∧ ∀ r, s.host.reception = some r → r.length ≠ 0 := by
  unfold State.channelLaw HostEngine.owed
  cases s.host.inFlight <;> cases s.host.reception <;> simp

/-- R126: the law speaks of the responses, of whether a command is in flight, and of the frame in reception alone. -/
theorem State.channelLaw_congr {s t : State} (responses : t.host.responses = s.host.responses)
    (flight : t.host.inFlight.isSome = s.host.inFlight.isSome) (reception : t.host.reception = s.host.reception) :
    t.channelLaw ↔ s.channelLaw := by
  simp only [State.channelLaw, responses, flight, reception]

@[simp] theorem State.arbitrate_channelLaw (s : State) : s.arbitrate.channelLaw ↔ s.channelLaw :=
  State.channelLaw_congr (by simp) (by simp) (by simp)

/-- R124, R126: what the law asks where nothing is in reception. -/
theorem State.channelLaw_iff_of_no_reception {s : State} (h : s.host.reception = none) :
    s.channelLaw ↔ s.host.responses.length + s.host.inFlight.isSome.toNat ≤ 4 := by
  simp [State.channelLaw_iff, HostEngine.owed, h]

theorem State.channelLaw.room {s : State} {r : Reception} (law : s.channelLaw) (h : s.host.reception = some r) :
    s.host.responses.length + s.host.inFlight.isSome.toNat ≤ 3 := by
  have room := (s.channelLaw_iff.mp law).1
  simp only [HostEngine.owed, h, Option.isSome_some, Bool.toNat_true] at room
  omega

section
variable {s : State}

theorem State.truncateReception_reception (s : State) : s.truncateReception.host.reception = none := by
  unfold State.truncateReception
  split
  · assumption
  · rfl

theorem State.truncateReception_channelLaw (law : s.channelLaw) : s.truncateReception.channelLaw := by
  unfold State.truncateReception
  split
  · exact law
  next r inReception =>
    have room := law.room inReception
    rw [State.channelLaw_iff_of_no_reception rfl]
    simp only [State.respond, State.setHost_host, List.length_append, List.length_singleton]
    omega

/-- R124, R126: a header does nothing, cuts short what is in reception, or is acknowledged with room for its answer. -/
theorem State.beginFrame_cases (s : State) (code length : Byte) :
    s.beginFrame code length = s ∨ s.beginFrame code length = s.truncateReception ∨
      s.truncateReception.host.responses.length ≤ 2 ∧ s.beginFrame code length =
        s.truncateReception.setHost
          { s.truncateReception.host with reception := some { code := code, length := length } } := by
  unfold State.beginFrame
  split
  · exact .inl rfl
  · dsimp only
    split
    next room => exact .inr (.inr ⟨room, rfl⟩)
    next => exact .inr (.inl rfl)

/-- R126: a header is acknowledged only with room for its answer. -/
theorem State.beginFrame_channelLaw (law : s.channelLaw) (code : Byte) {length : Byte}
    (body : length ≠ 0 ∨ (s.beginFrame code length).host.reception = none) :
    (s.beginFrame code length).channelLaw := by
  have cut := s.truncateReception_channelLaw law
  rcases s.beginFrame_cases code length with same | same | ⟨room, same⟩
  · rwa [same]
  · rwa [same]
  · rw [same] at body ⊢
    have words : length ≠ 0 := body.resolve_right (by simp)
    rw [State.channelLaw_iff]
    refine ⟨?_, fun r e => ?_⟩
    · have flight := Bool.toNat_le s.truncateReception.host.inFlight.isSome
      simp only [HostEngine.owed, State.setHost_host, Option.isSome_some, Bool.toNat_true]
      omega
    · cases e
      exact words

theorem FrameTaken.room {u : State} (taken : FrameTaken s u) (law : s.channelLaw) :
    u.host.reception = none ∧ u.host.responses.length + u.host.inFlight.isSome.toNat ≤ 3 := by
  cases taken with
  | afterHeader r inReception => exact ⟨rfl, law.room inReception⟩
  | withHeader code length r acknowledged =>
    refine ⟨rfl, ?_⟩
    rcases s.beginFrame_cases code length with same | same | ⟨room, same⟩
    · rw [same] at acknowledged ⊢
      exact law.room acknowledged
    · rw [same, s.truncateReception_reception] at acknowledged
      cases acknowledged
    · have flight := Bool.toNat_le s.truncateReception.host.inFlight.isSome
      simp only [same, State.setHost_host]
      omega

/-- R127: the response of a command takes the place of the command. -/
theorem State.endCommand_channelLaw (law : s.channelLaw) (flight : s.host.inFlight.isSome = true) (f : InFlight)
    (status : Status) (results : List Word) : (s.endCommand f status results).channelLaw := by
  obtain ⟨room, words⟩ := s.channelLaw_iff.mp law
  simp only [HostEngine.owed, flight, Bool.toNat_true] at room
  rw [State.channelLaw_iff]
  unfold State.endCommand State.respondFor
  split
  · refine ⟨?_, words⟩
    simp only [HostEngine.owed, State.setHost_host, Option.isSome_none, Bool.toNat_false]
    omega
  · refine ⟨?_, words⟩
    simp only [HostEngine.owed, State.respond, State.setHost_host, Option.isSome_none, Bool.toNat_false,
      List.length_append, List.length_singleton]
    omega

/-- R127: a command in flight may change without a response more or fewer. -/
theorem State.channelLaw_of_flight {t : State} (law : s.channelLaw) (flight : s.host.inFlight.isSome = true)
    (responses : t.host.responses = s.host.responses) (reception : t.host.reception = s.host.reception)
    (flight' : t.host.inFlight.isSome = true) : t.channelLaw :=
  (State.channelLaw_congr responses (flight'.trans flight.symm) reception).mpr law

theorem State.endByAbort_channelLaw (law : s.channelLaw) (flight : s.host.inFlight.isSome = true) (f : InFlight) :
    (s.endByAbort f).channelLaw := by
  unfold State.endByAbort
  split
  · exact State.channelLaw_of_flight law flight rfl rfl rfl
  · exact State.endCommand_channelLaw law flight f _ _

theorem State.abortCommand_channelLaw (law : s.channelLaw) : s.abortCommand.channelLaw := by
  unfold State.abortCommand
  split
  · exact law
  next f flight =>
    have some_ : s.host.inFlight.isSome = true := by simp [flight]
    split
    · have withdrawn : s.withdrawHostStep.channelLaw := law
      exact (State.arbitrate_channelLaw _).mpr (State.endByAbort_channelLaw withdrawn some_ f)
    · exact State.channelLaw_of_flight law some_ rfl rfl rfl
    · exact law

theorem State.completeHostStep_channelLaw (law : s.channelLaw) (flight : s.host.inFlight.isSome = true)
    (f : InFlight) (r : StepResult) : (s.completeHostStep f r).channelLaw := by
  have freed : s.freeStore.channelLaw := law
  cases r with
  | done status results => exact (State.arbitrate_channelLaw _).mpr (State.endCommand_channelLaw freed flight f _ _)
  | more p =>
    simp only [State.completeHostStep]
    split
    · exact (State.arbitrate_channelLaw _).mpr (State.endByAbort_channelLaw freed flight _)
    · exact (State.arbitrate_channelLaw _).mpr (State.channelLaw_of_flight law flight rfl rfl rfl)

theorem FrameAnswer.channelLaw {u t : State} (answer : FrameAnswer u t) (reception : u.host.reception = none)
    (room : u.host.responses.length + u.host.inFlight.isSome.toNat ≤ 3) : t.channelLaw := by
  have answered (code : Byte) (status : Status) (results : List Word) :
      (u.respond code status results).channelLaw := by
    rw [State.channelLaw_iff_of_no_reception (by exact reception)]
    simp only [State.respond, State.setHost_host, List.length_append, List.length_singleton]
    omega
  cases answer with
  | nothing => exact (State.channelLaw_iff_of_no_reception reception).mpr (by omega)
  | answered code status results => exact answered code status results
  | entered c idle =>
    rw [State.enterFlight, State.arbitrate_channelLaw, State.channelLaw_iff_of_no_reception (by exact reception)]
    simp only [idle, Option.isSome_none, Bool.toNat_false] at room
    simp only [State.requestHostStep_host, State.setHost_host, Option.isSome_some, Bool.toNat_true]
    omega
  | aborted =>
    unfold State.takeAbort
    split
    · exact answered _ _ _
    · exact State.abortCommand_channelLaw (answered _ _ _)

theorem ChannelMove.channelLaw {t : State} (move : ChannelMove s t) (law : s.channelLaw) : t.channelLaw := by
  have cut := s.truncateReception_channelLaw law
  have nothing := s.truncateReception_reception
  cases move with
  | headed code length body => exact State.beginFrame_channelLaw law code (.inl body)
  | withheld code length nothing => exact State.beginFrame_channelLaw law code (.inr nothing)
  | received _ taken answer =>
    obtain ⟨reception, room⟩ := taken.room law
    exact answer.channelLaw reception room
  | cut => exact cut
  | cutAtOnce code =>
    exact State.truncateReception_channelLaw (State.beginFrame_channelLaw law code (.inl (by decide)))
  | read r rest head =>
    rw [State.channelLaw_iff_of_no_reception nothing, head] at cut
    rw [State.channelLaw_iff_of_no_reception (by exact nothing)]
    simp only [State.setHost_host]
    simp only [List.length_cons] at cut
    omega
  | resetAsserted released =>
    rw [State.assertHostReset, if_neg (by simp [released])]
    refine State.abortCommand_channelLaw ((State.channelLaw_iff_of_no_reception rfl).mpr ?_)
    have flight := Bool.toNat_le (s.host.inFlight.map fun f => { f with silent := true }).isSome
    simp only [State.setHost_host, List.length_nil]
    omega
  | resetReleased => exact law

@[simp] theorem State.takeUp_channelLaw (s : State) (l : Lane) : (s.takeUp l).channelLaw ↔ s.channelLaw :=
  State.channelLaw_congr (by simp) (by simp) (by simp)

theorem State.completeLaneStep_channelLaw (s : State) (l : Lane) (m : Option Message) (takeUp : Bool) :
    (s.completeLaneStep l m takeUp).channelLaw ↔ s.channelLaw := by
  cases h : (s.lane l).restartWaiting <;> cases takeUp <;>
    exact State.channelLaw_congr (by simp [State.completeLaneStep, h]) (by simp [State.completeLaneStep, h])
      (by simp [State.completeLaneStep, h])

theorem State.restartArrives_channelLaw (s : State) (l : Lane) : (s.restartArrives l).channelLaw ↔ s.channelLaw := by
  unfold State.restartArrives
  dsimp only
  split
  · exact .rfl
  · exact State.arbitrate_channelLaw _

theorem Effect.channelLaw {t : State} (effect : Effect s t) (law : s.channelLaw) : t.channelLaw := by
  cases effect with
  | nothing => exact law
  | powerOn asserted => simp [State.channelLaw, State.withPins, State.reset, HostEngine.reset]
  | channel move => exact move.channelLaw law
  | hostStep f r work busy flight =>
    have worked := (State.channelLaw_congr (congrArg _ work.host) (by rw [work.host]) (congrArg _ work.host)).mpr law
    exact State.completeHostStep_channelLaw worked (by simp [work.host, flight]) f r
  | laneStep l x reply takeUp work =>
    rw [State.completeLaneStep_channelLaw]
    exact (State.channelLaw_congr (congrArg _ work.host) (by rw [work.host]) (congrArg _ work.host)).mpr law
  | unit l move => exact law
  | restarted l => exact (s.restartArrives_channelLaw l).mpr law
  | service l => exact (State.arbitrate_channelLaw _).mpr ((s.takeUp_channelLaw l).mpr law)
  | ticked => exact law

end

/-- Settles O14: each effect of a step keeps the law, and the law bounds the queue. -/
theorem responsesNeverExceedFour : Obligations.ResponsesNeverExceedFour := by
  unfold Obligations.ResponsesNeverExceedFour
  intro s t notShort law next
  obtain ⟨queue, effect⟩ := step_effect notShort next
  have kept : t.channelLaw := effect.channelLaw law
  exact ⟨kept, by have := kept.1; omega⟩

end Sys2Proof.Machine
end

section
/-!
PROOF. Obligation O13: the host wait count is at most 4 and is 0 while the host's request does not stand, and no request
stands at a free store (R120, R121), since every event that makes a request or frees the store ends with a grant.
-/
namespace Sys2Proof.Machine

/-- R121: what the law says of the host wait count alone. -/
def Arbiter.waitLaw (a : Arbiter) : Prop :=
  a.hostWait ≤ Config.hostShare ∧ (a.hostRequest = false → a.hostWait = 0)

/-- R120: no request stands. -/
def Arbiter.quiet (a : Arbiter) : Prop := a.hostRequest = false ∧ ∀ l : Lane, a.laneRequests[l] = false

theorem State.arbiterLaw_iff (s : State) :
    s.arbiterLaw ↔ s.arbiter.waitLaw ∧ (s.arbiter.busy = none → s.arbiter.quiet) := by
  simp only [State.arbiterLaw, Arbiter.waitLaw, Arbiter.quiet, and_assoc]

theorem mem_lanesAfter (l j : Lane) : j ∈ lanesAfter l := by
  revert l j
  decide

/-- R121: the arbiter chooses nothing only when no request stands. -/
theorem Arbiter.quiet_of_choice_none {a : Arbiter} (h : a.choice = none) : a.quiet := by
  unfold Arbiter.choice at h
  split at h
  · cases h
  · split at h
    · cases h
    next noLane =>
      split at h
      · cases h
      next noHost =>
        refine ⟨by simpa using noHost, fun l => ?_⟩
        simpa using List.find?_eq_none.mp noLane l (mem_lanesAfter _ l)

/-- R121: a lane is granted only while the host engine has not come to its share. -/
theorem Arbiter.share_of_choice_lane {a : Arbiter} {l : Lane} (h : a.choice = some (.lane l)) :
    a.hostRequest = true → a.hostWait ≠ Config.hostShare := by
  unfold Arbiter.choice at h
  split at h
  · cases h
  next below => exact fun request full => below ⟨request, full⟩

theorem Arbiter.grantLane_waitLaw {a : Arbiter} {l : Lane} (law : a.waitLaw) (choice : a.choice = some (.lane l)) :
    (a.grantLane l).waitLaw := by
  obtain ⟨most, idle⟩ := law
  unfold Arbiter.grantLane Arbiter.waitLaw
  cases request : a.hostRequest with
  | false => simpa [request] using ⟨most, idle request⟩
  | true =>
    have below := Arbiter.share_of_choice_lane choice request
    simp only [if_true, Bool.true_eq_false, false_implies, and_true]
    omega

/-- R121: whatever requests stand, after the arbiter's turn none stands at a free store. -/
theorem State.arbitrate_arbiterLaw (s : State) (law : s.arbiter.waitLaw) : s.arbitrate.arbiterLaw := by
  rw [State.arbiterLaw_iff]
  unfold State.arbitrate
  split
  next r busy => exact ⟨law, by simp [busy]⟩
  next =>
    split
    next none_ => exact ⟨law, fun _ => Arbiter.quiet_of_choice_none none_⟩
    next l choice => exact ⟨Arbiter.grantLane_waitLaw law choice, by simp [Arbiter.grantLane]⟩
    next =>
      refine ⟨⟨?_, ?_⟩, ?_⟩ <;> simp [Arbiter.grantHost]

section
variable {s : State}

theorem State.endByAbort_waitLaw (f : InFlight) (law : s.arbiter.waitLaw) : (s.endByAbort f).arbiter.waitLaw := by
  unfold State.endByAbort
  split
  · exact ⟨law.1, by simp [State.requestHostStep]⟩
  · rw [State.endCommand_arbiter]
    exact law

theorem State.abortCommand_arbiterLaw (law : s.arbiterLaw) : s.abortCommand.arbiterLaw := by
  unfold State.abortCommand
  split
  · exact law
  · split
    · refine State.arbitrate_arbiterLaw _ (State.endByAbort_waitLaw _ ?_)
      simp [State.withdrawHostStep, Arbiter.waitLaw]
    · exact law
    · exact law

theorem State.completeHostStep_arbiterLaw (law : s.arbiter.waitLaw) (f : InFlight) (r : StepResult) :
    (s.completeHostStep f r).arbiterLaw := by
  have freed : s.freeStore.arbiter.waitLaw := law
  cases r with
  | done status results =>
    refine State.arbitrate_arbiterLaw _ ?_
    rw [State.endCommand_arbiter]
    exact freed
  | more p =>
    simp only [State.completeHostStep]
    split
    · exact State.arbitrate_arbiterLaw _ (State.endByAbort_waitLaw _ freed)
    · exact State.arbitrate_arbiterLaw _ ⟨law.1, by simp [State.requestHostStep]⟩

/-- R103: taking up work changes the lanes' requests alone. -/
theorem State.takeUp_waitLaw (l : Lane) (law : s.arbiter.waitLaw) : (s.takeUp l).arbiter.waitLaw := by
  rcases s.takeUp_frame l with h | ⟨u, h⟩ | ⟨u, h⟩ <;> rw [h] <;> exact law

theorem State.completeLaneStep_arbiterLaw (law : s.arbiter.waitLaw) (l : Lane) (m : Option Message) (takeUp : Bool) :
    (s.completeLaneStep l m takeUp).arbiterLaw := by
  refine State.arbitrate_arbiterLaw _ ?_
  have requested : (if (s.lane l).restartWaiting then
      ((s.freeStore).setLane l ((s.lane l).stepDone m)).requestLaneStep l
      else (s.freeStore).setLane l ((s.lane l).stepDone m)).arbiter.waitLaw := by
    split <;> exact law
  split
  · exact State.takeUpAll_keeps (fun t => t.arbiter.waitLaw) _ l (fun _ => State.takeUp_waitLaw l) requested
  · exact requested

theorem FrameAnswer.arbiterLaw {u t : State} (answer : FrameAnswer u t) (law : u.arbiterLaw) : t.arbiterLaw := by
  cases answer with
  | nothing => exact law
  | answered => exact law
  | entered c idle =>
    exact State.arbitrate_arbiterLaw _ ⟨law.1, by simp [State.requestHostStep]⟩
  | aborted =>
    unfold State.takeAbort
    split
    · exact law
    · exact State.abortCommand_arbiterLaw (s := u.respond _ _ _) law

theorem State.arbiterLaw_congr {t : State} (same : t.arbiter = s.arbiter) : t.arbiterLaw ↔ s.arbiterLaw := by
  simp only [State.arbiterLaw, same]

theorem FrameTaken.arbiter {u : State} (taken : FrameTaken s u) : u.arbiter = s.arbiter := by
  cases taken with
  | afterHeader => rfl
  | withHeader => simp

theorem ChannelMove.arbiterLaw {t : State} (move : ChannelMove s t) (law : s.arbiterLaw) : t.arbiterLaw := by
  cases move with
  | received _ taken answer => exact answer.arbiterLaw ((State.arbiterLaw_congr taken.arbiter).mpr law)
  | resetAsserted released =>
    rw [State.assertHostReset, if_neg (by simp [released])]
    exact State.abortCommand_arbiterLaw law
  | resetReleased => exact law
  | _ => exact (State.arbiterLaw_congr (by simp)).mpr law

theorem Effect.arbiterLaw {t : State} (effect : Effect s t) (law : s.arbiterLaw) : t.arbiterLaw := by
  obtain ⟨wait, quiet⟩ := s.arbiterLaw_iff.mp law
  cases effect with
  | nothing => exact law
  | powerOn asserted =>
    refine ⟨by simp [State.withPins, State.reset, Arbiter.reset], fun _ => rfl, fun _ => ⟨rfl, fun l => ?_⟩⟩
    simp [State.withPins, State.reset, Arbiter.reset]
  | channel move => exact move.arbiterLaw law
  | hostStep f r work => exact State.completeHostStep_arbiterLaw (by rwa [work.arbiter]) f r
  | laneStep l x reply takeUp work => exact State.completeLaneStep_arbiterLaw (by rwa [work.arbiter]) l reply takeUp
  | unit l move => exact law
  | restarted l =>
    unfold State.restartArrives
    dsimp only
    split
    · exact law
    · exact State.arbitrate_arbiterLaw _ wait
  | service l => exact State.arbitrate_arbiterLaw _ (State.takeUp_waitLaw l wait)
  | ticked => exact law

end

/-- Settles O13: each effect of a step keeps the law. -/
theorem arbiterLawIsKept : Obligations.ArbiterLawIsKept := by
  unfold Obligations.ArbiterLawIsKept
  intro s t notShort law next
  obtain ⟨queue, effect⟩ := step_effect notShort next
  exact effect.arbiterLaw law

end Sys2Proof.Machine
end

section
/-!
PROOF. Obligations O1 to O5: the machine as a whole, its queue of events, its power-on reset.
-/
namespace Sys2Proof.Machine

/-! ### The queue of events -/

section
variable {s t : State}

theorem ChannelMove.pending (move : ChannelMove s t) : t.pending = s.pending := by
  cases move with
  | received _ taken answer =>
    have begun : ∀ u, FrameTaken s u → u.pending = s.pending := by
      rintro u (⟨r, -⟩ | ⟨code, length, r, -⟩) <;> simp
    rw [← begun _ taken]
    cases answer with
    | aborted =>
      unfold State.takeAbort
      split <;> simp
    | _ => simp
  | resetAsserted released => simp [State.assertHostReset, released]
  | resetReleased => rfl
  | _ => simp

theorem Effect.pending (effect : Effect s t) : t.pending = s.pending := by
  cases effect with
  | channel move => exact move.pending
  | hostStep f r work => rw [State.completeHostStep_pending, work.pending]
  | laneStep l x reply takeUp work => rw [State.completeLaneStep_pending, work.pending]
  | _ => simp

end

/-- Settles O3: every event has an effect, and none changes the queue. -/
theorem noEventStopsOrTouchesTheQueue : Obligations.NoEventStopsOrTouchesTheQueue := by
  unfold Obligations.NoEventStopsOrTouchesTheQueue
  intro i s
  by_cases short : ∃ n, i = .powerOnReset (.released n)
  · obtain ⟨n, rfl⟩ := short
    exact ⟨_, rfl, rfl⟩
  · obtain ⟨t, reached, effect⟩ := exec_effect s i fun n e => absurd ⟨n, e⟩ short
    exact ⟨t, reached, effect.pending⟩

/-- Settles O1: the definition of a step. -/
theorem stepTakesTheFrontEvent : Obligations.StepTakesTheFrontEvent := by
  unfold Obligations.StepTakesTheFrontEvent
  intro s c rest waiting
  simp only [step, waiting]

/-- Settles O2: the tick of a state, by the level of the pin. -/
theorem emptyQueuePassesOneMicrosecond : Obligations.EmptyQueuePassesOneMicrosecond := by
  unfold Obligations.EmptyQueuePassesOneMicrosecond
  intro s idle
  refine ⟨fun held => ?_, fun released => ?_⟩
  · simp only [step, idle, State.tick, held, if_true]
  · refine ⟨_, by simp only [step, idle]; rfl, ?_⟩
    simp only [State.tick, released, Bool.false_eq_true, if_false]
    exact ⟨trivial, trivial, trivial, trivial, trivial, trivial, trivial, idle, fun l => by
      simp [State.lane, LaneUnit.beginSending]⟩

/-! ### Power-on reset (R168) -/

/-- R168: what the reset pin holds the part at: its reset value, with the level of the host-channel reset line and the
events that wait. -/
def heldInReset (lineHeld : Bool) (queue : List Instr) : State :=
  { State.reset with host := { State.reset.host with lineHeld := lineHeld }, resetHeld := true, pending := queue }

theorem State.resetLaw_iff (s : State) :
    s.resetLaw ↔ (s.resetHeld = true → s = heldInReset s.host.lineHeld s.pending) := .rfl

theorem heldInReset_resetLaw (lineHeld : Bool) (queue : List Instr) : (heldInReset lineHeld queue).resetLaw :=
  fun _ => rfl

section
variable (b : Bool) (queue : List Instr)

theorem heldInReset_lane (l : Lane) : (heldInReset b queue).lane l = LaneUnit.reset := by
  simp [heldInReset, State.reset, State.lane]

theorem heldInReset_channelHeld : (heldInReset b queue).channelHeld = true := by
  simp [State.channelHeld, heldInReset]

theorem heldInReset_setLane (l : Lane) : (heldInReset b queue).setLane l LaneUnit.reset = heldInReset b queue := by
  rw [← heldInReset_lane b queue l]
  simp [State.setLane, State.lane]

theorem heldInReset_beginFrame (code length : Byte) :
    (heldInReset b queue).beginFrame code length = heldInReset b queue := by
  rw [State.beginFrame_spec, if_pos (heldInReset_channelHeld b queue)]

/-- R168: no move of the host channel but of its reset line reaches the part. -/
theorem heldInReset_channelMove {t : State} (move : ChannelMove (heldInReset b queue) t) : t.resetLaw := by
  have held := heldInReset_channelHeld b queue
  cases move with
  | headed code length => rw [heldInReset_beginFrame]; exact heldInReset_resetLaw b queue
  | withheld code length => rw [heldInReset_beginFrame]; exact heldInReset_resetLaw b queue
  | resetAsserted released =>
    have released : b = false := released
    subst released
    exact heldInReset_resetLaw true queue
  | resetReleased => exact heldInReset_resetLaw false queue
  | received released => rw [held] at released; cases released
  | cut released => rw [held] at released; cases released
  | cutAtOnce _ released => rw [held] at released; cases released
  | read _ _ _ released => rw [held] at released; cases released

/-- R168: while the pin is asserted no event changes anything in the part. -/
theorem heldInReset_effect {t : State} (effect : Effect (heldInReset b queue) t) : t.resetLaw := by
  have nothing := heldInReset_resetLaw b queue
  cases effect with
  | nothing => exact nothing
  | powerOn asserted =>
    intro pin
    obtain rfl : asserted = true := pin
    rfl
  | channel move => exact heldInReset_channelMove b queue move
  | hostStep f r work busy => cases busy
  | laneStep l x reply takeUp work stepping => cases stepping
  | unit l move =>
    cases move with
    | accepted r released => cases released
    | faulted released => cases released
    | settled p c => rw [heldInReset_lane]; exact (heldInReset_setLane b queue l).symm ▸ nothing
    | expired position _ _ _ _ _ stands => rw [heldInReset_lane] at stands; cases stands
    | sent => rw [heldInReset_lane]; exact (heldInReset_setLane b queue l).symm ▸ nothing
  | restarted l released => cases released
  | service l =>
    rw [State.takeUp_idle _ _ (by rw [heldInReset_lane]; rfl) (by rw [heldInReset_lane]; rfl)]
    exact nothing
  | ticked released => cases released

end

/-- R168: an event that is no power-on reset leaves the level of the pin. -/
theorem Effect.resetHeld {s t : State} (effect : Effect s t) :
    t.resetHeld = s.resetHeld ∨ ∃ asserted, t = s.withPins State.reset asserted := by
  cases effect with
  | powerOn asserted => exact .inr ⟨asserted, rfl⟩
  | hostStep f r work => exact .inl (by rw [State.completeHostStep_resetHeld, work.resetHeld])
  | laneStep l x reply takeUp work => exact .inl (by rw [State.completeLaneStep_resetHeld, work.resetHeld])
  | channel move =>
    left
    cases move with
    | received _ taken answer =>
      have begun : ∀ u, FrameTaken s u → u.resetHeld = s.resetHeld := by
        rintro u (⟨r, -⟩ | ⟨code, length, r, -⟩) <;> simp
      rw [← begun _ taken]
      cases answer with
      | aborted =>
        unfold State.takeAbort
        split <;> simp
      | _ => simp
    | resetAsserted released => simp [State.assertHostReset, released]
    | resetReleased => rfl
    | _ => simp
  | _ => left; simp

theorem Effect.resetLaw {s t : State} (effect : Effect s t) (law : s.resetLaw) : t.resetLaw := by
  intro pin
  cases held : s.resetHeld with
  | true =>
    have same := law held
    rw [same] at effect
    exact heldInReset_effect _ _ effect pin
  | false =>
    rcases effect.resetHeld with same | ⟨asserted, rfl⟩
    · rw [same, held] at pin
      cases pin
    · obtain rfl : asserted = true := pin
      rfl

theorem step_resetLaw {s t : State} (law : s.resetLaw) (next : step s = .next t) : t.resetLaw := by
  by_cases short : ∃ n rest, s.pending = .powerOnReset (.released n) :: rest
  · obtain ⟨n, rest, waiting⟩ := short
    simp only [step, waiting] at next
    cases next
    intro pin
    cases pin
  · obtain ⟨queue, effect⟩ := step_effect (fun n rest e => absurd ⟨n, rest, e⟩ short) next
    refine effect.resetLaw fun held => ?_
    have same := law held
    rw [State.mk.injEq] at same ⊢
    simpa using same

/-- Settles O4: what a full power-on reset leaves, and what the pin holds. -/
theorem powerOnResetLeavesTheStatedValues : Obligations.PowerOnResetLeavesTheStatedValues := by
  unfold Obligations.PowerOnResetLeavesTheStatedValues
  refine ⟨fun heldMicros s => ⟨fun full => ?_, rfl⟩, fun s t => step_resetLaw, rfl, rfl, rfl, rfl, fun k => ?_,
    fun l => ?_, fun g => ?_, fun n => ?_, rfl, fun c => ?_, fun l => ?_, fun l => ?_, rfl, rfl, rfl, rfl, rfl, rfl,
    rfl, rfl, rfl, rfl⟩
  · exact congrArg Host.Outcome.next (s.releasePowerOn_full heldMicros full)
  · simp [State.outlet, State.reset, Store.reset, OutletEntry.reset]
  · simp [State.bin, State.reset, Store.reset]
  · simp [State.group, State.reset, Store.reset, GroupEntry.reset]
  · simp [State.rule, State.reset, Store.reset, RuleEntry.reset]
  · simp [State.cursor, State.reset, Store.reset, Cursor.reset]
  · simp [State.lane, State.reset, LaneUnit.reset]
  · simp [State.reset, Arbiter.reset]

/-! ### The laws at reset -/

section

@[simp] theorem State.reset_outlet (k : OutletId) : State.reset.outlet k = OutletEntry.reset := by
  simp [State.outlet, State.reset, Store.reset]

@[simp] theorem State.reset_bin (l : Lane) : State.reset.bin l = { reserved := 0, expected := [] } := by
  simp [State.bin, State.reset, Store.reset]

@[simp] theorem State.reset_lane (l : Lane) : State.reset.lane l = LaneUnit.reset := by
  simp [State.lane, State.reset]

@[simp] theorem State.reset_cursor (c : CursorId) : State.reset.cursor c = Cursor.reset := by
  simp [State.cursor, State.reset, Store.reset]

@[simp] theorem State.reset_records : State.reset.store.records = [] := rfl
@[simp] theorem State.reset_keyIndex : State.reset.store.keyIndex = [] := rfl
@[simp] theorem State.reset_attention : State.reset.store.attention = [] := rfl

theorem State.reset_routedCount (l : Lane) : State.reset.routedCount l = 0 := by
  simp [State.routedCount, State.reset, Store.reset, OutletEntry.reset, State.bin, OutletEntry.definedOn]

theorem State.reset_recordsLaw : State.reset.recordsLaw := by
  refine ⟨.nil, by simp, rfl, fun k => ?_⟩
  cases k <;> rfl

theorem State.reset_orderLaw : State.reset.orderLaw := by
  refine ⟨fun k => ?_, fun l => ?_, fun l => ⟨fun _ => State.reset_routedCount l, by simp⟩⟩
  · simp [risesBy, OutletEntry.reset]
  · simp [risesBy]

/-- Settles O5: each law on the empty directory and the idle engines. -/
theorem lawsHoldAtReset : Obligations.LawsHoldAtReset := by
  unfold Obligations.LawsHoldAtReset
  have emptyIndex : State.reset.indexLaw := ⟨.nil, by simp, by simp⟩
  have emptyLists : State.reset.listsLaw := by simp [State.listsLaw, OutletEntry.reset]
  have noMembers : State.reset.membershipLaw := by simp [State.membershipLaw, OutletEntry.reset]
  have atEnds : State.reset.cursorsLaw := by simp [State.cursorsLaw, Cursor.reset]
  have noEntries : State.reset.attentionLaw := ⟨.nil, by simp⟩
  have stopped : State.reset.lanesLaw := by simp [State.lanesLaw, LaneUnit.reset]
  have noRequests : State.reset.arbiterLaw := by simp [State.arbiterLaw, State.reset, Arbiter.reset]
  have released : State.reset.resetLaw := by simp [State.resetLaw, State.reset]
  have idle : State.reset.channelLaw := by simp [State.channelLaw, State.reset, HostEngine.reset]
  have noPending : State.reset.pendingLaw := by simp [State.pendingLaw, LaneUnit.reset]
  refine ⟨State.reset_recordsLaw, emptyIndex, emptyLists, noMembers, State.reset_orderLaw, atEnds, noEntries,
    State.reset_linesLaw, stopped, noRequests, released, idle, noPending, fun l => ?_⟩
  refine ⟨?_, ?_, ?_⟩
  · simp [LaneUnit.flowLaw, LaneUnit.reset, LaneUnit.outstanding, LaneUnit.noticeTickets]
  · simp [LaneUnit.reviseLaw, LaneUnit.reset]
  · simp [State.outboundLaw, LaneUnit.reset]

end

end Sys2Proof.Machine
end

section
/-!
SUPPORT. What a step of the machine leaves of the record store and of each lane's register (its state, its counter and
the counter's mark): that of one store work, the queues and the host channel apart.
-/
namespace Sys2Proof.Machine

/-- R61, R108: the lane's state, its induction-ordinal counter and the counter's mark are as they were. -/
structure LaneUnit.sameRegister (u v : LaneUnit) : Prop where
  state : v.state = u.state
  counter : v.ordinalCounter = u.ordinalCounter
  exhausted : v.exhausted = u.exhausted

theorem LaneUnit.sameRegister_refl (u : LaneUnit) : u.sameRegister u := ⟨rfl, rfl, rfl⟩

theorem LaneUnit.sameRegister.trans {u v w : LaneUnit} (h : u.sameRegister v) (h' : v.sameRegister w) :
    u.sameRegister w := ⟨h'.state.trans h.state, h'.counter.trans h.counter, h'.exhausted.trans h.exhausted⟩

/-- Every lane's register is as it was. -/
def State.sameRegisters (s t : State) : Prop := ∀ l, (s.lane l).sameRegister (t.lane l)

theorem State.sameRegisters_refl (s : State) : s.sameRegisters s := fun l => (s.lane l).sameRegister_refl

theorem State.sameRegisters.trans {s t u : State} (h : s.sameRegisters t) (h' : t.sameRegisters u) :
    s.sameRegisters u := fun l => (h l).trans (h' l)

theorem State.sameRegisters_of_lanes {s t : State} (h : t.lanes = s.lanes) : s.sameRegisters t := fun l => by
  simp only [State.lane, h]
  exact LaneUnit.sameRegister_refl _

theorem State.sameRegisters_setLane {s t : State} {l : Lane} {u : LaneUnit} (h : s.sameRegisters t)
    (hu : (s.lane l).sameRegister u) : s.sameRegisters (t.setLane l u) := fun j => by
  rw [State.lane_setLane]
  split
  next e => exact e ▸ hu
  next => exact h j

/-! ### The queues of a lane unit -/

theorem LaneUnit.markLinkFault_sameRegister (u : LaneUnit) : u.sameRegister u.markLinkFault := by
  unfold LaneUnit.markLinkFault
  split <;> exact ⟨rfl, rfl, rfl⟩

theorem UnitMove.sameRegister {s : State} {l : Lane} {u : LaneUnit} (move : UnitMove s l u) :
    (s.lane l).sameRegister u := by
  cases move with
  | accepted r =>
    unfold LaneUnit.accept
    split
    · exact ⟨rfl, rfl, rfl⟩
    · exact LaneUnit.markLinkFault_sameRegister _
  | faulted => exact LaneUnit.markLinkFault_sameRegister _
  | settled p c =>
    unfold LaneUnit.settleEntry
    split <;> exact ⟨rfl, rfl, rfl⟩
  | expired => exact ⟨rfl, rfl, rfl⟩
  | sent =>
    unfold LaneUnit.messageSent
    split
    · exact ⟨rfl, rfl, rfl⟩
    · unfold LaneUnit.headSent
      split <;> exact ⟨rfl, rfl, rfl⟩

theorem State.takeUp_sameRegisters (s : State) (l : Lane) : s.sameRegisters (s.takeUp l) := by
  have set (u : LaneUnit) (h : (s.lane l).sameRegister u) : s.sameRegisters (s.setLane l u) :=
    State.sameRegisters_setLane s.sameRegisters_refl h
  rw [State.takeUp_spec]
  split
  · exact s.sameRegisters_refl
  · split
    · exact set _ ⟨rfl, rfl, rfl⟩
    · split
      · exact s.sameRegisters_refl
      · split <;> exact set _ ⟨rfl, rfl, rfl⟩
      · exact set _ ⟨rfl, rfl, rfl⟩

theorem State.takeUpAll_sameRegisters (s : State) (l : Lane) : s.sameRegisters (s.takeUpAll l) :=
  State.takeUpAll_keeps (fun t => s.sameRegisters t) s l (fun t h => h.trans (t.takeUp_sameRegisters l))
    s.sameRegisters_refl

theorem State.arbitrate_sameRegisters (s : State) : s.sameRegisters s.arbitrate :=
  State.sameRegisters_of_lanes (by simp)

theorem LaneUnit.stepDone_sameRegister (u : LaneUnit) (reply : Option Message) : u.sameRegister (u.stepDone reply) := by
  unfold LaneUnit.stepDone LaneUnit.dropItem
  split <;> exact ⟨rfl, rfl, rfl⟩

theorem State.completeLaneStep_sameRegisters (s : State) (l : Lane) (m : Option Message) (takeUp : Bool) :
    s.sameRegisters (s.completeLaneStep l m takeUp) := by
  have done : s.sameRegisters ((s.freeStore).setLane l ((s.lane l).stepDone m)) :=
    State.sameRegisters_setLane (State.sameRegisters_of_lanes rfl) (LaneUnit.stepDone_sameRegister _ _)
  refine State.sameRegisters.trans ?_ (State.arbitrate_sameRegisters _)
  have asked : s.sameRegisters (if (s.lane l).restartWaiting then
      ((s.freeStore).setLane l ((s.lane l).stepDone m)).requestLaneStep l
      else (s.freeStore).setLane l ((s.lane l).stepDone m)) := by
    split <;> exact done
  split
  · exact asked.trans (State.takeUpAll_sameRegisters _ l)
  · exact asked

/-! ### The inversion of a step -/

theorem ChannelMove.store {s t : State} (move : ChannelMove s t) : t.store = s.store ∧ t.lanes = s.lanes := by
  cases move with
  | received _ taken answer =>
    have begun : ∀ u, FrameTaken s u → u.store = s.store ∧ u.lanes = s.lanes := by
      rintro u (⟨r, -⟩ | ⟨code, length, r, -⟩) <;> simp
    obtain ⟨store, lanes⟩ := begun _ taken
    rw [← store, ← lanes]
    cases answer with
    | aborted =>
      unfold State.takeAbort
      split <;> simp
    | _ => simp
  | resetAsserted released => simp [State.assertHostReset, released]
  | resetReleased => exact ⟨rfl, rfl⟩
  | _ => simp

/-- R117: of the record store and the lanes' registers a step of the machine leaves what power-on reset does, or what
one store work does. -/
theorem Effect.storeWork {s t : State} (effect : Effect s t) :
    (∃ asserted, t = s.withPins State.reset asserted) ∨
      ∃ u, StoreWork s u ∧ t.store = u.store ∧ u.sameRegisters t := by
  have still {t : State} (store : t.store = s.store) (registers : s.sameRegisters t) :
      (∃ asserted, t = s.withPins State.reset asserted) ∨
        ∃ u, StoreWork s u ∧ t.store = u.store ∧ u.sameRegisters t := .inr ⟨s, .nothing, store, registers⟩
  cases effect with
  | nothing => exact still rfl s.sameRegisters_refl
  | powerOn asserted => exact .inl ⟨asserted, rfl⟩
  | channel move => exact still move.store.1 (State.sameRegisters_of_lanes move.store.2)
  | hostStep f r work =>
    exact .inr ⟨_, work, by simp, State.sameRegisters_of_lanes (by simp)⟩
  | laneStep l x reply takeUp work =>
    exact .inr ⟨_, work, by simp, State.completeLaneStep_sameRegisters _ _ _ _⟩
  | unit l move => exact still rfl (State.sameRegisters_setLane s.sameRegisters_refl move.sameRegister)
  | restarted l =>
    have arrived : s.sameRegisters (s.setLane l ((s.lane l).restartArrives
        (decide (s.arbiter.busy = some (.lane l))))) :=
      State.sameRegisters_setLane s.sameRegisters_refl ⟨rfl, rfl, rfl⟩
    refine still (by simp) ?_
    unfold State.restartArrives
    dsimp only
    split
    · exact arrived
    · refine State.sameRegisters.trans ?_ (State.arbitrate_sameRegisters _)
      exact arrived
  | service l =>
    exact still (by simp) ((s.takeUp_sameRegisters l).trans (State.arbitrate_sameRegisters _))
  | ticked => exact still rfl fun l => by simpa [State.lane] using ⟨rfl, rfl, rfl⟩

/-- The laws that speak of the record store alone are kept by a step when reset meets them and every store work keeps
them. -/
theorem step_keeps_storeLaw {law : State → Prop} (congr : ∀ {s t : State}, t.store = s.store → law s → law t)
    (reset : law State.reset) {s t : State} (work : ∀ {s u : State}, law s → StoreWork s u → law u)
    (notShort : s.noShortPowerOn) (hs : law s) (next : step s = .next t) : law t := by
  obtain ⟨queue, effect⟩ := step_effect notShort next
  rcases effect.storeWork with ⟨asserted, rfl⟩ | ⟨u, done, store, -⟩
  · exact congr (s := State.reset) rfl reset
  · exact congr store (work (congr (s := s) (t := { s with pending := queue }) rfl hs) done)

end Sys2Proof.Machine
end

section
/-!
PROOF. Obligation O8: every step leaves each cursor at an end of its view or on a member of it, since the completion
of a step slips each cursor whose record has left its view (R141).
-/
namespace Sys2Proof.Machine

/-- R137: the members of a view are told by the records, the key index and the lists. -/
theorem State.members_congr {s t : State} (records : t.store.records = s.store.records)
    (keyIndex : t.store.keyIndex = s.store.keyIndex) (outlets : t.store.outlets = s.store.outlets)
    (bins : t.store.bins = s.store.bins) (v : View) : t.members v = s.members v := by
  have state (k : StateKind) : t.isInState k = s.isInState k := by
    funext ref
    simp only [State.isInState, State.record?, records]
  cases v <;> simp only [State.members, State.outlet, State.bin, keyIndex, outlets, bins, state]

theorem State.cursorsLaw_congr {s t : State} (store : t.store = s.store) (law : s.cursorsLaw) : t.cursorsLaw := by
  intro c ref at_
  have cursor : t.cursor c = s.cursor c := by simp only [State.cursor, store]
  rw [cursor] at at_ ⊢
  rw [State.members_congr (s := s) (by rw [store]) (by rw [store]) (by rw [store]) (by rw [store])]
  exact law c ref at_

/-- R141: a cursor that slips goes to a member of its view, and one that stays is on one. -/
theorem slipCursor_member {before after : State} {c : Cursor} {ref : Ref}
    (law : ∀ q, c.position = .record q → q ∈ before.members c.view)
    (at_ : (slipCursor before after c).position = .record ref) :
    ref ∈ after.members (slipCursor before after c).view := by
  unfold slipCursor at at_ ⊢
  split at at_
  next q on =>
    split at at_
    next leaves =>
      rw [if_pos leaves]
      have slipped := mem_of_positionAtHead at_
      simpa using (List.mem_filter.mp slipped).2
    next stays =>
      rw [if_neg stays]
      obtain rfl : q = ref := Position.record.inj (on.symm.trans at_)
      by_contra gone
      exact stays ⟨law q on, gone⟩
  next ends => exact absurd at_ (ends ref)

theorem commit_cursorsLaw {b a : State} {xs : List (Subject × Reason)} (law : b.cursorsLaw)
    (cursors : a.store.cursors = b.store.cursors) : (commit b a xs).cursorsLaw := by
  intro c ref at_
  have slipped : (commit b a xs).cursor c = slipCursor b (State.advanceRevisions b a) (b.cursor c) := by
    simp [State.cursor, cursors]
  rw [slipped] at at_ ⊢
  rw [State.members_congr (s := State.advanceRevisions b a) (by simp [State.advanceRevisions])
    (by simp [State.advanceRevisions]) (by simp [State.advanceRevisions]) (by simp [State.advanceRevisions])]
  exact slipCursor_member (law c) at_

theorem StoreWork.cursorsLaw {s t : State} (work : StoreWork s t) (law : s.cursorsLaw) : t.cursorsLaw := by
  have kept {t : State} (cursors : t.store.cursors = s.store.cursors) (members : ∀ v, t.members v = s.members v) :
      t.cursorsLaw := by
    intro c ref at_
    have cursor : t.cursor c = s.cursor c := by simp only [State.cursor, cursors]
    rw [cursor] at at_ ⊢
    rw [members]
    exact law c ref at_
  have sameLists {t : State} (cursors : t.store.cursors = s.store.cursors)
      (records : t.store.records = s.store.records) (keyIndex : t.store.keyIndex = s.store.keyIndex)
      (outlets : t.store.outlets = s.store.outlets) (bins : t.store.bins = s.store.bins) : t.cursorsLaw :=
    kept cursors (State.members_congr records keyIndex outlets bins)
  cases work with
  | changed change => exact commit_cursorsLaw law change.keepsOutside.cursors
  | cursorSet c v member =>
    intro j ref at_
    rw [State.cursor_setCursor] at at_ ⊢
    have members (w : View) : (s.setCursor c v).members w = s.members w := State.members_congr rfl rfl rfl rfl w
    rw [members]
    split at at_
    next same => rw [if_pos same]; exact member law ref at_
    next other => rw [if_neg other]; exact law j ref at_
  | directoryReset =>
    intro c ref at_
    simp [State.cursor, State.finishReset, Cursor.finishReset] at at_
  | _ => exact sameLists rfl rfl rfl rfl rfl

/-- Settles O8: reset has no cursor on a record, and every store work keeps the law. -/
theorem cursorsLawIsKept : Obligations.CursorsLawIsKept := by
  unfold Obligations.CursorsLawIsKept
  intro s t notShort law next
  have reset : State.reset.cursorsLaw := by simp [State.cursorsLaw, Cursor.reset]
  exact step_keeps_storeLaw State.cursorsLaw_congr reset (fun law work => work.cursorsLaw law) notShort law next

end Sys2Proof.Machine
end

section
/-!
SUPPORT. What the operations on records and lists leave as it was, and what they make of the records: the layer that
the laws of the records, the lists and the lanes are derived from.
-/
namespace Sys2Proof.Machine

section
variable (s : State)

/-! ### Changing a record (R2, R11) -/

@[simp] theorem State.updateRecord_lanes (ref : Ref) (f : ItemRecord → ItemRecord) :
    (s.updateRecord ref f).lanes = s.lanes := rfl
@[simp] theorem State.updateRecord_outlets (ref : Ref) (f : ItemRecord → ItemRecord) :
    (s.updateRecord ref f).store.outlets = s.store.outlets := rfl
@[simp] theorem State.updateRecord_bins (ref : Ref) (f : ItemRecord → ItemRecord) :
    (s.updateRecord ref f).store.bins = s.store.bins := rfl
@[simp] theorem State.updateRecord_keyIndex (ref : Ref) (f : ItemRecord → ItemRecord) :
    (s.updateRecord ref f).store.keyIndex = s.store.keyIndex := rfl
@[simp] theorem State.updateRecord_counts (ref : Ref) (f : ItemRecord → ItemRecord) :
    (s.updateRecord ref f).store.counts = s.store.counts := rfl
@[simp] theorem State.updateRecord_attention (ref : Ref) (f : ItemRecord → ItemRecord) :
    (s.updateRecord ref f).store.attention = s.store.attention := rfl
@[simp] theorem State.updateRecord_groups (ref : Ref) (f : ItemRecord → ItemRecord) :
    (s.updateRecord ref f).store.groups = s.store.groups := rfl
@[simp] theorem State.updateRecord_serialCounter (ref : Ref) (f : ItemRecord → ItemRecord) :
    (s.updateRecord ref f).store.serialCounter = s.store.serialCounter := rfl
@[simp] theorem State.updateRecord_records (ref : Ref) (f : ItemRecord → ItemRecord) :
    (s.updateRecord ref f).store.records = s.store.records.map fun r => if r.ref = ref then f r else r := rfl

variable (ref : Ref) (new : ItemState)

/-- R2, R11: whatever is found, a change of state is one of the records and the counts. -/
theorem State.changeState_frame : ∃ rs c, s.changeState ref new = (s.setRecords rs).setCounts c := by
  unfold State.changeState
  split
  · exact ⟨s.store.records, s.store.counts, rfl⟩
  · exact ⟨_, _, rfl⟩

@[simp] theorem State.changeState_lanes : (s.changeState ref new).lanes = s.lanes := by
  obtain ⟨rs, c, h⟩ := s.changeState_frame ref new
  rw [h]; rfl
@[simp] theorem State.changeState_outlets : (s.changeState ref new).store.outlets = s.store.outlets := by
  obtain ⟨rs, c, h⟩ := s.changeState_frame ref new
  rw [h]; rfl
@[simp] theorem State.changeState_bins : (s.changeState ref new).store.bins = s.store.bins := by
  obtain ⟨rs, c, h⟩ := s.changeState_frame ref new
  rw [h]; rfl
@[simp] theorem State.changeState_keyIndex : (s.changeState ref new).store.keyIndex = s.store.keyIndex := by
  obtain ⟨rs, c, h⟩ := s.changeState_frame ref new
  rw [h]; rfl
@[simp] theorem State.changeState_attention : (s.changeState ref new).store.attention = s.store.attention := by
  obtain ⟨rs, c, h⟩ := s.changeState_frame ref new
  rw [h]; rfl
@[simp] theorem State.changeState_groups : (s.changeState ref new).store.groups = s.store.groups := by
  obtain ⟨rs, c, h⟩ := s.changeState_frame ref new
  rw [h]; rfl
@[simp] theorem State.changeState_serialCounter :
    (s.changeState ref new).store.serialCounter = s.store.serialCounter := by
  obtain ⟨rs, c, h⟩ := s.changeState_frame ref new
  rw [h]; rfl

/-- R5: where no record has the slot and serial, a change of the records that have them changes nothing. -/
theorem State.map_records_of_none {s : State} {ref : Ref} (h : s.record? ref = none) (f : ItemRecord → ItemRecord) :
    (s.store.records.map fun r => if r.ref = ref then f r else r) = s.store.records := by
  rw [State.record?, List.find?_eq_none] at h
  refine (List.map_congr_left fun r hr => if_neg ?_).trans (List.map_id _)
  simpa using h r hr

@[simp] theorem State.changeState_records :
    (s.changeState ref new).store.records =
      s.store.records.map fun r => if r.ref = ref then { r with state := new } else r := by
  cases h : s.record? ref with
  | none =>
    rw [State.map_records_of_none h, State.changeState, h]
  | some r =>
    rw [State.changeState, h]
    rfl

/-! ### Joining and leaving lists (R28, R29, R30) -/

@[simp] theorem State.setExpected_lanes (l : Lane) (p : Place) (refs : List Ref) (n : Nat) :
    (s.setExpected l p refs n).lanes = s.lanes := by cases p <;> rfl
@[simp] theorem State.setExpected_records (l : Lane) (p : Place) (refs : List Ref) (n : Nat) :
    (s.setExpected l p refs n).store.records = s.store.records := by cases p <;> rfl
@[simp] theorem State.setExpected_keyIndex (l : Lane) (p : Place) (refs : List Ref) (n : Nat) :
    (s.setExpected l p refs n).store.keyIndex = s.store.keyIndex := by cases p <;> rfl
@[simp] theorem State.setExpected_counts (l : Lane) (p : Place) (refs : List Ref) (n : Nat) :
    (s.setExpected l p refs n).store.counts = s.store.counts := by cases p <;> rfl
@[simp] theorem State.setExpected_attention (l : Lane) (p : Place) (refs : List Ref) (n : Nat) :
    (s.setExpected l p refs n).store.attention = s.store.attention := by cases p <;> rfl
@[simp] theorem State.setExpected_groups (l : Lane) (p : Place) (refs : List Ref) (n : Nat) :
    (s.setExpected l p refs n).store.groups = s.store.groups := by cases p <;> rfl
@[simp] theorem State.setExpected_serialCounter (l : Lane) (p : Place) (refs : List Ref) (n : Nat) :
    (s.setExpected l p refs n).store.serialCounter = s.store.serialCounter := by cases p <;> rfl

@[simp] theorem State.removeExpected_lanes (l : Lane) (p : Place) :
    (s.removeExpected l p ref).lanes = s.lanes := by unfold State.removeExpected; split <;> simp
@[simp] theorem State.removeExpected_records (l : Lane) (p : Place) :
    (s.removeExpected l p ref).store.records = s.store.records := by unfold State.removeExpected; split <;> simp
@[simp] theorem State.removeExpected_keyIndex (l : Lane) (p : Place) :
    (s.removeExpected l p ref).store.keyIndex = s.store.keyIndex := by unfold State.removeExpected; split <;> simp
@[simp] theorem State.removeExpected_counts (l : Lane) (p : Place) :
    (s.removeExpected l p ref).store.counts = s.store.counts := by unfold State.removeExpected; split <;> simp
@[simp] theorem State.removeExpected_attention (l : Lane) (p : Place) :
    (s.removeExpected l p ref).store.attention = s.store.attention := by unfold State.removeExpected; split <;> simp
@[simp] theorem State.removeExpected_groups (l : Lane) (p : Place) :
    (s.removeExpected l p ref).store.groups = s.store.groups := by unfold State.removeExpected; split <;> simp
@[simp] theorem State.removeExpected_serialCounter (l : Lane) (p : Place) :
    (s.removeExpected l p ref).store.serialCounter = s.store.serialCounter := by
  unfold State.removeExpected; split <;> simp

/-- R28: leaving a content list is a change of one outlet. -/
theorem State.removeContent_frame (k : OutletId) : ∃ o, s.removeContent k ref = s.setOutlet k o := by
  unfold State.removeContent
  dsimp only
  split
  · exact ⟨_, rfl⟩
  · exact ⟨s.outlet k, by simp [State.setOutlet, State.setStore, State.outlet]⟩

/-! ### Leaving lists (R20, R72, R94) -/

/-- R20, R72: what leaving lists can change: outlets, bins and the lane units, these but in their queues. -/
theorem State.leaveLists_frame (r : ItemRecord) :
    ∃ outlets bins lanes, s.leaveLists r =
      { s with store := { s.store with outlets := outlets, bins := bins }, lanes := lanes } := by
  have removed (l : Lane) (p : Place) : ∃ outlets bins, s.removeExpected l p r.ref =
      { s with store := { s.store with outlets := outlets, bins := bins } } := by
    unfold State.removeExpected
    split
    · cases p <;> exact ⟨_, _, rfl⟩
    · exact ⟨_, _, rfl⟩
  unfold State.leaveLists
  split
  next p n pending l _ _ =>
    obtain ⟨outlets, bins, h⟩ := removed l p
    rw [h]
    cases pending <;> exact ⟨_, _, _, rfl⟩
  next k _ _ _ =>
    obtain ⟨o, h⟩ := s.removeContent_frame r.ref k
    rw [h]
    exact ⟨_, _, _, rfl⟩
  next => exact ⟨_, _, _, rfl⟩

variable (r : ItemRecord)

@[simp] theorem State.leaveLists_records : (s.leaveLists r).store.records = s.store.records := by
  obtain ⟨_, _, _, h⟩ := s.leaveLists_frame r
  rw [h]
@[simp] theorem State.leaveLists_keyIndex : (s.leaveLists r).store.keyIndex = s.store.keyIndex := by
  obtain ⟨_, _, _, h⟩ := s.leaveLists_frame r
  rw [h]
@[simp] theorem State.leaveLists_counts : (s.leaveLists r).store.counts = s.store.counts := by
  obtain ⟨_, _, _, h⟩ := s.leaveLists_frame r
  rw [h]
@[simp] theorem State.leaveLists_attention : (s.leaveLists r).store.attention = s.store.attention := by
  obtain ⟨_, _, _, h⟩ := s.leaveLists_frame r
  rw [h]
@[simp] theorem State.leaveLists_groups : (s.leaveLists r).store.groups = s.store.groups := by
  obtain ⟨_, _, _, h⟩ := s.leaveLists_frame r
  rw [h]
@[simp] theorem State.leaveLists_serialCounter :
    (s.leaveLists r).store.serialCounter = s.store.serialCounter := by
  obtain ⟨_, _, _, h⟩ := s.leaveLists_frame r
  rw [h]

/-- R94: the unit of each lane once a record has left its lists: only a pending revision of the record on it is
dropped. -/
@[simp] theorem State.leaveLists_lane (l : Lane) : (s.leaveLists r).lane l = (s.lane l).without l r := by
  unfold State.leaveLists LaneUnit.without
  split
  next p n pending j state lane =>
    have same : (s.removeExpected j p r.ref).lane l = s.lane l := by simp [State.lane]
    have same' : (s.removeExpected j p r.ref).lane j = s.lane j := by simp [State.lane]
    cases pending with
    | none => simpa [State.clearPending, state] using same
    | some target =>
      simp only [State.clearPending, State.lane_setLane, state, lane, same, same', LaneUnit.dropRevision_eq,
        Option.some.injEq]
      by_cases e : l = j
      · subst e
        simp
      · simp [e, Ne.symm e]
  next k n stray state =>
    obtain ⟨o, h⟩ := s.removeContent_frame r.ref k
    rw [h, state]
    rfl
  next notRouted =>
    split
    next p n target state =>
      split
      next lane => exact absurd lane (notRouted _ _ _ l state)
      next => rfl
    all_goals rfl

/-! ### Routing and arriving -/

theorem State.route_lane (l j : Lane) (p : Place) :
    (s.route l ref p).lane j = if j = l then (s.lane l).issueOrdinal else s.lane j := by
  have lanes : (s.route l ref p).lanes = ((s.appendExpected l p ref).setLane l (s.lane l).issueOrdinal).lanes := by
    simp [State.route]
  have same : (s.appendExpected l p ref).lane j = s.lane j := by simp [State.lane, State.appendExpected]
  rw [State.lane, lanes, ← State.lane, State.lane_setLane, same]

theorem State.renumberIfDue_lanes (k : OutletId) : (s.renumberIfDue k).lanes = s.lanes := by
  unfold State.renumberIfDue
  split <;> rfl

theorem State.arrive_lanes (k : OutletId) (stray : Bool) : (s.arrive k ref stray).lanes = s.lanes := by
  simp [State.arrive, s.renumberIfDue_lanes]

end

/-! ### The lanes' registers (R61, R108) -/

theorem LaneUnit.settled_sameRegister (u : LaneUnit) (ref : Ref) (n : Word32) : u.sameRegister (u.settled ref n) :=
  ⟨rfl, rfl, rfl⟩

theorem LaneUnit.without_sameRegister (u : LaneUnit) (l : Lane) (r : ItemRecord) : u.sameRegister (u.without l r) := by
  unfold LaneUnit.without
  split
  · split
    · exact u.settled_sameRegister _ _
    · exact u.sameRegister_refl
  all_goals exact u.sameRegister_refl

theorem State.leaveLists_sameRegisters (s : State) (r : ItemRecord) : s.sameRegisters (s.leaveLists r) := fun l => by
  rw [State.leaveLists_lane]
  exact LaneUnit.without_sameRegister _ _ _

theorem LaneUnit.issueRevise_sameRegister (u : LaneUnit) (ref : Ref) (n : Word32) (p : Place) (expiry : Word32) :
    u.sameRegister (u.issueRevise ref n p expiry) := by
  unfold LaneUnit.issueRevise
  rcases u.roomForRevise_spec with h | ⟨m, ms, -, -, -, -, h⟩ <;> rw [h] <;> exact ⟨rfl, rfl, rfl⟩

theorem LaneUnit.abandonRevisions_sameRegister (u : LaneUnit) : u.sameRegister u.abandonRevisions := ⟨rfl, rfl, rfl⟩

/-- R61: the issuing of an ordinal reads the register alone. -/
theorem LaneUnit.sameRegister.issueOrdinal {u v : LaneUnit} (h : u.sameRegister v) :
    u.issueOrdinal.sameRegister v.issueOrdinal := by
  unfold LaneUnit.issueOrdinal
  rw [h.counter]
  split
  · exact ⟨by simp [h.state], rfl, rfl⟩
  · exact ⟨h.state, rfl, h.exhausted⟩

theorem PointersMoved.sameRegisters {s t : State} (h : PointersMoved s t) : s.sameRegisters t :=
  State.sameRegisters_of_lanes h.lanes

/-- R61: a changing step's work leaves a lane's register as it was, but for the ordinal that a route issues on a
RUNNING lane. -/
theorem StoreChange.register {s a : State} {xs : List (Subject × Reason)} (change : StoreChange s a xs) (j : Lane) :
    (s.lane j).sameRegister (a.lane j) ∨
      (s.lane j).state = .running ∧ (s.lane j).issueOrdinal.sameRegister (a.lane j) := by
  have lanes {a : State} (h : a.lanes = s.lanes) : (s.lane j).sameRegister (a.lane j) :=
    State.sameRegisters_of_lanes h j
  have routed {t : State} (h : s.sameRegisters t) {l : Lane} (running : (s.lane l).state = .running) (ref : Ref)
      (p : Place) : (s.lane j).sameRegister ((t.route l ref p).lane j) ∨
        (s.lane j).state = .running ∧ (s.lane j).issueOrdinal.sameRegister ((t.route l ref p).lane j) := by
    rw [State.route_lane]
    split
    next e =>
      subst e
      exact .inr ⟨running, (h j).issueOrdinal⟩
    next => exact .inl (h j)
  cases change with
  | createdAndRouted slot o d l p t _ _ running _ selected =>
    exact routed ((State.sameRegisters_of_lanes rfl).trans selected.sameRegisters) running _ _
  | routed r l p t _ _ running _ _ selected =>
    exact routed ((s.leaveLists_sameRegisters r).trans selected.sameRegisters) running _ _
  | created => exact .inl (lanes rfl)
  | amended r cs t _ selected => exact .inl (lanes selected.lanes)
  | revisionIssued r cs t l assigned n target _ _ _ selected =>
    left
    have same : s.sameRegisters t := State.sameRegisters_of_lanes selected.lanes
    refine State.sameRegisters_setLane same ?_ j
    exact (same l).trans (LaneUnit.issueRevise_sameRegister _ _ _ _ _)
  | restored => exact .inl (lanes (by simp [State.restore]))
  | retired r => exact .inl (s.leaveLists_sameRegisters r j)
  | outletSet => exact .inl (lanes rfl)
  | filed r l k stray =>
    exact .inl (((s.leaveLists_sameRegisters r).trans
      (State.sameRegisters_of_lanes (State.arrive_lanes _ _ _ _))) j)
  | rejected r =>
    exact .inl (((s.leaveLists_sameRegisters r).trans (State.sameRegisters_of_lanes (by simp))) j)
  | recirculated r =>
    exact .inl (((s.leaveLists_sameRegisters r).trans (State.sameRegisters_of_lanes (by simp))) j)
  | laneAbandoned l =>
    left
    refine State.sameRegisters_setLane (State.sameRegisters_of_lanes rfl) ?_ j
    exact LaneUnit.abandonRevisions_sameRegister _
  | revisionDropped l e assigned =>
    left
    refine State.sameRegisters_setLane (State.sameRegisters_of_lanes rfl) ?_ j
    rw [LaneUnit.dropRevision_eq]
    exact LaneUnit.settled_sameRegister _ _ _
  | revisionTaken l e assigned =>
    left
    have same : s.sameRegisters ((s.removeExpected l assigned e.ref).insertExpected l e.target e.ref e.ordinal) :=
      State.sameRegisters_of_lanes (by simp [State.insertExpected])
    refine State.sameRegisters_setLane same ?_ j
    rw [LaneUnit.dropRevision_eq]
    exact (same l).trans (LaneUnit.settled_sameRegister _ _ _)

end Sys2Proof.Machine
end

section
/-!
PROOF. Obligation O10: a STOPPED lane's counter is 0 and unmarked and a DRAINING lane has routed records, since the
completion of every changing step stops a DRAINING lane left without any (R110).
-/
namespace Sys2Proof.Machine

/-- R110: the law of one lane, given its routed count. -/
def LaneUnit.stateLaw (u : LaneUnit) (routed : Nat) : Prop :=
  (u.state = .stopped → u.ordinalCounter = 0 ∧ u.exhausted = false) ∧ (u.state = .draining → 0 < routed)

theorem State.lanesLaw_iff (s : State) : s.lanesLaw ↔ ∀ l, (s.lane l).stateLaw (s.routedCount l) := .rfl

theorem LaneUnit.sameRegister.stateLaw {u v : LaneUnit} {n : Nat} (h : u.sameRegister v) (law : u.stateLaw n) :
    v.stateLaw n := by
  unfold LaneUnit.stateLaw
  rw [h.state, h.counter, h.exhausted]
  exact law

theorem LaneUnit.reachStopped_stateLaw (u : LaneUnit) (n : Nat) : u.reachStopped.stateLaw n :=
  ⟨fun _ => ⟨rfl, rfl⟩, by simp [LaneUnit.reachStopped]⟩

/-- R61: a RUNNING lane that issues an ordinal is not STOPPED by it. -/
theorem LaneUnit.issueOrdinal_ne_stopped {u : LaneUnit} (running : u.state = .running) :
    u.issueOrdinal.state ≠ .stopped := by
  unfold LaneUnit.issueOrdinal
  split <;> simp [running]

theorem StoreChange.lanesLaw {s a : State} {xs : List (Subject × Reason)} (change : StoreChange s a xs)
    (law : s.lanesLaw) : (commit s a xs).lanesLaw := by
  intro l
  refine ⟨fun stopped => ?_, commit_draining s a xs l⟩
  rw [commit_lane, State.drained] at stopped ⊢
  split at stopped
  next drained =>
    rw [if_pos drained]
    exact ⟨rfl, rfl⟩
  next drained =>
    rw [if_neg drained]
    rcases change.register l with same | ⟨running, issued⟩
    · exact (same.stateLaw (law l)).1 stopped
    · exact absurd (issued.state ▸ stopped) (LaneUnit.issueOrdinal_ne_stopped running)

theorem LaneUnit.setParameter_sameRegister (u : LaneUnit) (p : Parameter) : u.sameRegister (u.setParameter p) := by
  cases p <;> exact ⟨rfl, rfl, rfl⟩

theorem LaneUnit.setParameters_sameRegister (u : LaneUnit) (ps : List Parameter) :
    u.sameRegister (ps.foldl LaneUnit.setParameter u) := by
  induction ps generalizing u with
  | nil => exact u.sameRegister_refl
  | cons p ps ih => exact (u.setParameter_sameRegister p).trans (ih _)

theorem OutletEntry.finishReset_reserved (o : OutletEntry) (l : Lane) :
    o.finishReset.reserved = o.reserved ∧ o.finishReset.definedOn l = o.definedOn l := by
  unfold OutletEntry.finishReset
  split <;> exact ⟨rfl, rfl⟩

theorem State.finishReset_routedCount (s : State) (l : Lane) : s.finishReset.routedCount l = s.routedCount l := by
  have outlets : s.finishReset.store.outlets.toList = s.store.outlets.toList.map OutletEntry.finishReset :=
    Vector.toList_map
  unfold State.routedCount
  rw [outlets, List.map_map]
  simp only [Function.comp_def, OutletEntry.finishReset_reserved _ l]
  rfl

theorem StoreWork.lanesLaw {s t : State} (work : StoreWork s t) (law : s.lanesLaw) : t.lanesLaw := by
  have set {l : Lane} {u : LaneUnit} (hu : u.stateLaw (s.routedCount l)) : (s.setLane l u).lanesLaw := by
    intro j
    rw [State.lane_setLane, State.setLane_routedCount]
    split
    next e =>
      subst e
      exact hu
    next => exact law j
  cases work with
  | changed change => exact change.lanesLaw law
  | laneStarted l => exact set ⟨by simp, by simp⟩
  | laneDraining l running loaded => exact set ⟨by simp, fun _ => Nat.pos_of_ne_zero loaded⟩
  | laneStopped l empty => exact set (LaneUnit.reachStopped_stateLaw _ _)
  | laneSet l ps => exact set ((LaneUnit.setParameters_sameRegister _ ps).stateLaw (law l))
  | directoryReset =>
    intro l
    rw [State.finishReset_routedCount]
    exact law l
  | _ => exact law

theorem State.lanesLaw_congr {s t : State} (store : t.store = s.store) (registers : s.sameRegisters t)
    (law : s.lanesLaw) : t.lanesLaw := by
  intro l
  have routed : t.routedCount l = s.routedCount l := by simp only [State.routedCount, State.bin, store]
  rw [routed]
  exact (registers l).stateLaw (law l)

/-- Settles O10: every store work keeps the law, and the queues do not touch the register. -/
theorem lanesLawIsKept : Obligations.LanesLawIsKept := by
  unfold Obligations.LanesLawIsKept
  intro s t notShort law next
  obtain ⟨queue, effect⟩ := step_effect notShort next
  rcases effect.storeWork with ⟨asserted, rfl⟩ | ⟨u, work, store, registers⟩
  · have stopped : State.reset.lanesLaw := by simp [State.lanesLaw, LaneUnit.reset]
    exact State.lanesLaw_congr rfl (State.sameRegisters_of_lanes rfl) stopped
  · exact State.lanesLaw_congr store registers (work.lanesLaw law)

end Sys2Proof.Machine
end

section
/-!
PROOF. Obligation O11: at most 8 requests of a lane are outstanding (R101). A request joins only below 8; each later
moment of it (in service, replied to, expired with its late notice) counts in the place of the one before.
-/
namespace Sys2Proof.Machine

/-! ### The outstanding requests and the tickets -/

/-- R101: what is in hand counts while it is a request. -/
def inService : Option InHand → Nat
  | some (.request _) | some .restart => 1
  | some .workItem | none => 0

theorem LaneUnit.outstanding_eq (u : LaneUnit) :
    u.outstanding = u.requests.length + inService u.inHand + u.restartWaiting.toNat + u.outbound.countP isReply +
      u.workList.countP noticeOutstanding := by
  unfold LaneUnit.outstanding
  rcases u.inHand with _ | _ | _ | _ <;> cases u.restartWaiting <;> rfl

/-- The ticket of a late notice (log entry 5). -/
def WorkItem.ticket : WorkItem → Option Nat
  | .lateNotice _ t => t
  | .revise _ | .linkFault => none

theorem LaneUnit.noticeTickets_eq (u : LaneUnit) : u.noticeTickets = u.workList.filterMap WorkItem.ticket := by
  have same : ∀ w : WorkItem, (match w with
      | .lateNotice _ t => t
      | .revise _ | .linkFault => none) = w.ticket := fun w => by cases w <;> rfl
  unfold LaneUnit.noticeTickets
  exact congrArg (fun f => u.workList.filterMap f) (funext same)

/-- R101: the law, in the parts of the lane unit that it reads. -/
theorem LaneUnit.flowLaw_iff (u : LaneUnit) :
    u.flowLaw ↔ u.outstanding ≤ 8 ∧ (u.workList.filterMap WorkItem.ticket).Nodup ∧
      ∀ t ∈ u.workList.filterMap WorkItem.ticket, t < u.lateTickets := by
  rw [LaneUnit.flowLaw, u.noticeTickets_eq]
  rfl

/-- R101: a change that makes no request outstanding, and no ticket, keeps the law. -/
theorem LaneUnit.flowLaw_of_le {u v : LaneUnit} (law : u.flowLaw) (fewer : v.outstanding ≤ u.outstanding)
    (tickets : (v.workList.filterMap WorkItem.ticket).Sublist (u.workList.filterMap WorkItem.ticket))
    (next : v.lateTickets = u.lateTickets) : v.flowLaw := by
  rw [LaneUnit.flowLaw_iff] at law ⊢
  obtain ⟨most, once, below⟩ := law
  exact ⟨fewer.trans most, once.sublist tickets, fun t ht => next ▸ below t (tickets.mem ht)⟩

/-! ### The work of a store step -/

/-- R101: what the law reads of a lane unit is as it was. -/
structure LaneUnit.sameFlow (u v : LaneUnit) : Prop where
  requests : v.requests = u.requests
  inHand : v.inHand = u.inHand
  restartWaiting : v.restartWaiting = u.restartWaiting
  discardReply : v.discardReply = u.discardReply
  workList : v.workList = u.workList
  lateTickets : v.lateTickets = u.lateTickets
  replies : v.outbound.countP isReply = u.outbound.countP isReply

theorem LaneUnit.sameFlow_refl (u : LaneUnit) : u.sameFlow u := ⟨rfl, rfl, rfl, rfl, rfl, rfl, rfl⟩

theorem LaneUnit.sameFlow.trans {u v w : LaneUnit} (h : u.sameFlow v) (h' : v.sameFlow w) : u.sameFlow w :=
  ⟨h'.requests.trans h.requests, h'.inHand.trans h.inHand, h'.restartWaiting.trans h.restartWaiting,
    h'.discardReply.trans h.discardReply, h'.workList.trans h.workList, h'.lateTickets.trans h.lateTickets,
    h'.replies.trans h.replies⟩

theorem LaneUnit.sameFlow.flowLaw {u v : LaneUnit} (h : u.sameFlow v) (law : u.flowLaw) : v.flowLaw := by
  refine LaneUnit.flowLaw_of_le law (Nat.le_of_eq ?_) (by rw [h.workList]) h.lateTickets
  rw [v.outstanding_eq, u.outstanding_eq, h.requests, h.inHand, h.restartWaiting, h.replies, h.workList]

/-- Every lane's flow is as it was. -/
def State.sameFlows (s t : State) : Prop := ∀ l, (s.lane l).sameFlow (t.lane l)

theorem State.sameFlows_refl (s : State) : s.sameFlows s := fun l => (s.lane l).sameFlow_refl

theorem State.sameFlows.trans {s t u : State} (h : s.sameFlows t) (h' : t.sameFlows u) : s.sameFlows u :=
  fun l => (h l).trans (h' l)

theorem State.sameFlows_of_lanes {s t : State} (h : t.lanes = s.lanes) : s.sameFlows t := fun l => by
  simp only [State.lane, h]
  exact LaneUnit.sameFlow_refl _

theorem State.sameFlows_setLane {s t : State} {l : Lane} {u : LaneUnit} (h : s.sameFlows t)
    (hu : (s.lane l).sameFlow u) : s.sameFlows (t.setLane l u) := fun j => by
  rw [State.lane_setLane]
  split
  next e => exact e ▸ hu
  next => exact h j

/-- R101: a REVISE is no reply. -/
theorem isReply_of_reviseOrdinal {m : Message} {n : Word32} (h : m.reviseOrdinal = some n) : isReply m = false := by
  cases m <;> simp_all [Message.reviseOrdinal, isReply]

theorem isReply_eq (m : Message) : isReply m = m.reviseOrdinal.isNone := by cases m <;> rfl

/-- R94, R101: withdrawing REVISEs leaves the replies. -/
theorem LaneUnit.withdraw_replies {p : Message → Bool} (h : ∀ m, p m = true → isReply m = false) (u : LaneUnit) :
    (u.withdraw p).outbound.countP isReply = u.outbound.countP isReply := by
  have kept (ms : List Message) : (ms.filter fun m => !p m).countP isReply = ms.countP isReply := by
    rw [List.countP_filter]
    refine List.countP_congr fun m _ => ?_
    cases hp : p m with
    | false => simp
    | true => simp [h m hp]
  conv_rhs => rw [← u.beingSent_append_unsent]
  simp only [LaneUnit.withdraw, List.countP_append, kept]

theorem LaneUnit.settled_sameFlow (u : LaneUnit) (ref : Ref) (n : Word32) : u.sameFlow (u.settled ref n) := by
  rw [← LaneUnit.dropRevision_eq]
  refine ⟨rfl, rfl, rfl, rfl, rfl, rfl, ?_⟩
  exact LaneUnit.withdraw_replies (fun m h => isReply_of_reviseOrdinal (of_decide_eq_true h)) _

theorem LaneUnit.without_sameFlow (u : LaneUnit) (l : Lane) (r : ItemRecord) : u.sameFlow (u.without l r) := by
  unfold LaneUnit.without
  split
  · split
    · exact u.settled_sameFlow _ _
    · exact u.sameFlow_refl
  all_goals exact u.sameFlow_refl

theorem LaneUnit.abandonRevisions_sameFlow (u : LaneUnit) : u.sameFlow u.abandonRevisions := by
  refine ⟨rfl, rfl, rfl, rfl, rfl, rfl, LaneUnit.withdraw_replies (fun m h => ?_) _⟩
  rw [isReply_eq]
  simpa using h

theorem LaneUnit.issueRevise_sameFlow (u : LaneUnit) (ref : Ref) (n : Word32) (p : Place) (expiry : Word32) :
    u.sameFlow (u.issueRevise ref n p expiry) := by
  unfold LaneUnit.issueRevise
  rcases u.roomForRevise_spec with h | ⟨m, ms, -, queue, revise, -, h⟩ <;> rw [h]
  · exact ⟨rfl, rfl, rfl, rfl, rfl, rfl, by simp [isReply]⟩
  · have noReply : isReply m = false := by
      rw [isReply_eq, ← Option.not_isSome, revise]
      rfl
    refine ⟨rfl, rfl, rfl, rfl, rfl, rfl, ?_⟩
    have own : isReply (.revise n p) = false := rfl
    rw [queue]
    simp [noReply, own]

theorem LaneUnit.issueOrdinal_sameFlow (u : LaneUnit) : u.sameFlow u.issueOrdinal := by
  unfold LaneUnit.issueOrdinal
  split <;> exact ⟨rfl, rfl, rfl, rfl, rfl, rfl, rfl⟩

theorem State.leaveLists_sameFlows (s : State) (r : ItemRecord) : s.sameFlows (s.leaveLists r) := fun l => by
  rw [State.leaveLists_lane]
  exact LaneUnit.without_sameFlow _ _ _

theorem State.route_sameFlows (s : State) (l : Lane) (ref : Ref) (p : Place) : s.sameFlows (s.route l ref p) := by
  intro j
  rw [State.route_lane]
  split
  next e => exact e ▸ LaneUnit.issueOrdinal_sameFlow _
  next => exact LaneUnit.sameFlow_refl _

theorem PointersMoved.sameFlows {s t : State} (h : PointersMoved s t) : s.sameFlows t :=
  State.sameFlows_of_lanes h.lanes

/-- R101, R118: the work of a changing step leaves the flow of every lane. -/
theorem StoreChange.sameFlows {s a : State} {xs : List (Subject × Reason)} (change : StoreChange s a xs) :
    s.sameFlows a := by
  have lanes {a : State} (h : a.lanes = s.lanes) : s.sameFlows a := State.sameFlows_of_lanes h
  cases change with
  | created => exact lanes rfl
  | createdAndRouted slot o d l p t _ _ _ _ selected =>
    exact ((lanes rfl).trans selected.sameFlows).trans (State.route_sameFlows _ _ _ _)
  | routed r l p t _ _ _ _ _ selected =>
    exact ((s.leaveLists_sameFlows r).trans selected.sameFlows).trans (State.route_sameFlows _ _ _ _)
  | amended r cs t _ selected => exact lanes selected.lanes
  | revisionIssued r cs t l assigned n target _ _ _ selected =>
    have same : s.sameFlows t := lanes selected.lanes
    exact State.sameFlows_setLane same ((same l).trans (LaneUnit.issueRevise_sameFlow _ _ _ _ _))
  | restored => exact lanes (by simp [State.restore])
  | retired r => exact fun j => s.leaveLists_sameFlows r j
  | outletSet => exact lanes rfl
  | filed r => exact (s.leaveLists_sameFlows r).trans (State.sameFlows_of_lanes (State.arrive_lanes _ _ _ _))
  | rejected r => exact (s.leaveLists_sameFlows r).trans (State.sameFlows_of_lanes (by simp))
  | recirculated r => exact (s.leaveLists_sameFlows r).trans (State.sameFlows_of_lanes (by simp))
  | laneAbandoned l => exact State.sameFlows_setLane (lanes rfl) (LaneUnit.abandonRevisions_sameFlow _)
  | revisionDropped l e =>
    refine State.sameFlows_setLane (lanes rfl) ?_
    rw [LaneUnit.dropRevision_eq]
    exact LaneUnit.settled_sameFlow _ _ _
  | revisionTaken l e assigned =>
    have same : s.sameFlows ((s.removeExpected l assigned e.ref).insertExpected l e.target e.ref e.ordinal) :=
      lanes (by simp [State.insertExpected])
    refine State.sameFlows_setLane same ?_
    rw [LaneUnit.dropRevision_eq]
    exact (same l).trans (LaneUnit.settled_sameFlow _ _ _)

theorem State.drained_sameFlow (s : State) (l : Lane) : (s.lane l).sameFlow (s.drained l) := by
  unfold State.drained
  split
  · exact ⟨rfl, rfl, rfl, rfl, rfl, rfl, rfl⟩
  · exact LaneUnit.sameFlow_refl _

theorem LaneUnit.setParameters_sameFlow (u : LaneUnit) (ps : List Parameter) :
    u.sameFlow (ps.foldl LaneUnit.setParameter u) := by
  induction ps generalizing u with
  | nil => exact u.sameFlow_refl
  | cons p ps ih =>
    have one : u.sameFlow (u.setParameter p) := by cases p <;> exact ⟨rfl, rfl, rfl, rfl, rfl, rfl, rfl⟩
    exact one.trans (ih _)

theorem StoreWork.sameFlows {s t : State} (work : StoreWork s t) : s.sameFlows t := by
  have set {l : Lane} {u : LaneUnit} (h : (s.lane l).sameFlow u) : s.sameFlows (s.setLane l u) :=
    State.sameFlows_setLane s.sameFlows_refl h
  cases work with
  | changed change =>
    intro l
    rw [commit_lane]
    exact (change.sameFlows l).trans (State.drained_sameFlow _ l)
  | laneStarted l => exact set ⟨rfl, rfl, rfl, rfl, rfl, rfl, rfl⟩
  | laneDraining l => exact set ⟨rfl, rfl, rfl, rfl, rfl, rfl, rfl⟩
  | laneStopped l =>
    exact (set (u := (s.lane l).reachStopped) ⟨rfl, rfl, rfl, rfl, rfl, rfl, rfl⟩).trans
      (State.sameFlows_of_lanes rfl)
  | laneSet l ps => exact set (LaneUnit.setParameters_sameFlow _ ps)
  | _ => exact State.sameFlows_of_lanes rfl

/-! ### The moves of a lane unit -/

section
variable {u : LaneUnit}

theorem LaneUnit.markLinkFault_flowLaw (law : u.flowLaw) : u.markLinkFault.flowLaw := by
  unfold LaneUnit.markLinkFault
  split
  · exact law
  · refine LaneUnit.flowLaw_of_le law (Nat.le_of_eq ?_) (by simp [WorkItem.ticket]) rfl
    simp [LaneUnit.outstanding_eq, noticeOutstanding]

/-- R101: a request joins the queue only below the limit. -/
theorem LaneUnit.accept_flowLaw (law : u.flowLaw) (r : Request) : (u.accept r).flowLaw := by
  unfold LaneUnit.accept
  split
  next room =>
    rw [LaneUnit.flowLaw_iff] at law ⊢
    refine ⟨?_, law.2⟩
    simp only [LaneUnit.outstanding_eq, List.length_append, List.length_singleton, Config.outstandingLimit] at room ⊢
    omega
  next => exact LaneUnit.markLinkFault_flowLaw law

theorem LaneUnit.settleEntry_flowLaw (law : u.flowLaw) (p : ReviseEntry → Bool) (c : ReviseCondition) :
    (u.settleEntry p c).flowLaw := by
  unfold LaneUnit.settleEntry
  split
  · exact law
  · refine LaneUnit.flowLaw_of_le law (Nat.le_of_eq ?_) (by simp [WorkItem.ticket]) rfl
    simp [LaneUnit.outstanding_eq, noticeOutstanding]

/-- R106: a LOOKUP that expires is outstanding through its ANSWER LATE, and its ticket is new. -/
theorem LaneUnit.answerLate_flowLaw (law : u.flowLaw) {position : Nat} {r : Request}
    (stands : u.requests[position]? = some r) (key : Key) (tag : Word) :
    (u.answerLate position key tag).flowLaw := by
  rw [LaneUnit.flowLaw_iff] at law ⊢
  obtain ⟨most, once, below⟩ := law
  obtain ⟨inside, -⟩ := List.getElem?_eq_some_iff.mp stands
  refine ⟨?_, ?_, ?_⟩
  · rw [LaneUnit.outstanding_eq] at most ⊢
    simp only [LaneUnit.answerLate, List.length_eraseIdx_of_lt inside, List.countP_append, List.countP_singleton,
      isReply, noticeOutstanding]
    simp only [if_true, Bool.false_eq_true, if_false]
    omega
  · simp only [LaneUnit.answerLate, List.filterMap_append, List.filterMap_cons, List.filterMap_nil, WorkItem.ticket]
    refine List.nodup_append.mpr ⟨once, by simp, fun t ht n hn e => ?_⟩
    rw [List.mem_singleton] at hn
    exact Nat.lt_irrefl _ (hn ▸ e ▸ below t ht)
  · intro t ht
    simp only [LaneUnit.answerLate, List.filterMap_append, List.filterMap_cons, List.filterMap_nil, WorkItem.ticket,
      List.mem_append, List.mem_singleton] at ht ⊢
    rcases ht with ht | rfl
    · exact Nat.lt_succ_of_lt (below t ht)
    · exact Nat.lt_succ_self _

/-- The tickets that stand once one is released. -/
theorem tickets_releaseTicket (t : Nat) (ws : List WorkItem) :
    (ws.map (releaseTicket t)).filterMap WorkItem.ticket =
      (ws.filterMap WorkItem.ticket).filter fun n => decide (n ≠ t) := by
  induction ws with
  | nil => rfl
  | cons w ws ih =>
    have head : (releaseTicket t w).ticket = w.ticket.filter fun n => decide (n ≠ t) := by
      rcases w with ⟨key, _ | n⟩ | _ | _ <;> simp [releaseTicket, WorkItem.ticket, Option.filter]
    rw [List.map_cons, List.filterMap_cons, List.filterMap_cons, ih, head]
    cases h : w.ticket with
    | none => simp
    | some n => by_cases e : n = t <;> simp [Option.filter, e]

/-- R101: the notice of a released ticket is outstanding from then on. -/
theorem outstanding_releaseTicket (t : Nat) (ws : List WorkItem) :
    (ws.map (releaseTicket t)).countP noticeOutstanding =
      ws.countP noticeOutstanding + (ws.filterMap WorkItem.ticket).count t := by
  induction ws with
  | nil => rfl
  | cons w ws ih =>
    rw [List.map_cons, List.countP_cons, List.countP_cons, List.filterMap_cons, ih]
    rcases w with ⟨key, _ | n⟩ | _ | _
    · simp [releaseTicket, noticeOutstanding, WorkItem.ticket]
      omega
    · by_cases e : n = t <;> simp [releaseTicket, noticeOutstanding, WorkItem.ticket, e]
      omega
    all_goals simp [releaseTicket, noticeOutstanding, WorkItem.ticket]

/-- R101, R104: the notice of an ANSWER LATE is outstanding once the ANSWER is sent, in its place. -/
theorem LaneUnit.headSent_flowLaw (law : u.flowLaw) : u.headSent.flowLaw := by
  unfold LaneUnit.headSent
  split
  · exact law
  next m ms queue =>
    cases ticket : m.ticket with
    | none =>
      refine LaneUnit.flowLaw_of_le law ?_ (List.Sublist.refl _) rfl
      simp only [LaneUnit.outstanding_eq, queue, List.countP_cons]
      omega
    | some t =>
      have reply : isReply m = true := by
        cases m <;> simp_all [Message.ticket, isReply]
      refine LaneUnit.flowLaw_of_le law ?_ ?_ rfl
      · have once := List.nodup_iff_count_le_one.mp (u.flowLaw_iff.mp law).2.1 t
        simp only [LaneUnit.outstanding_eq, queue, List.countP_cons, reply, outstanding_releaseTicket, if_true]
        omega
      · rw [tickets_releaseTicket]
        exact List.filter_sublist

theorem LaneUnit.messageSent_flowLaw (law : u.flowLaw) : u.messageSent.flowLaw := by
  unfold LaneUnit.messageSent
  split
  · exact law
  · exact LaneUnit.headSent_flowLaw law

end

theorem UnitMove.flowLaw {s : State} {l : Lane} {u : LaneUnit} (move : UnitMove s l u) (law : (s.lane l).flowLaw) :
    u.flowLaw := by
  cases move with
  | accepted r => exact LaneUnit.accept_flowLaw law r
  | faulted => exact LaneUnit.markLinkFault_flowLaw law
  | settled p c => exact LaneUnit.settleEntry_flowLaw law p c
  | expired position key tag _ _ _ stands => exact LaneUnit.answerLate_flowLaw law stands key tag
  | sent => exact LaneUnit.messageSent_flowLaw law

/-- R101: every lane of a state obeys the limit. -/
def State.flowsLaw (s : State) : Prop := ∀ l, (s.lane l).flowLaw

theorem State.flowsLaw_setLane {s : State} (law : s.flowsLaw) {l : Lane} {u : LaneUnit} (hu : u.flowLaw) :
    (s.setLane l u).flowsLaw := fun j => by
  rw [State.lane_setLane]
  split
  · exact hu
  · exact law j

theorem State.sameFlows.flowsLaw {s t : State} (h : s.sameFlows t) (law : s.flowsLaw) : t.flowsLaw :=
  fun l => (h l).flowLaw (law l)

theorem State.flowsLaw_of_lanes {s t : State} (h : t.lanes = s.lanes) (law : s.flowsLaw) : t.flowsLaw :=
  (State.sameFlows_of_lanes h).flowsLaw law

/-- R103: a request that is taken up is in hand, or answered, instead of queued. -/
theorem State.takeUp_flowsLaw {s : State} (l : Lane) (law : s.flowsLaw) : (s.takeUp l).flowsLaw := by
  have set {u : LaneUnit} (requests : u.outstanding ≤ (s.lane l).outstanding)
      (work : u.workList = (s.lane l).workList) (tickets : u.lateTickets = (s.lane l).lateTickets) :
      (s.setLane l u).flowsLaw :=
    State.flowsLaw_setLane law (LaneUnit.flowLaw_of_le (law l) requests (by rw [work]) tickets)
  rw [State.takeUp_spec]
  split
  · exact law
  next idle =>
    have idle : (s.lane l).inHand = none := by simpa using idle
    split
    · exact set (by simp [LaneUnit.outstanding_eq, idle, inService]) rfl rfl
    · split
      · exact law
      next queue =>
        split
        · refine set ?_ rfl rfl
          simp only [LaneUnit.place, LaneUnit.outstanding_eq, queue, List.length_cons, List.countP_append,
            List.countP_singleton, isReply, if_true]
          omega
        · refine set ?_ rfl rfl
          simp only [LaneUnit.outstanding_eq, idle, inService, queue, List.length_cons]
          omega
      next queue =>
        refine set ?_ rfl rfl
        simp only [LaneUnit.outstanding_eq, idle, inService, queue, List.length_cons]
        omega

/-- R64, R101: at the completion of a step the reply counts in the place of the request in service, and a waiting
RESTART is the request in service. -/
theorem LaneUnit.stepDone_flowLaw {u : LaneUnit} (law : u.flowLaw) {x : InHand} (hand : u.inHand = some x)
    {reply : Option Message} (replies : reply.isSome = true → x ≠ .workItem) : (u.stepDone reply).flowLaw := by
  have fewer : (u.dropItem).workList.Sublist u.workList := by
    unfold LaneUnit.dropItem
    split
    · exact List.tail_sublist _
    · exact List.Sublist.refl _
  have kept : u.dropItem.requests = u.requests ∧ u.dropItem.lateTickets = u.lateTickets := by
    unfold LaneUnit.dropItem
    split <;> exact ⟨rfl, rfl⟩
  have answers : reply.toList.countP isReply ≤ inService (some x) := by
    cases reply with
    | none => simp
    | some m =>
      have one : inService (some x) = 1 := by
        cases x with
        | workItem => exact absurd rfl (replies rfl)
        | _ => rfl
      rw [one]
      exact List.countP_le_length
  refine LaneUnit.flowLaw_of_le law ?_ (fewer.filterMap _) kept.2
  have notices := fewer.countP_le (p := noticeOutstanding)
  simp only [LaneUnit.outstanding_eq, LaneUnit.stepDone, kept.1, hand]
  have queue : (if u.discardReply = true then u.outbound else u.outbound ++ reply.toList).countP isReply ≤
      u.outbound.countP isReply + inService (some x) := by
    split
    · exact Nat.le_add_right _ _
    · rw [List.countP_append]
      omega
  have waiting : inService (if u.restartWaiting = true then some .restart else none) ≤ u.restartWaiting.toNat := by
    cases u.restartWaiting <;> simp [inService]
  simp only [Bool.toNat_false]
  omega

theorem State.completeLaneStep_flowsLaw {t : State} (law : t.flowsLaw) {l : Lane} {x : InHand}
    (hand : (t.lane l).inHand = some x) {reply : Option Message} (replies : reply.isSome = true → x ≠ .workItem)
    (takeUp : Bool) : (t.completeLaneStep l reply takeUp).flowsLaw := by
  have done : ((t.freeStore).setLane l ((t.lane l).stepDone reply)).flowsLaw :=
    State.flowsLaw_setLane (s := t.freeStore) law (LaneUnit.stepDone_flowLaw (law l) hand replies)
  refine State.flowsLaw_of_lanes (State.arbitrate_lanes _) ?_
  have asked : (if (t.lane l).restartWaiting then
      ((t.freeStore).setLane l ((t.lane l).stepDone reply)).requestLaneStep l
      else (t.freeStore).setLane l ((t.lane l).stepDone reply)).flowsLaw := by
    split <;> exact done
  split
  · exact State.takeUpAll_keeps State.flowsLaw _ l (fun _ => State.takeUp_flowsLaw l) asked
  · exact asked

/-- R111: of the work list a RESTART leaves the notices of link faults, and at the head the item in hand, whose ticket
may be released. -/
theorem LaneUnit.restartArrives_workList (u : LaneUnit) (granted : Bool) :
    ((u.restartArrives granted).workList.filterMap WorkItem.ticket).Sublist (u.workList.filterMap WorkItem.ticket) ∧
      (u.restartArrives granted).workList.countP noticeOutstanding ≤ 1 := by
  have faults (ws : List WorkItem) :
      (ws.filter fun w => decide (w = .linkFault)).filterMap WorkItem.ticket = [] ∧
        (ws.filter fun w => decide (w = .linkFault)).countP noticeOutstanding = 0 := by
    rw [List.filterMap_eq_nil_iff, List.countP_eq_zero]
    refine ⟨fun w hw => ?_, fun w hw => ?_⟩ <;>
    · obtain ⟨-, fault⟩ := List.mem_filter.mp hw
      obtain rfl := of_decide_eq_true fault
      simp [WorkItem.ticket, noticeOutstanding]
  unfold LaneUnit.restartArrives
  dsimp only
  split
  · cases u.workList with
    | nil => simp
    | cons w ws =>
      obtain ⟨noTickets, noNotices⟩ := faults ws
      simp only [List.take_succ_cons, List.take_zero, List.map_cons, List.map_nil, List.drop_succ_cons,
        List.drop_zero, List.singleton_append, List.filterMap_cons, noTickets, List.countP_cons, noNotices]
      have one (c : Prop) [Decidable c] : 0 + (if c then 1 else 0) ≤ 1 := by split <;> simp
      refine ⟨?_, one _⟩
      rcases w with ⟨key, _ | t⟩ | _ | _
      case lateNotice.some =>
        simp only [WorkItem.ticket]
        split
        next => simp
        next n same =>
          obtain ⟨-, rfl⟩ : _ ∧ t = n := by simpa using same
          simp
      all_goals simp [WorkItem.ticket]
  · obtain ⟨noTickets, noNotices⟩ := faults u.workList
    rw [noTickets, noNotices]
    simp

theorem LaneUnit.restartArrives_flowLaw {u : LaneUnit} (law : u.flowLaw) (granted : Bool) :
    (u.restartArrives granted).flowLaw := by
  rw [LaneUnit.flowLaw_iff] at law ⊢
  obtain ⟨-, once, below⟩ := law
  obtain ⟨tickets, notices⟩ := u.restartArrives_workList granted
  refine ⟨?_, once.sublist tickets, fun t ht => below t (tickets.mem ht)⟩
  have serving (h : Option InHand) : inService h ≤ 1 := by rcases h with _ | _ | _ | _ <;> simp [inService]
  have sending : u.beingSent.countP isReply ≤ 1 := by
    refine List.countP_le_length.trans ?_
    unfold LaneUnit.beingSent
    split <;> simp
  have hand := serving (u.restartArrives granted).inHand
  have wait := Bool.toNat_le (u.restartArrives granted).restartWaiting
  have requests : (u.restartArrives granted).requests = [] := rfl
  have outbound : (u.restartArrives granted).outbound = u.beingSent := rfl
  rw [LaneUnit.outstanding_eq, requests, outbound, List.length_nil]
  omega

theorem State.restartArrives_flowsLaw {s : State} (law : s.flowsLaw) (l : Lane) : (s.restartArrives l).flowsLaw := by
  have arrived (granted : Bool) : (s.setLane l ((s.lane l).restartArrives granted)).flowsLaw :=
    State.flowsLaw_setLane law (LaneUnit.restartArrives_flowLaw (law l) granted)
  unfold State.restartArrives
  dsimp only
  split
  · exact arrived _
  · refine State.flowsLaw_of_lanes (State.arbitrate_lanes _) ?_
    exact arrived _

theorem State.laneStepping_inv {s : State} {l : Lane} {x : InHand} (h : s.laneStepping l = some x) :
    s.arbiter.busy = some (.lane l) ∧ (s.lane l).inHand = some x := by
  unfold State.laneStepping at h
  split at h
  next busy => exact ⟨busy, h⟩
  next => cases h

theorem Effect.flowsLaw {s t : State} (effect : Effect s t) (law : s.flowsLaw) : t.flowsLaw := by
  cases effect with
  | nothing => exact law
  | powerOn asserted =>
    intro l
    have lane : (s.withPins State.reset asserted).lane l = LaneUnit.reset := State.reset_lane l
    rw [lane]
    simp [LaneUnit.flowLaw, LaneUnit.reset, LaneUnit.outstanding, LaneUnit.noticeTickets]
  | channel move => exact State.flowsLaw_of_lanes move.store.2 law
  | hostStep f r work =>
    exact State.flowsLaw_of_lanes (State.completeHostStep_lanes _ _ _) (work.sameFlows.flowsLaw law)
  | laneStep l x reply takeUp work stepping replies =>
    obtain ⟨-, hand⟩ := State.laneStepping_inv stepping
    have flows := work.sameFlows
    exact State.completeLaneStep_flowsLaw (flows.flowsLaw law) ((flows l).inHand.trans hand) replies takeUp
  | unit l move => exact State.flowsLaw_setLane law (move.flowLaw (law l))
  | restarted l => exact State.restartArrives_flowsLaw law l
  | service l => exact State.flowsLaw_of_lanes (State.arbitrate_lanes _) (State.takeUp_flowsLaw l law)
  | ticked =>
    intro l
    have lane : State.lane { s with timebase := s.timebase + 1, lanes := s.lanes.map LaneUnit.beginSending } l =
        (s.lane l).beginSending := by simp [State.lane]
    rw [lane]
    exact law l

/-- Settles O11: each effect of a step keeps the law of every lane. -/
theorem outstandingNeverExceedsEight : Obligations.OutstandingNeverExceedsEight := by
  unfold Obligations.OutstandingNeverExceedsEight
  intro s t notShort law next
  obtain ⟨queue, effect⟩ := step_effect notShort next
  exact effect.flowsLaw law

end Sys2Proof.Machine
end

section
/-!
PROOF. Obligation O6: every step keeps the records in distinct slots with true counts and the key index in step with
them (R3, R7, R8, R11), and the attention list in order (R156, R158, R159). Each operation on records is shown to keep
the laws, and each work of a store step is composed of them.
-/
namespace Sys2Proof.Machine

/-! ### Key order (R8) -/

theorem keyBefore_trans {a b c : Key} (hab : keyBefore a b = true) (hbc : keyBefore b c = true) :
    keyBefore a c = true := by
  induction a generalizing b c with
  | nil =>
    cases b with
    | nil => simp [keyBefore] at hab
    | cons y ys =>
      cases c with
      | nil => simp [keyBefore] at hbc
      | cons z zs => rfl
  | cons x xs ih =>
    cases b with
    | nil => simp [keyBefore] at hab
    | cons y ys =>
      cases c with
      | nil => simp [keyBefore] at hbc
      | cons z zs =>
        simp only [keyBefore, Bool.or_eq_true, Bool.and_eq_true, decide_eq_true_eq] at hab hbc ⊢
        rcases hab with hab | ⟨rfl, hab⟩ <;> rcases hbc with hbc | ⟨rfl, hbc⟩
        · exact .inl (hab.trans hbc)
        · exact .inl hab
        · exact .inl hbc
        · exact .inr ⟨rfl, ih hab hbc⟩

theorem keyBefore_total (a b : Key) : keyBefore a b = true ∨ a = b ∨ keyBefore b a = true := by
  induction a generalizing b with
  | nil => cases b <;> simp [keyBefore]
  | cons x xs ih =>
    cases b with
    | nil => simp [keyBefore]
    | cons y ys =>
      simp only [keyBefore, Bool.or_eq_true, Bool.and_eq_true, decide_eq_true_eq, List.cons.injEq]
      rcases Nat.lt_trichotomy x.toNat y.toNat with lt | eq | gt
      · exact .inl (.inl lt)
      · obtain rfl := BitVec.eq_of_toNat_eq eq
        rcases ih ys with h | rfl | h
        · exact .inl (.inr ⟨rfl, h⟩)
        · exact .inr (.inl ⟨rfl, rfl⟩)
        · exact .inr (.inr (.inr ⟨rfl, h⟩))
      · exact .inr (.inr (.inl gt))

theorem mem_insertIndex {e q : IndexEntry} {es : List IndexEntry} : q ∈ insertIndex e es ↔ q = e ∨ q ∈ es := by
  induction es with
  | nil => simp [insertIndex]
  | cons x xs ih =>
    unfold insertIndex
    split
    · simp
    · simp only [List.mem_cons, ih]
      tauto

/-- R8: an entry of a new key goes to its place in key order. -/
theorem insertIndex_pairwise {e : IndexEntry} {es : List IndexEntry}
    (order : es.Pairwise fun a b => keyBefore a.key b.key = true) (new : ∀ q ∈ es, q.key ≠ e.key) :
    (insertIndex e es).Pairwise fun a b => keyBefore a.key b.key = true := by
  induction es with
  | nil => simp [insertIndex]
  | cons x xs ih =>
    obtain ⟨first, rest⟩ := List.pairwise_cons.mp order
    unfold insertIndex
    split
    next before =>
      refine List.pairwise_cons.mpr ⟨fun q hq => ?_, order⟩
      rcases List.mem_cons.mp hq with rfl | hq
      · exact before
      · exact keyBefore_trans before (first q hq)
    next notBefore =>
      refine List.pairwise_cons.mpr ⟨fun q hq => ?_, ih rest fun q hq => new q (List.mem_cons_of_mem _ hq)⟩
      rcases mem_insertIndex.mp hq with rfl | hq
      · rcases keyBefore_total x.key q.key with h | h | h
        · exact h
        · exact absurd h (new x List.mem_cons_self)
        · exact absurd h notBefore
      · exact first q hq

/-! ### The records in use (R3, R5) -/

/-- R5: a record in use has this slot and serial. -/
def State.inUse (s : State) (ref : Ref) : Prop := ref ∈ s.store.records.map (·.ref)

theorem State.record?_isSome_iff (s : State) (ref : Ref) : (s.record? ref).isSome = true ↔ s.inUse ref := by
  simp [State.record?, State.inUse, List.find?_isSome]

theorem State.inUse_of_record? {s : State} {ref : Ref} {r : ItemRecord} (h : s.record? ref = some r) :
    s.inUse ref := (s.record?_isSome_iff ref).mp (by simp [h])

/-- R3, R11: the law of the records, in the two parts of the store that it reads. -/
def recordsAgree (rs : List ItemRecord) (c : Counts) : Prop :=
  (rs.Pairwise fun a b => a.ref.slot < b.ref.slot) ∧ (∀ r ∈ rs, r.ref.slot < Config.slotCount) ∧
    c.inUse = rs.length ∧ ∀ k : StateKind, c.of k = rs.countP fun r => decide (stateKind r.state = k)

theorem State.recordsLaw_iff (s : State) : s.recordsLaw ↔ recordsAgree s.store.records s.store.counts := .rfl

/-- R3, R5: a record that is found stands among the others, none of which has its slot and serial. -/
theorem records_split {rs : List ItemRecord} (order : rs.Pairwise fun a b => a.ref.slot < b.ref.slot) {r : ItemRecord}
    (mem : r ∈ rs) :
    ∃ before after, rs = before ++ r :: after ∧ (∀ q ∈ before, q.ref ≠ r.ref) ∧ ∀ q ∈ after, q.ref ≠ r.ref := by
  obtain ⟨before, after, rfl⟩ := List.append_of_mem mem
  obtain ⟨-, tail, cross⟩ := List.pairwise_append.mp order
  refine ⟨before, after, rfl, fun q hq e => ?_, fun q hq e => ?_⟩
  · have := cross q hq r List.mem_cons_self
    rw [e] at this
    exact Nat.lt_irrefl _ this
  · have := (List.pairwise_cons.mp tail).1 q hq
    rw [e] at this
    exact Nat.lt_irrefl _ this

/-- A change of the records of one slot and serial reaches one record alone. -/
theorem map_split {ref : Ref} {r : ItemRecord} {before after : List ItemRecord} (is : r.ref = ref)
    (hb : ∀ q ∈ before, q.ref ≠ ref) (ha : ∀ q ∈ after, q.ref ≠ ref) (f : ItemRecord → ItemRecord) :
    ((before ++ r :: after).map fun q => if q.ref = ref then f q else q) = before ++ f r :: after := by
  have same {qs : List ItemRecord} (h : ∀ q ∈ qs, q.ref ≠ ref) :
      (qs.map fun q => if q.ref = ref then f q else q) = qs :=
    (List.map_congr_left fun q hq => if_neg (h q hq)).trans (List.map_id _)
  rw [List.map_append, List.map_cons, same hb, same ha, if_pos is]

theorem filter_split {ref : Ref} {r : ItemRecord} {before after : List ItemRecord} (is : r.ref = ref)
    (hb : ∀ q ∈ before, q.ref ≠ ref) (ha : ∀ q ∈ after, q.ref ≠ ref) :
    ((before ++ r :: after).filter fun q => decide (q.ref ≠ ref)) = before ++ after := by
  have same {qs : List ItemRecord} (h : ∀ q ∈ qs, q.ref ≠ ref) : (qs.filter fun q => decide (q.ref ≠ ref)) = qs :=
    List.filter_eq_self.mpr fun q hq => decide_eq_true (h q hq)
  rw [List.filter_append, List.filter_cons_of_neg (by simp [is]), same hb, same ha]

/-- R3, R5: the records but one. -/
def others (ref : Ref) (rs : List ItemRecord) : List ItemRecord := rs.filter fun q => decide (q.ref ≠ ref)

theorem perm_cons_others {rs : List ItemRecord} (order : rs.Pairwise fun a b => a.ref.slot < b.ref.slot)
    {r : ItemRecord} (mem : r ∈ rs) : rs.Perm (r :: others r.ref rs) := by
  obtain ⟨before, after, rfl, hb, ha⟩ := records_split order mem
  rw [others, filter_split rfl hb ha]
  exact List.perm_middle

/-- R5: a change of the record of one slot and serial leaves the others. -/
theorem map_perm_cons_others {rs : List ItemRecord} (order : rs.Pairwise fun a b => a.ref.slot < b.ref.slot)
    {r : ItemRecord} (mem : r ∈ rs) {ref : Ref} (is : r.ref = ref) (f : ItemRecord → ItemRecord) :
    (rs.map fun q => if q.ref = ref then f q else q).Perm (f r :: others ref rs) := by
  subst is
  obtain ⟨before, after, rfl, hb, ha⟩ := records_split order mem
  rw [others, filter_split rfl hb ha, map_split rfl hb ha]
  exact List.perm_middle

/-! ### The counts (R11) -/

theorem Counts.of_at (c : Counts) (j k : StateKind) (f : Nat → Nat) :
    (c.at j f).of k = if k = j then f (c.of k) else c.of k := by
  cases j <;> cases k <;> rfl

theorem Counts.at_inUse (c : Counts) (j : StateKind) (f : Nat → Nat) : (c.at j f).inUse = c.inUse := by cases j <;> rfl

theorem Counts.of_add (c : Counts) (j k : StateKind) : (c.add j).of k = if k = j then c.of k + 1 else c.of k := by
  rw [← Counts.of_at c j k (· + 1)]
  cases k <;> rfl

theorem Counts.of_remove (c : Counts) (j k : StateKind) :
    (c.remove j).of k = if k = j then c.of k - 1 else c.of k := by
  rw [← Counts.of_at c j k (· - 1)]
  cases k <;> rfl

theorem Counts.of_move (c : Counts) (a b k : StateKind) :
    (c.move a b).of k = if a = b then c.of k else if k = b then c.of k + 1 else if k = a then c.of k - 1 else c.of k := by
  unfold Counts.move
  split
  · rfl
  next differ =>
    rw [Counts.of_at, Counts.of_at]
    by_cases hb : k = b
    · subst hb
      simp [Ne.symm differ]
    · simp [hb]

theorem Counts.move_inUse (c : Counts) (a b : StateKind) : (c.move a b).inUse = c.inUse := by
  unfold Counts.move
  split
  · rfl
  · rw [Counts.at_inUse, Counts.at_inUse]

/-! ### Operations on the records -/

section
variable {rs : List ItemRecord} {c : Counts} (law : recordsAgree rs c)
include law

/-- R11: a change of records that keeps slots and states. -/
theorem recordsAgree.map {g : ItemRecord → ItemRecord} (ref : ∀ r ∈ rs, (g r).ref = r.ref)
    (kind : ∀ r ∈ rs, stateKind (g r).state = stateKind r.state) : recordsAgree (rs.map g) c := by
  obtain ⟨order, slots, inUse, counts⟩ := law
  refine ⟨?_, ?_, by simpa using inUse, fun k => ?_⟩
  · rw [List.pairwise_map]
    exact order.imp_of_mem fun ha hb lt => by rw [ref _ ha, ref _ hb]; exact lt
  · intro q hq
    obtain ⟨r, hr, rfl⟩ := List.mem_map.mp hq
    rw [ref r hr]
    exact slots r hr
  · rw [counts k, List.countP_map]
    exact List.countP_congr fun r hr => by simp [kind r hr]

/-- R11: one record changes its state, and the counts follow. -/
theorem recordsAgree.changeState {r : ItemRecord} (mem : r ∈ rs) (new : ItemState) :
    recordsAgree (rs.map fun q => if q.ref = r.ref then { q with state := new } else q)
      (c.move (stateKind r.state) (stateKind new)) := by
  obtain ⟨order, slots, inUse, counts⟩ := law
  obtain ⟨before, after, rfl, hb, ha⟩ := records_split order mem
  have refs : ∀ q : ItemRecord, (if q.ref = r.ref then { q with state := new } else q).ref = q.ref := by
    intro q
    split <;> rfl
  refine ⟨?_, ?_, by rw [Counts.move_inUse, inUse]; simp, fun k => ?_⟩
  · rw [List.pairwise_map]
    exact order.imp fun lt => by rw [refs, refs]; exact lt
  · intro q hq
    obtain ⟨p, hp, rfl⟩ := List.mem_map.mp hq
    rw [refs]
    exact slots p hp
  · rw [map_split rfl hb ha, Counts.of_move, counts k]
    simp only [List.countP_append, List.countP_cons, decide_eq_true_eq]
    by_cases same : stateKind r.state = stateKind new
    · rw [if_pos same, same]
    · rw [if_neg same]
      by_cases hn : k = stateKind new
      · subst hn
        simp [same, Nat.add_assoc]
      · by_cases ho : k = stateKind r.state
        · subst ho
          simp [Ne.symm same, fun h => same h]
        · simp [hn, ho, Ne.symm hn, Ne.symm ho]

/-- R11, R20: one record leaves. -/
theorem recordsAgree.remove {r : ItemRecord} (mem : r ∈ rs) :
    recordsAgree (rs.filter fun q => decide (q.ref ≠ r.ref)) (c.remove (stateKind r.state)) := by
  obtain ⟨order, slots, inUse, counts⟩ := law
  have left := List.filter_sublist (p := fun q : ItemRecord => decide (q.ref ≠ r.ref)) (l := rs)
  refine ⟨order.sublist left, fun q hq => slots q (left.mem hq), ?_, fun k => ?_⟩
  all_goals
    obtain ⟨before, after, rfl, hb, ha⟩ := records_split order mem
    rw [filter_split rfl hb ha]
  · simp [Counts.remove, inUse]
  · rw [Counts.of_remove, counts k]
    simp only [List.countP_append, List.countP_cons, decide_eq_true_eq]
    by_cases h : k = stateKind r.state
    · subst h
      simp
    · simp [h, Ne.symm h]

end

theorem mem_insertRecord {r q : ItemRecord} {rs : List ItemRecord} : q ∈ insertRecord r rs ↔ q = r ∨ q ∈ rs := by
  induction rs with
  | nil => simp [insertRecord]
  | cons x xs ih =>
    unfold insertRecord
    split
    · simp
    · simp only [List.mem_cons, ih]
      tauto

theorem insertRecord_perm (r : ItemRecord) (rs : List ItemRecord) : (insertRecord r rs).Perm (r :: rs) := by
  induction rs with
  | nil => exact .refl _
  | cons x xs ih =>
    unfold insertRecord
    split
    · exact .refl _
    · exact (ih.cons x).trans (.swap r x xs)

/-- R3: a record of a free slot goes to its place in ascending slot. -/
theorem insertRecord_pairwise {r : ItemRecord} {rs : List ItemRecord}
    (order : rs.Pairwise fun a b => a.ref.slot < b.ref.slot) (free : ∀ q ∈ rs, q.ref.slot ≠ r.ref.slot) :
    (insertRecord r rs).Pairwise fun a b => a.ref.slot < b.ref.slot := by
  induction rs with
  | nil => simp [insertRecord]
  | cons x xs ih =>
    obtain ⟨first, rest⟩ := List.pairwise_cons.mp order
    unfold insertRecord
    split
    next before =>
      refine List.pairwise_cons.mpr ⟨fun q hq => ?_, order⟩
      rcases List.mem_cons.mp hq with rfl | hq
      · exact before
      · exact before.trans (first q hq)
    next notBefore =>
      refine List.pairwise_cons.mpr ⟨fun q hq => ?_, ih rest fun q hq => free q (List.mem_cons_of_mem _ hq)⟩
      rcases mem_insertRecord.mp hq with rfl | hq
      · have := free x List.mem_cons_self
        omega
      · exact first q hq

/-- R3, R11: one record joins, in a free slot. -/
theorem recordsAgree.insert {rs : List ItemRecord} {c : Counts} (law : recordsAgree rs c) {r : ItemRecord}
    (free : ∀ q ∈ rs, q.ref.slot ≠ r.ref.slot) (slot : r.ref.slot < Config.slotCount) :
    recordsAgree (insertRecord r rs) (c.add (stateKind r.state)) := by
  obtain ⟨order, slots, inUse, counts⟩ := law
  have perm := insertRecord_perm r rs
  refine ⟨insertRecord_pairwise order free, fun q hq => ?_, ?_, fun k => ?_⟩
  · rcases mem_insertRecord.mp hq with rfl | hq
    · exact slot
    · exact slots q hq
  · rw [perm.length_eq, List.length_cons, ← inUse]
    rfl
  · rw [perm.countP_eq, List.countP_cons, Counts.of_add, counts k]
    by_cases h : k = stateKind r.state
    · simp [h]
    · simp [h, Ne.symm h]

/-! ### The directory: the records with their key index (R7) -/

/-- The law of the records, and where it is asked too (`indexed`) that of the key index. -/
def State.directoryLaw (s : State) (indexed : Prop) : Prop := s.recordsLaw ∧ (indexed → s.indexLaw)

section
variable {indexed : Prop}

/-- R3, R7: the laws speak of the records, the counts and the key index alone. -/
theorem State.directoryLaw_congr {s t : State} (records : t.store.records = s.store.records)
    (counts : t.store.counts = s.store.counts) (keyIndex : t.store.keyIndex = s.store.keyIndex)
    (law : s.directoryLaw indexed) : t.directoryLaw indexed := by
  simpa only [State.directoryLaw, State.recordsLaw, State.indexLaw, records, counts, keyIndex] using law

/-- R7: records that keep slot, serial and key keep their entries. -/
theorem State.indexLaw.map {s t : State} (law : s.indexLaw) {g : ItemRecord → ItemRecord}
    (records : t.store.records = s.store.records.map g) (keyIndex : t.store.keyIndex = s.store.keyIndex)
    (ref : ∀ r, (g r).ref = r.ref) (key : ∀ r, (g r).key = r.key) : t.indexLaw := by
  obtain ⟨order, toRecord, toEntry⟩ := law
  rw [State.indexLaw, keyIndex, records]
  refine ⟨order, fun e he => ?_, fun q hq => ?_⟩
  · obtain ⟨r, hr, sameRef, sameKey⟩ := toRecord e he
    exact ⟨g r, List.mem_map_of_mem hr, (ref r).trans sameRef, (key r).trans sameKey⟩
  · obtain ⟨r, hr, rfl⟩ := List.mem_map.mp hq
    rw [ref, key]
    exact toEntry r hr

/-- R7: a key that no record has stands in no entry. -/
theorem State.key_ne_of_recordOfKey?_none {s : State} (law : s.indexLaw) {key : Key} (new : s.recordOfKey? key = none) :
    ∀ e ∈ s.store.keyIndex, e.key ≠ key := by
  obtain ⟨-, toRecord, -⟩ := law
  intro e he same
  unfold State.recordOfKey? at new
  split at new
  next q found =>
    obtain ⟨r, hr, ref, -⟩ := toRecord q (List.mem_of_find?_eq_some found)
    rw [State.record?, List.find?_eq_none] at new
    exact new r hr (by simpa using ref)
  next missing => exact List.find?_eq_none.mp missing e he (by simpa using same)

section
variable {s : State} (law : s.directoryLaw indexed)
include law

/-- R5: the record of a slot and serial is one. -/
theorem State.eq_of_record? {r q : ItemRecord} (found : s.record? q.ref = some r) (mem : q ∈ s.store.records) : q = r :=
  Option.some.inj ((s.record?_of_mem law.1 mem).symm.trans found)

/-- R2: a change of a record that is none of its slot, serial, key or kind of state. -/
theorem State.updateRecord_directoryLaw (ref : Ref) {f : ItemRecord → ItemRecord} (same : ∀ r, (f r).ref = r.ref)
    (key : ∀ r, (f r).key = r.key)
    (kind : ∀ r ∈ s.store.records, r.ref = ref → stateKind (f r).state = stateKind r.state) :
    (s.updateRecord ref f).directoryLaw indexed := by
  refine ⟨recordsAgree.map law.1 (fun r _ => ?_) (fun r mem => ?_), fun h => (law.2 h).map rfl rfl (fun r => ?_) fun r => ?_⟩
  all_goals split
  · exact same r
  · rfl
  · next is => exact kind r mem is
  · rfl
  · exact same r
  · rfl
  · exact key r
  · rfl

theorem State.changeState_directoryLaw (ref : Ref) (new : ItemState) : (s.changeState ref new).directoryLaw indexed := by
  cases found : s.record? ref with
  | none =>
    rw [State.changeState, found]
    exact law
  | some r =>
    obtain ⟨mem, rfl⟩ := s.record?_some found
    rw [s.changeState_spec r.ref new r found]
    refine ⟨recordsAgree.changeState law.1 mem new, fun h => (law.2 h).map rfl rfl (fun q => ?_) fun q => ?_⟩ <;>
    · split <;> rfl

/-- R3, R7, R13: a record is created in a free slot, for a new key. -/
theorem State.createRecord_directoryLaw {slot : Nat} (o : Origin) {d : ItemDefinition}
    (newKey : s.recordOfKey? d.key = none) (free : s.lowestFreeSlot = some slot) :
    (s.createRecord slot o d).directoryLaw indexed := by
  obtain ⟨small, unused, -⟩ := s.lowestFreeSlot_some slot free
  refine ⟨recordsAgree.insert law.1 unused small, fun h => ?_⟩
  have newKeys := State.key_ne_of_recordOfKey?_none (law.2 h) newKey
  obtain ⟨order, toRecord, toEntry⟩ := law.2 h
  refine ⟨insertIndex_pairwise order newKeys, fun e he => ?_, fun q hq => ?_⟩
  · rcases mem_insertIndex.mp he with rfl | he
    · exact ⟨_, mem_insertRecord.mpr (.inl rfl), rfl, rfl⟩
    · obtain ⟨r, hr, same⟩ := toRecord e he
      exact ⟨r, mem_insertRecord.mpr (.inr hr), same⟩
  · rcases mem_insertRecord.mp hq with rfl | hq
    · exact mem_insertIndex.mpr (.inl rfl)
    · exact mem_insertIndex.mpr (.inr (toEntry q hq))

theorem State.leaveLists_directoryLaw (r : ItemRecord) : (s.leaveLists r).directoryLaw indexed :=
  State.directoryLaw_congr (by simp) (by simp) (by simp) law

/-- R20: a record is retired with its key. -/
theorem State.retireRecord_directoryLaw {r : ItemRecord} (found : s.record? r.ref = some r) :
    (s.retireRecord r).directoryLaw indexed := by
  obtain ⟨mem, -⟩ := s.record?_some found
  have left := recordsAgree.remove law.1 mem
  rw [← s.leaveLists_records r, ← s.leaveLists_counts r] at left
  refine ⟨left, fun h => ?_⟩
  obtain ⟨order, toRecord, toEntry⟩ := law.2 h
  rw [← s.leaveLists_records r, ← s.leaveLists_keyIndex r] at toRecord
  rw [← s.leaveLists_records r, ← s.leaveLists_keyIndex r] at toEntry
  rw [← s.leaveLists_keyIndex r] at order
  refine ⟨order.sublist List.filter_sublist, fun e he => ?_, fun q hq => ?_⟩
  · obtain ⟨he, other⟩ := List.mem_filter.mp he
    obtain ⟨q, hq, ref, key⟩ := toRecord e he
    refine ⟨q, List.mem_filter.mpr ⟨hq, ?_⟩, ref, key⟩
    rwa [ref]
  · obtain ⟨hq, other⟩ := List.mem_filter.mp hq
    exact List.mem_filter.mpr ⟨toEntry q hq, other⟩

theorem State.mapRecords_directoryLaw {g : ItemRecord → ItemRecord} (ref : ∀ r, (g r).ref = r.ref)
    (key : ∀ r, (g r).key = r.key) (kind : ∀ r, stateKind (g r).state = stateKind r.state) :
    (s.setRecords (s.store.records.map g)).directoryLaw indexed :=
  ⟨recordsAgree.map law.1 (fun r _ => ref r) (fun r _ => kind r), fun h => (law.2 h).map rfl rfl ref key⟩

end

theorem renumbered_keeps (content : List Ref) (r : ItemRecord) :
    (renumbered content r).ref = r.ref ∧ (renumbered content r).key = r.key ∧
      stateKind (renumbered content r).state = stateKind r.state ∧ (renumbered content r).lane = r.lane := by
  unfold renumbered
  split
  next state _ => simp [state, stateKind]
  next => simp

theorem revised_keeps (before : State) (r : ItemRecord) :
    (revised before r).ref = r.ref ∧ (revised before r).key = r.key ∧ (revised before r).state = r.state ∧
      (revised before r).lane = r.lane := by
  unfold revised
  split
  · simp
  · split <;> simp

theorem recirculated_keeps (l : Lane) (r : ItemRecord) :
    (recirculated l r).ref = r.ref ∧ (recirculated l r).key = r.key := by
  unfold recirculated
  split <;> simp

theorem applyChanges_keeps (cs : List Change) (r : ItemRecord) :
    (applyChanges cs r).ref = r.ref ∧ (applyChanges cs r).key = r.key ∧ (applyChanges cs r).state = r.state ∧
      (applyChanges cs r).lane = r.lane := by
  unfold applyChanges
  induction cs generalizing r with
  | nil => simp
  | cons c cs ih =>
    obtain ⟨ref, key, state, lane⟩ := ih (applyChange r c)
    rw [List.foldl_cons, ref, key, state, lane]
    cases c <;> simp [applyChange]

theorem routedOn_kind {l : Lane} {r : ItemRecord} (on : routedOn l r = true) : stateKind r.state = .routed := by
  simp only [routedOn, decide_eq_true_eq] at on
  exact on.1

/-- R112: how many records have a state after those ROUTED on a lane became RECIRCULATING. -/
theorem countP_recirculated (l : Lane) (k : StateKind) (rs : List ItemRecord) :
    (rs.map (recirculated l)).countP (fun r => decide (stateKind r.state = k)) =
      if k = .routed then rs.countP (fun r => decide (stateKind r.state = k)) - rs.countP (routedOn l)
      else if k = .recirculating then
        rs.countP (fun r => decide (stateKind r.state = k)) + rs.countP (routedOn l)
      else rs.countP (fun r => decide (stateKind r.state = k)) := by
  induction rs with
  | nil => cases k <;> rfl
  | cons r rs ih =>
    have fewer : rs.countP (routedOn l) ≤ rs.countP (fun r => decide (stateKind r.state = .routed)) :=
      List.countP_mono_left fun r _ on => decide_eq_true (routedOn_kind on)
    simp only [List.map_cons, List.countP_cons, ih]
    by_cases on : routedOn l r
    · have moved : stateKind (recirculated l r).state = .recirculating := by simp [recirculated, on, stateKind]
      rw [moved, routedOn_kind on]
      cases k with
      | routed => simp [on]
      | recirculating =>
        simp [on]
        omega
      | _ => simp
    · have same : recirculated l r = r := by simp [recirculated, on]
      rw [same]
      cases k with
      | routed =>
        simp only [on, if_true]
        simp
        omega
      | recirculating =>
        simp [on]
        omega
      | _ => simp

theorem PointersMoved.record? {s t : State} (moved : PointersMoved s t) (ref : Ref) : t.record? ref = s.record? ref := by
  cases moved <;> rfl

section
variable {s : State} (law : s.directoryLaw indexed)
include law

theorem State.renumberIfDue_directoryLaw (k : OutletId) : (s.renumberIfDue k).directoryLaw indexed := by
  unfold State.renumberIfDue
  split
  · have keeps := renumbered_keeps (s.outlet k).content
    exact State.directoryLaw_congr (s := s.setRecords (s.store.records.map (renumbered (s.outlet k).content))) rfl rfl
      rfl (State.mapRecords_directoryLaw law (fun r => (keeps r).1) (fun r => (keeps r).2.1)
        fun r => (keeps r).2.2.1)
  · exact law

theorem State.arrive_directoryLaw (k : OutletId) (ref : Ref) (stray : Bool) : (s.arrive k ref stray).directoryLaw indexed :=
  State.changeState_directoryLaw
    (s := (s.renumberIfDue k).setOutlet k
      { (s.renumberIfDue k).outlet k with content := ((s.renumberIfDue k).outlet k).content ++ [ref],
                                          held := ((s.renumberIfDue k).outlet k).held + 1,
                                          arrivalCounter := ((s.renumberIfDue k).outlet k).arrivalCounter + 1 })
    (State.renumberIfDue_directoryLaw law k) _ _

theorem PointersMoved.directoryLaw {t : State} (moved : PointersMoved s t) : t.directoryLaw indexed := by
  cases moved <;> exact law

theorem State.route_directoryLaw (l : Lane) (ref : Ref) (p : Place) : (s.route l ref p).directoryLaw indexed := by
  have appended : ((s.appendExpected l p ref).setLane l (s.lane l).issueOrdinal).directoryLaw indexed :=
    State.directoryLaw_congr (by simp [State.appendExpected]) (by simp [State.appendExpected])
      (by simp [State.appendExpected]) law
  have located := State.updateRecord_directoryLaw appended ref (f := fun q => { q with lane := some l })
    (fun _ => rfl) (fun _ => rfl) fun _ _ _ => rfl
  exact State.changeState_directoryLaw located _ _

/-- R112: the records ROUTED on the lane move from one count to the other. -/
theorem State.abandonLane_directoryLaw (l : Lane) : (s.abandonLane l).directoryLaw indexed := by
  obtain ⟨⟨order, slots, inUse, counts⟩, index⟩ := law
  have refs := fun r => (recirculated_keeps l r).1
  refine ⟨⟨?_, ?_, ?_, ?_⟩, fun h => (index h).map rfl rfl refs fun r => (recirculated_keeps l r).2⟩
  · show (s.store.records.map (recirculated l)).Pairwise _
    rw [List.pairwise_map]
    simpa only [refs] using order
  · intro q hq
    obtain ⟨r, hr, rfl⟩ := List.mem_map.mp hq
    rw [refs]
    exact slots r hr
  · show s.store.counts.inUse = (s.store.records.map (recirculated l)).length
    rw [List.length_map, inUse]
  · intro k
    show _ = (s.store.records.map (recirculated l)).countP _
    rw [countP_recirculated]
    have routed := counts .routed
    have recirculating := counts .recirculating
    have own := counts k
    cases k with
    | routed => simpa [State.abandonLane, Counts.of] using congrArg (· - s.store.records.countP (routedOn l)) routed
    | recirculating =>
      simpa [State.abandonLane, Counts.of] using congrArg (· + s.store.records.countP (routedOn l)) recirculating
    | _ => exact own

end

/-! ### Every step keeps the directory -/

section
variable {s a : State} {xs : List (Subject × Reason)}

/-- R88, R90: a record stays ROUTED while its place and its revision change. -/
theorem State.rerouted_directoryLaw (law : s.directoryLaw indexed) {r : ItemRecord} (found : s.record? r.ref = some r)
    (routed : stateKind r.state = .routed) (p : Place) (n : Word32) (pending : Option Place) :
    (s.updateRecord r.ref fun q => { q with state := .routed p n pending }).directoryLaw indexed := by
  refine State.updateRecord_directoryLaw law r.ref (fun _ => rfl) (fun _ => rfl) fun q mem same => ?_
  rw [State.eq_of_record? law (same ▸ found) mem, routed]
  rfl

/-- R95: a revision that is still pending is that of a record ROUTED on the lane with the entry's ordinal. -/
theorem State.stillPending_inv {l : Lane} {e : ReviseEntry} {p : Place} (h : s.stillPending l e = some p) :
    ∃ r target, s.record? e.ref = some r ∧ r.state = .routed p e.ordinal (some target) ∧ r.lane = some l := by
  unfold State.stillPending at h
  split at h
  · cases h
  next r found =>
    split at h
    next assigned ordinal target state =>
      split at h
      next on =>
        obtain ⟨lane, rfl⟩ := on
        cases h
        exact ⟨r, target, found, state, lane⟩
      next => cases h
    next => cases h

theorem State.settleRevision_directoryLaw (law : s.directoryLaw indexed) {l : Lane} {e : ReviseEntry} {p q : Place}
    (still : s.stillPending l e = some q) : (s.settleRevision l e p).directoryLaw indexed := by
  obtain ⟨r, target, found, state, -⟩ := State.stillPending_inv still
  obtain ⟨-, ref⟩ := s.record?_some found
  have settled := State.rerouted_directoryLaw law (State.record?_self found) (by rw [state]; rfl) p e.ordinal none
  rw [ref] at settled
  exact settled

theorem State.issueRevision_directoryLaw (law : s.directoryLaw indexed) {l : Lane} {r : ItemRecord} {p target : Place}
    {n : Word32} (found : s.record? r.ref = some r) (state : r.state = .routed p n none) :
    (s.issueRevision l r.ref p n target).directoryLaw indexed :=
  State.rerouted_directoryLaw law found (by rw [state]; rfl) p n (some target)

/-- R95: the records alone tell whether a revision is still pending. -/
theorem State.stillPending_congr {t : State} (records : t.store.records = s.store.records) (l : Lane)
    (e : ReviseEntry) : t.stillPending l e = s.stillPending l e := by
  simp only [State.stillPending, State.record?, records]

/-- R5: a record found before a change of its fields is found changed. -/
theorem State.record?_updateRecord {ref : Ref} {r : ItemRecord} {f : ItemRecord → ItemRecord}
    (keeps : ∀ q, (f q).ref = q.ref) (found : s.record? ref = some r) :
    (s.updateRecord ref f).record? ref = some (f r) := by
  obtain ⟨-, is⟩ := s.record?_some found
  have refs (q : ItemRecord) : (if q.ref = ref then f q else q).ref = q.ref := by
    split
    · exact keeps q
    · rfl
  rw [State.record?] at found ⊢
  rw [State.updateRecord_records, List.find?_map]
  have same : (fun q : ItemRecord => decide (q.ref = ref)) ∘ (fun q => if q.ref = ref then f q else q) =
      fun q => decide (q.ref = ref) := funext fun q => by simp only [Function.comp, refs]
  rw [same, found, Option.map_some, if_pos is]

theorem StoreChange.directoryLaw (change : StoreChange s a xs) (law : s.directoryLaw indexed) : a.directoryLaw indexed := by
  cases change with
  | created slot o d newKey free => exact State.createRecord_directoryLaw law o newKey free
  | createdAndRouted slot o d l p t newKey free running open_ selected =>
    exact State.route_directoryLaw (selected.directoryLaw (State.createRecord_directoryLaw law o newKey free)) l _ p
  | routed r l p t xs found running open_ elsewhere selected =>
    exact State.route_directoryLaw (selected.directoryLaw (State.leaveLists_directoryLaw law r)) l _ p
  | amended r cs t found selected =>
    have keeps := applyChanges_keeps cs
    exact selected.directoryLaw (State.updateRecord_directoryLaw law r.ref (fun q => (keeps q).1)
      (fun q => (keeps q).2.1) fun q _ _ => by rw [(keeps q).2.2.1])
  | revisionIssued r cs t l assigned ordinal target found lane state selected room =>
    have keeps := applyChanges_keeps cs
    obtain ⟨ref, -, same, -⟩ := keeps r
    have changed := selected.directoryLaw (State.updateRecord_directoryLaw law r.ref (fun q => (keeps q).1)
      (fun q => (keeps q).2.1) fun q _ _ => by rw [(keeps q).2.2.1])
    have there := State.record?_updateRecord (fun q => (keeps q).1) found
    rw [← selected.record?] at there
    rw [← ref] at there ⊢
    exact State.issueRevision_directoryLaw changed there (same.trans state)
  | restored r found state =>
    exact State.changeState_directoryLaw
      (State.updateRecord_directoryLaw law r.ref (f := fun q => { q with laps := 0, lane := none })
        (fun _ => rfl) (fun _ => rfl) fun _ _ _ => rfl) _ _
  | retired r found => exact State.retireRecord_directoryLaw law found
  | outletSet k o xs change => exact State.directoryLaw_congr (s := s) rfl rfl rfl law
  | filed r l k stray xs found => exact State.arrive_directoryLaw (State.leaveLists_directoryLaw law r) k _ stray
  | rejected r xs found => exact State.changeState_directoryLaw (State.leaveLists_directoryLaw law r) _ _
  | recirculated r xs found =>
    exact State.changeState_directoryLaw
      (State.updateRecord_directoryLaw (State.leaveLists_directoryLaw law r) r.ref
        (f := fun q => { q with laps := nextLaps q.laps }) (fun _ => rfl) (fun _ => rfl) fun _ _ _ => rfl) _ _
  | laneAbandoned l => exact State.abandonLane_directoryLaw law l
  | revisionDropped l e assigned reason still => exact State.settleRevision_directoryLaw law still
  | revisionTaken l e assigned still place =>
    have moved : ((s.removeExpected l assigned e.ref).insertExpected l e.target e.ref e.ordinal).directoryLaw indexed :=
      State.directoryLaw_congr (by simp [State.insertExpected]) (by simp [State.insertExpected])
        (by simp [State.insertExpected]) law
    refine State.settleRevision_directoryLaw moved (q := assigned) ?_
    rw [State.stillPending_congr (s := s) (by simp [State.insertExpected]), still]

theorem commit_directoryLaw (b : State) (law : a.directoryLaw indexed) : (commit b a xs).directoryLaw indexed := by
  have keeps := revised_keeps b
  refine ⟨?_, fun h => (law.2 h).map (g := revised b) (by simp) (by simp) (fun r => (keeps r).1) fun r => (keeps r).2.1⟩
  rw [State.recordsLaw_iff, commit_records, commit_counts]
  exact recordsAgree.map law.1 (fun r _ => (keeps r).1) fun r _ => by rw [(keeps r).2.2.1]

theorem StoreWork.directoryLaw {t : State} (work : StoreWork s t) (law : s.directoryLaw indexed) : t.directoryLaw indexed := by
  cases work with
  | changed change => exact commit_directoryLaw s (change.directoryLaw law)
  | _ => exact State.directoryLaw_congr (s := s) rfl rfl rfl law

end

end

/-! ### The attention list (R156, R158) -/

theorem reasonBit_injective {a b : Reason} (h : reasonBit a = reasonBit b) : a = b := by
  revert h
  cases a <;> cases b <;> decide

theorem mem_insertReason {r q : Reason} {rs : List Reason} : q ∈ insertReason r rs ↔ q = r ∨ q ∈ rs := by
  induction rs with
  | nil => simp [insertReason]
  | cons x xs ih =>
    unfold insertReason
    split
    · simp
    · split
      next same => simp [same]
      next =>
        simp only [List.mem_cons, ih]
        tauto

/-- R156: a reason set stays in the order of the bits, without repetition, when a reason joins it. -/
theorem insertReason_pairwise (r : Reason) {rs : List Reason}
    (order : rs.Pairwise fun a b => reasonBit a < reasonBit b) :
    (insertReason r rs).Pairwise fun a b => reasonBit a < reasonBit b := by
  induction rs with
  | nil => simp [insertReason]
  | cons x xs ih =>
    obtain ⟨first, rest⟩ := List.pairwise_cons.mp order
    unfold insertReason
    split
    next before =>
      refine List.pairwise_cons.mpr ⟨fun q hq => ?_, order⟩
      rcases List.mem_cons.mp hq with rfl | hq
      · exact before
      · exact before.trans (first q hq)
    next notBefore =>
      split
      · exact order
      next differ =>
        refine List.pairwise_cons.mpr ⟨fun q hq => ?_, ih rest⟩
        rcases mem_insertReason.mp hq with rfl | hq
        · exact lt_of_le_of_ne (Nat.le_of_not_lt notBefore) fun e => differ (reasonBit_injective e).symm
        · exact first q hq

/-- R156, R158: the law of an attention list whose ITEM subjects are known. -/
def attentionInOrder (known : Ref → Prop) (es : List AttentionEntry) : Prop :=
  (es.map (·.subject)).Nodup ∧
    ∀ e ∈ es, e.reasons ≠ [] ∧ (e.reasons.Pairwise fun a b => reasonBit a < reasonBit b) ∧
      ∀ ref, e.subject = .item ref → known ref

theorem State.attentionLaw_iff (s : State) : s.attentionLaw ↔ attentionInOrder s.inUse s.store.attention := by
  simp only [State.attentionLaw, attentionInOrder, State.record?_isSome_iff]

theorem attentionInOrder.sublist {known : Ref → Prop} {es fewer : List AttentionEntry}
    (law : attentionInOrder known es) (sub : fewer.Sublist es) : attentionInOrder known fewer :=
  ⟨law.1.sublist (sub.map _), fun e he => law.2 e (sub.mem he)⟩

theorem attentionInOrder.mono {known known' : Ref → Prop} {es : List AttentionEntry} (law : attentionInOrder known es)
    (more : ∀ ref, known ref → known' ref) : attentionInOrder known' es := by
  refine ⟨law.1, fun e he => ?_⟩
  obtain ⟨some_, order, item⟩ := law.2 e he
  exact ⟨some_, order, fun ref is => more ref (item ref is)⟩

theorem mem_subjects_addReason {x : Subject × Reason} {es : List AttentionEntry} {q : Subject}
    (h : q ∈ (addReason x es).map (·.subject)) : q = x.1 ∨ q ∈ es.map (·.subject) := by
  induction es with
  | nil => simpa [addReason] using h
  | cons e es ih =>
    unfold addReason at h
    split at h
    · exact .inr h
    · rcases List.mem_cons.mp h with rfl | h
      · exact .inr List.mem_cons_self
      · exact (ih h).imp_right (List.mem_cons_of_mem _)

theorem attentionInOrder.addReason {known : Ref → Prop} {es : List AttentionEntry} (law : attentionInOrder known es)
    {x : Subject × Reason} (hx : ∀ ref, x.1 = .item ref → known ref) : attentionInOrder known (addReason x es) := by
  induction es with
  | nil =>
    refine ⟨by simp [Machine.addReason], fun e he => ?_⟩
    obtain rfl := List.mem_singleton.mp he
    exact ⟨by simp, List.pairwise_singleton _ _, hx⟩
  | cons e es ih =>
    obtain ⟨nodup, each⟩ := law
    obtain ⟨fresh, rest⟩ := List.nodup_cons.mp nodup
    obtain ⟨-, order, item⟩ := each e List.mem_cons_self
    have others := fun q hq => each q (List.mem_cons_of_mem _ hq)
    unfold Machine.addReason
    split
    next same =>
      refine ⟨nodup, fun q hq => ?_⟩
      rcases List.mem_cons.mp hq with rfl | hq
      · exact ⟨List.ne_nil_of_mem (mem_insertReason.mpr (.inl rfl)), insertReason_pairwise x.2 order, item⟩
      · exact others q hq
    next differ =>
      obtain ⟨nodup', each'⟩ := ih ⟨rest, others⟩
      refine ⟨List.nodup_cons.mpr ⟨fun mem => ?_, nodup'⟩, fun q hq => ?_⟩
      · exact (mem_subjects_addReason mem).elim differ fresh
      · rcases List.mem_cons.mp hq with rfl | hq
        · exact each q List.mem_cons_self
        · exact each' q hq

theorem mem_insertBySubject {x q : Subject × Reason} {xs : List (Subject × Reason)} :
    q ∈ insertBySubject x xs ↔ q = x ∨ q ∈ xs := by
  induction xs with
  | nil => simp [insertBySubject]
  | cons y ys ih =>
    unfold insertBySubject
    split
    · simp
    · simp only [List.mem_cons, ih]
      tauto

theorem mem_inSubjectOrder {q : Subject × Reason} {xs : List (Subject × Reason)} : q ∈ inSubjectOrder xs ↔ q ∈ xs := by
  have joined (acc : List (Subject × Reason)) :
      q ∈ xs.foldl (fun acc x => insertBySubject x acc) acc ↔ q ∈ acc ∨ q ∈ xs := by
    induction xs generalizing acc with
    | nil => simp
    | cons x xs ih =>
      rw [List.foldl_cons, ih, mem_insertBySubject, List.mem_cons]
      tauto
  simpa [inSubjectOrder] using joined []

theorem attentionInOrder.addReasons {known : Ref → Prop} {es : List AttentionEntry} (law : attentionInOrder known es)
    {xs : List (Subject × Reason)} (hx : ∀ x ∈ xs, ∀ ref, x.1 = .item ref → known ref) :
    attentionInOrder known ((inSubjectOrder xs).foldl (fun es x => Machine.addReason x es) es) := by
  have hx' : ∀ x ∈ inSubjectOrder xs, ∀ ref, x.1 = .item ref → known ref :=
    fun x mem => hx x (mem_inSubjectOrder.mp mem)
  generalize inSubjectOrder xs = ys at hx'
  induction ys generalizing es with
  | nil => exact law
  | cons y ys ih =>
    exact ih (law.addReason (hx' y List.mem_cons_self)) fun x mem => hx' x (List.mem_cons_of_mem _ mem)

/-! ### Records in use and attention through a change -/

section
variable {s a : State} {xs : List (Subject × Reason)}

/-- R5: records that keep slot and serial stay in use. -/
theorem State.inUse_map {t : State} {g : ItemRecord → ItemRecord} (keeps : ∀ r, (g r).ref = r.ref)
    (records : t.store.records = s.store.records.map g) (ref : Ref) : t.inUse ref ↔ s.inUse ref := by
  simp [State.inUse, records, Function.comp_def, keeps]

theorem State.inUse_congr {t : State} (records : t.store.records = s.store.records) (ref : Ref) :
    t.inUse ref ↔ s.inUse ref := by rw [State.inUse, State.inUse, records]

theorem State.inUse_updateRecord {ref q : Ref} {f : ItemRecord → ItemRecord} (keeps : ∀ r, (f r).ref = r.ref) :
    (s.updateRecord ref f).inUse q ↔ s.inUse q :=
  State.inUse_map (g := fun r => if r.ref = ref then f r else r)
    (fun r => by split <;> simp [keeps]) rfl q

theorem State.inUse_changeState {ref q : Ref} {new : ItemState} : (s.changeState ref new).inUse q ↔ s.inUse q :=
  State.inUse_map (g := fun r => if r.ref = ref then { r with state := new } else r)
    (fun r => by split <;> rfl) (by simp) q

theorem State.inUse_createRecord {slot : Nat} {o : Origin} {d : ItemDefinition} {q : Ref} (h : s.inUse q) :
    (s.createRecord slot o d).inUse q := by
  obtain ⟨r, mem, rfl⟩ := List.mem_map.mp h
  exact List.mem_map_of_mem (mem_insertRecord.mpr (.inr mem))

theorem State.inUse_settleRevision {l : Lane} {e : ReviseEntry} {p : Place} {q : Ref} :
    (s.settleRevision l e p).inUse q ↔ s.inUse q :=
  State.inUse_updateRecord (s := s) (ref := e.ref) (f := fun r => { r with state := .routed p e.ordinal none })
    fun _ => rfl

theorem State.inUse_issueRevision {l : Lane} {ref q : Ref} {p target : Place} {n : Word32} :
    (s.issueRevision l ref p n target).inUse q ↔ s.inUse q :=
  State.inUse_updateRecord (s := s) (ref := ref) (f := fun r => { r with state := .routed p n (some target) })
    fun _ => rfl

theorem State.inUse_route {l : Lane} {ref q : Ref} {p : Place} : (s.route l ref p).inUse q ↔ s.inUse q := by
  unfold State.route
  refine State.inUse_changeState.trans ((State.inUse_updateRecord (by intro _; rfl)).trans ?_)
  exact State.inUse_congr (by simp [State.appendExpected]) q

theorem State.inUse_arrive {k : OutletId} {ref q : Ref} {stray : Bool} : (s.arrive k ref stray).inUse q ↔ s.inUse q := by
  unfold State.arrive
  rw [State.inUse_changeState]
  unfold State.renumberIfDue
  split
  · exact State.inUse_map (fun r => (renumbered_keeps (s.outlet k).content r).1) rfl q
  · exact .rfl

theorem PointersMoved.attention {t : State} (moved : PointersMoved s t) : t.store.attention = s.store.attention := by
  cases moved <;> rfl

theorem State.route_attention (l : Lane) (ref : Ref) (p : Place) :
    (s.route l ref p).store.attention = s.store.attention := by simp [State.route, State.appendExpected]

theorem State.arrive_attention (k : OutletId) (ref : Ref) (stray : Bool) :
    (s.arrive k ref stray).store.attention = s.store.attention := by
  unfold State.arrive State.renumberIfDue
  split <;> simp [State.renumberContent]

theorem PointersMoved.inUse {t : State} (moved : PointersMoved s t) (q : Ref) : t.inUse q ↔ s.inUse q := by
  cases moved <;> exact .rfl

theorem known_of_onlyAbout {r : ItemRecord} (found : s.record? r.ref = some r) (reasons : onlyAbout r.ref xs) :
    ∀ x ∈ xs, ∀ q, x.1 = .item q → s.inUse q := fun x hx q is => by
  rw [reasons x hx q is]
  exact State.inUse_of_record? found

/-- R156, R158: what a change other than a retirement leaves of the attention list, and of whom it speaks. -/
structure StoreChange.KeepsAttention (s a : State) (xs : List (Subject × Reason)) : Prop where
  attention : a.store.attention = s.store.attention
  inUse : ∀ q, s.inUse q → a.inUse q
  known : ∀ x ∈ xs, ∀ q, x.1 = .item q → s.inUse q

theorem StoreChange.keepsAttention (change : StoreChange s a xs) :
    StoreChange.KeepsAttention s a xs ∨ ∃ r, a = s.retireRecord r ∧ xs = [] := by
  have none_ : ∀ x ∈ ([] : List (Subject × Reason)), ∀ q, x.1 = .item q → s.inUse q := by simp
  have left (r : ItemRecord) (q : Ref) : (s.leaveLists r).inUse q ↔ s.inUse q := State.inUse_congr (by simp) q
  cases change with
  | retired r => exact .inr ⟨r, rfl, rfl⟩
  | created => exact .inl ⟨rfl, fun q h => State.inUse_createRecord h, none_⟩
  | createdAndRouted slot o d l p t newKey free running open_ selected =>
    refine .inl ⟨?_, fun q h => ?_, fun x hx q is => absurd is ((s.lane l).exhaustReasons_aboutNoItem l x hx q)⟩
    · rw [State.route_attention, selected.attention]
      rfl
    · exact State.inUse_route.mpr ((selected.inUse q).mpr (State.inUse_createRecord h))
  | routed r l p t xs found running open_ elsewhere selected place reasons =>
    refine .inl ⟨?_, fun q h => ?_, known_of_onlyAbout found reasons⟩
    · rw [State.route_attention, selected.attention, State.leaveLists_attention]
    · exact State.inUse_route.mpr ((selected.inUse q).mpr ((left r q).mpr h))
  | amended r cs t found selected =>
    refine .inl ⟨?_, fun q h => ?_, none_⟩
    · rw [selected.attention]
      rfl
    · exact (selected.inUse q).mpr ((State.inUse_updateRecord fun r => (applyChanges_keeps cs r).1).mpr h)
  | revisionIssued r cs t l assigned ordinal target found lane state selected =>
    refine .inl ⟨selected.attention, fun q h => ?_, none_⟩
    refine State.inUse_issueRevision.mpr ((selected.inUse q).mpr ?_)
    exact (State.inUse_updateRecord fun r => (applyChanges_keeps cs r).1).mpr h
  | restored r =>
    refine .inl ⟨by simp [State.restore], fun q h => State.inUse_changeState.mpr ?_, none_⟩
    exact (State.inUse_updateRecord (by intro _; rfl)).mpr h
  | outletSet k o xs change reasons =>
    exact .inl ⟨rfl, fun _ h => h, fun x hx q is => absurd is (reasons x hx q)⟩
  | filed r l k stray xs found place elsewhere reasons =>
    refine .inl ⟨?_, fun q h => State.inUse_arrive.mpr ((left r q).mpr h), known_of_onlyAbout found reasons⟩
    rw [State.arrive_attention, State.leaveLists_attention]
  | rejected r xs found reasons =>
    refine .inl ⟨by simp, fun q h => ?_, known_of_onlyAbout found reasons⟩
    exact State.inUse_changeState.mpr ((left r q).mpr h)
  | recirculated r xs found reasons =>
    refine .inl ⟨by simp, fun q h => State.inUse_changeState.mpr ?_, known_of_onlyAbout found reasons⟩
    exact (State.inUse_updateRecord (by intro _; rfl)).mpr ((left r q).mpr h)
  | laneAbandoned l =>
    exact .inl ⟨rfl, fun q h => (State.inUse_map (fun r => (recirculated_keeps l r).1) rfl q).mpr h, by simp⟩
  | revisionDropped l e assigned reason still =>
    obtain ⟨r, -, found, -⟩ := State.stillPending_inv still
    refine .inl ⟨rfl, fun q h => State.inUse_settleRevision.mpr h, fun x hx q is => ?_⟩
    obtain rfl := List.mem_singleton.mp hx
    cases is
    exact State.inUse_of_record? found
  | revisionTaken l e assigned still place =>
    refine .inl ⟨?_, fun q h => ?_, none_⟩
    · simp [State.settleRevision, State.insertExpected]
    · refine State.inUse_settleRevision.mpr ?_
      exact (State.inUse_congr (by simp [State.insertExpected]) q).mpr h

theorem completionReasons_known {b a : State} {known : Ref → Prop}
    (hx : ∀ x ∈ xs, ∀ q, x.1 = .item q → known q) :
    ∀ x ∈ completionReasons b a xs, ∀ q, x.1 = .item q → known q := by
  intro x mem q is
  simp only [completionReasons, fullReasons, State.drainReasons, List.mem_append, List.mem_map] at mem
  rcases mem with (own | ⟨k, -, rfl⟩) | ⟨l, -, rfl⟩
  · exact hx x own q is
  · cases is
  · cases is

theorem commit_attentionLaw {b : State} (law : a.attentionLaw) (known : ∀ x ∈ xs, ∀ q, x.1 = .item q → a.inUse q) :
    (commit b a xs).attentionLaw := by
  rw [State.attentionLaw_iff] at law ⊢
  rw [commit_attention]
  refine (law.mono fun q h => ?_).addReasons (completionReasons_known fun x hx q is => ?_)
  all_goals rw [State.inUse_map (s := a) (fun r => (revised_keeps b r).1) (commit_records b a xs)]
  · exact h
  · exact known x hx q is

/-- R20, R159: with a record its attention entry leaves. -/
theorem State.retireRecord_attentionLaw (law : s.attentionLaw) (r : ItemRecord) : (s.retireRecord r).attentionLaw := by
  rw [State.attentionLaw_iff] at law ⊢
  obtain ⟨nodup, each⟩ := law
  have attention : (s.retireRecord r).store.attention =
      s.store.attention.filter fun e => decide (e.subject ≠ .item r.ref) := by simp [State.retireRecord]
  rw [attention]
  refine ⟨nodup.sublist (List.filter_sublist.map _), fun e he => ?_⟩
  obtain ⟨mem, other⟩ := List.mem_filter.mp he
  obtain ⟨some_, order, item⟩ := each e mem
  refine ⟨some_, order, fun ref is => ?_⟩
  obtain ⟨q, hq, rfl⟩ := List.mem_map.mp (item ref is)
  have stays : q.ref ≠ r.ref := fun same => of_decide_eq_true other (by rw [is, same])
  exact List.mem_map_of_mem (List.mem_filter.mpr ⟨by simpa using hq, decide_eq_true stays⟩)

theorem StoreWork.attentionLaw {t : State} (work : StoreWork s t) (law : s.attentionLaw) : t.attentionLaw := by
  have fewer {t : State} (records : t.store.records = s.store.records)
      (sub : t.store.attention.Sublist s.store.attention) : t.attentionLaw := by
    rw [State.attentionLaw_iff] at law ⊢
    exact (law.sublist sub).mono fun q h => (State.inUse_congr records q).mpr h
  have noted {t : State} (xs : List (Subject × Reason)) (records : t.store.records = s.store.records)
      (attention : t.store.attention = s.store.attention)
      (known : ∀ x ∈ xs, ∀ q, x.1 = .item q → s.inUse q) : (t.noteReasons xs).attentionLaw := by
    rw [State.attentionLaw_iff] at law ⊢
    rw [← attention] at law
    refine (law.addReasons known).mono fun q h => (State.inUse_congr records q).mpr h
  cases work with
  | changed change =>
    rcases change.keepsAttention with kept | ⟨r, rfl, rfl⟩
    · refine commit_attentionLaw ?_ fun x hx q is => kept.inUse q (kept.known x hx q is)
      rw [State.attentionLaw_iff] at law ⊢
      rw [kept.attention]
      exact law.mono kept.inUse
    · exact commit_attentionLaw (s.retireRecord_attentionLaw law r) (by simp)
  | noted xs known => exact noted xs rfl rfl fun x hx q is => (s.record?_isSome_iff q).mp (known x hx q is)
  | laneStopped l empty => exact noted (t := s.setLane l (s.lane l).reachStopped) _ rfl rfl (by simp)
  | attentionTaken es sub => exact fewer rfl sub
  | directoryReset empty => exact fewer rfl (List.nil_sublist _)
  | _ => exact fewer rfl (.refl _)

end

theorem State.attentionLaw_congr {s t : State} (store : t.store = s.store) (law : s.attentionLaw) : t.attentionLaw := by
  simpa only [State.attentionLaw, State.record?, store] using law

/-- Settles O6: reset meets the laws of the directory and of the attention list, and every store work keeps them. -/
theorem recordsAndKeyIndexStayInOrder : Obligations.RecordsAndKeyIndexStayInOrder := by
  unfold Obligations.RecordsAndKeyIndexStayInOrder
  intro s t notShort records index next
  obtain ⟨resetRecords, resetIndex, -, -, -, -, resetAttention, -⟩ := lawsHoldAtReset
  have directory := step_keeps_storeLaw (law := fun s => s.directoryLaw True)
    (fun store => State.directoryLaw_congr (by rw [store]) (by rw [store]) (by rw [store])) ⟨resetRecords, fun _ => resetIndex⟩
    (fun law work => work.directoryLaw law) notShort ⟨records, fun _ => index⟩ next
  exact ⟨directory.1, directory.2 trivial, fun attention => step_keeps_storeLaw State.attentionLaw_congr resetAttention
    (fun law work => work.attentionLaw law) notShort attention next⟩

end Sys2Proof.Machine
end

section
/-!
PROOF. Obligation O12: the pending-revision count of a lane is the number of its records that carry a pending revision,
at most 8 (R87, R97), and the unsent REVISEs of its outbound queue are among these revisions (R104). What a store step
does to the pending revisions is one of four things (`RevisionMove`); the other events leave them.
-/
namespace Sys2Proof.Machine

/-! ### The pending revisions of the records -/

/-- R88: a pending revision of a ROUTED record: its lane, its record's induction ordinal and its target. -/
structure PendingRevision where
  lane : Lane
  ordinal : Word32
  target : Place

/-- R88: the pending revision that a record carries. -/
def pendingRevision (r : ItemRecord) : Option PendingRevision :=
  match r.state, r.lane with
  | .routed _ n (some target), some l => some { lane := l, ordinal := n, target := target }
  | _, _ => none

/-- R88: the pending revisions of records. -/
def pendingRevisions (rs : List ItemRecord) : List PendingRevision := rs.filterMap pendingRevision

theorem pendingRevision_eq_some_iff {r : ItemRecord} {q : PendingRevision} :
    pendingRevision r = some q ↔ r.lane = some q.lane ∧ ∃ p, r.state = .routed p q.ordinal (some q.target) := by
  unfold pendingRevision
  split
  next p n target l state lane =>
    rw [Option.some.injEq, state, lane]
    constructor
    · rintro rfl
      exact ⟨rfl, p, rfl⟩
    · rintro ⟨sameLane, p', same⟩
      cases sameLane
      cases same
      rfl
  next other =>
    constructor
    · intro h
      cases h
    · rintro ⟨lane, p, state⟩
      exact absurd lane (other p _ _ _ state)

theorem pendingRevision_none_of_state {r : ItemRecord} (state : pendingField r.state = none) :
    pendingRevision r = none := by
  by_contra some_
  obtain ⟨q, is⟩ := Option.ne_none_iff_exists'.mp some_
  obtain ⟨-, p, routed⟩ := pendingRevision_eq_some_iff.mp is
  rw [routed] at state
  cases state

theorem pendingOn_eq (l : Lane) (r : ItemRecord) :
    pendingOn l r = (pendingRevision r).any fun q => decide (q.lane = l) := by
  unfold pendingOn pendingRevision
  split
  next p n target j state lane => simp [state, lane, pendingField]
  next other =>
    cases state : r.state with
    | routed p n pending =>
      cases pending with
      | none => simp [pendingField]
      | some target =>
        have lane : r.lane = none := by
          cases lane : r.lane with
          | none => rfl
          | some j => exact absurd lane (other p n target j state)
        simp [lane]
    | _ => simp [pendingField]

theorem pendingRevision_congr {r q : ItemRecord} (state : q.state = r.state) (lane : q.lane = r.lane) :
    pendingRevision q = pendingRevision r := by
  unfold pendingRevision
  rw [state, lane]

/-- R97: the records of a lane that carry a pending revision, by number. -/
theorem countP_pendingOn (l : Lane) (rs : List ItemRecord) :
    rs.countP (pendingOn l) = (pendingRevisions rs).countP fun q => decide (q.lane = l) := by
  induction rs with
  | nil => rfl
  | cons r rs ih =>
    rw [List.countP_cons, ih, pendingRevisions, pendingRevisions, List.filterMap_cons, pendingOn_eq]
    cases pendingRevision r with
    | none => simp
    | some q => simp [List.countP_cons]

/-- R88: a change of records that keeps their revisions. -/
theorem pendingRevisions_map {g : ItemRecord → ItemRecord} {rs : List ItemRecord}
    (keeps : ∀ r ∈ rs, pendingRevision (g r) = pendingRevision r) : pendingRevisions (rs.map g) = pendingRevisions rs := by
  rw [pendingRevisions, List.filterMap_map]
  exact List.filterMap_congr keeps

theorem pendingRevisions_cons (r : ItemRecord) (rs : List ItemRecord) :
    pendingRevisions (r :: rs) = (pendingRevision r).toList ++ pendingRevisions rs := by
  rw [pendingRevisions, List.filterMap_cons]
  cases pendingRevision r <;> rfl

/-- R88: one record's change of its revision is one change among the revisions. -/
theorem pendingRevisions_mapOne {rs : List ItemRecord} (order : rs.Pairwise fun a b => a.ref.slot < b.ref.slot)
    {r : ItemRecord} (mem : r ∈ rs) (f : ItemRecord → ItemRecord) :
    ((pendingRevision r).toList ++ pendingRevisions (rs.map fun q => if q.ref = r.ref then f q else q)).Perm
      ((pendingRevision (f r)).toList ++ pendingRevisions rs) := by
  have before := (perm_cons_others order mem).filterMap pendingRevision
  have after := (map_perm_cons_others order mem rfl f).filterMap pendingRevision
  change (pendingRevisions _).Perm (pendingRevisions _) at before after
  rw [pendingRevisions_cons] at before after
  exact (after.append_left _).trans ((List.perm_append_comm_assoc _ _ _).trans (before.symm.append_left _))

/-- R20: with a record its revision leaves. -/
theorem pendingRevisions_filter {rs : List ItemRecord} (order : rs.Pairwise fun a b => a.ref.slot < b.ref.slot)
    {r : ItemRecord} (mem : r ∈ rs) :
    ((pendingRevision r).toList ++ pendingRevisions (rs.filter fun q => decide (q.ref ≠ r.ref))).Perm
      (pendingRevisions rs) := by
  have before := (perm_cons_others order mem).filterMap pendingRevision
  change (pendingRevisions _).Perm (pendingRevisions _) at before
  rw [pendingRevisions_cons] at before
  exact before.symm

/-- R112: the revisions that stand when those of a lane are gone. -/
theorem pendingRevisions_recirculated (l : Lane) (rs : List ItemRecord) :
    pendingRevisions (rs.map (recirculated l)) = (pendingRevisions rs).filter fun q => decide (q.lane ≠ l) := by
  induction rs with
  | nil => rfl
  | cons r rs ih =>
    have head : pendingRevision (recirculated l r) =
        (pendingRevision r).filter fun q => decide (q.lane ≠ l) := by
      cases h : pendingRevision r with
      | none =>
        unfold recirculated
        split
        · exact pendingRevision_none_of_state rfl
        · exact h
      | some q =>
        obtain ⟨lane, p, state⟩ := pendingRevision_eq_some_iff.mp h
        have on : routedOn l r = decide (q.lane = l) := by simp [routedOn, lane, state, stateKind]
        unfold recirculated
        rw [on]
        by_cases e : q.lane = l
        · simp [e, Option.filter, pendingRevision]
        · simp [e, Option.filter, h]
    rw [List.map_cons, pendingRevisions, pendingRevisions, List.filterMap_cons, List.filterMap_cons, head]
    rw [pendingRevisions, pendingRevisions] at ih
    cases pendingRevision r with
    | none => simpa using ih
    | some q => by_cases e : q.lane = l <;> simp [Option.filter, e, ih]

/-! ### What a store step does to the revisions -/

/-- R87 to R97: what the laws of the revisions read of a lane unit is as it was. -/
structure LaneUnit.sameRevisions (u v : LaneUnit) : Prop where
  pendingCount : v.pendingCount = u.pendingCount
  reviseEntries : v.reviseEntries = u.reviseEntries
  workList : v.workList = u.workList
  outbound : v.outbound = u.outbound
  sending : v.sending = u.sending
  finishing : v.finishing = u.finishing

theorem LaneUnit.sameRevisions_refl (u : LaneUnit) : u.sameRevisions u := ⟨rfl, rfl, rfl, rfl, rfl, rfl⟩

theorem LaneUnit.sameRevisions.trans {u v w : LaneUnit} (h : u.sameRevisions v) (h' : v.sameRevisions w) :
    u.sameRevisions w :=
  ⟨h'.pendingCount.trans h.pendingCount, h'.reviseEntries.trans h.reviseEntries, h'.workList.trans h.workList,
    h'.outbound.trans h.outbound, h'.sending.trans h.sending, h'.finishing.trans h.finishing⟩

theorem LaneUnit.sameRevisions_of_eq {u v : LaneUnit} (h : v = u) : u.sameRevisions v := h ▸ u.sameRevisions_refl

theorem LaneUnit.issueOrdinal_sameRevisions (u : LaneUnit) : u.sameRevisions u.issueOrdinal := by
  unfold LaneUnit.issueOrdinal
  split <;> exact ⟨rfl, rfl, rfl, rfl, rfl, rfl⟩

theorem LaneUnit.setParameters_sameRevisions (u : LaneUnit) (ps : List Parameter) :
    u.sameRevisions (ps.foldl LaneUnit.setParameter u) := by
  induction ps generalizing u with
  | nil => exact u.sameRevisions_refl
  | cons p ps ih =>
    have one : u.sameRevisions (u.setParameter p) := by cases p <;> exact ⟨rfl, rfl, rfl, rfl, rfl, rfl⟩
    exact one.trans (ih _)

theorem State.drained_sameRevisions (s : State) (l : Lane) : (s.lane l).sameRevisions (s.drained l) := by
  unfold State.drained
  split
  · exact ⟨rfl, rfl, rfl, rfl, rfl, rfl⟩
  · exact LaneUnit.sameRevisions_refl _

/-- R87, R90 to R94, R112: what a store step does to the pending revisions, in the records and in the lane units. -/
inductive RevisionMove (s t : State) : Prop
  | kept (records : (pendingRevisions t.store.records).Perm (pendingRevisions s.store.records))
      (lanes : ∀ j, (s.lane j).sameRevisions (t.lane j))
  | cleared (r : ItemRecord) (mem : r ∈ s.store.records)
      (records : ((pendingRevision r).toList ++ pendingRevisions t.store.records).Perm
        (pendingRevisions s.store.records))
      (lanes : ∀ j, ((s.lane j).without j r).sameRevisions (t.lane j))
  | issued (l : Lane) (r : ItemRecord) (p : Place) (n : Word32) (target : Place) (expiry : Word32)
      (mem : r ∈ s.store.records) (lane : r.lane = some l) (state : r.state = .routed p n none)
      (room : (s.lane l).mayRevise = true)
      (records : (pendingRevisions t.store.records).Perm
        ({ lane := l, ordinal := n, target := target } :: pendingRevisions s.store.records))
      (lanes : ∀ j, (if j = l then (s.lane l).issueRevise r.ref n target expiry else s.lane j).sameRevisions
        (t.lane j))
  | abandoned (l : Lane)
      (records : (pendingRevisions t.store.records).Perm
        ((pendingRevisions s.store.records).filter fun q => decide (q.lane ≠ l)))
      (lanes : ∀ j, (if j = l then (s.lane l).abandonRevisions else s.lane j).sameRevisions (t.lane j))

section
variable {s t u : State}

/-- R9, R110: what leaves the revisions as they are adds nothing to a move. -/
theorem RevisionMove.extend (move : RevisionMove s t)
    (records : (pendingRevisions u.store.records).Perm (pendingRevisions t.store.records))
    (lanes : ∀ j, (t.lane j).sameRevisions (u.lane j)) : RevisionMove s u := by
  cases move with
  | kept rs ls => exact .kept (records.trans rs) fun j => (ls j).trans (lanes j)
  | cleared r mem rs ls => exact .cleared r mem ((records.append_left _).trans rs) fun j => (ls j).trans (lanes j)
  | issued l r p n target expiry mem lane state room rs ls =>
    exact .issued l r p n target expiry mem lane state room (records.trans rs) fun j => (ls j).trans (lanes j)
  | abandoned l rs ls => exact .abandoned l (records.trans rs) fun j => (ls j).trans (lanes j)

/-- R94: a record that has left its lists, and carries no revision any more. -/
theorem RevisionMove.ofCleared {a : State} (order : s.recordsLaw) {r : ItemRecord} (mem : r ∈ s.store.records)
    {f : ItemRecord → ItemRecord} (done : pendingRevision (f r) = none)
    (records : pendingRevisions a.store.records =
      pendingRevisions (s.store.records.map fun q => if q.ref = r.ref then f q else q))
    (lanes : ∀ j, ((s.lane j).without j r).sameRevisions (a.lane j)) : RevisionMove s a := by
  refine .cleared r mem ?_ lanes
  rw [records]
  simpa [done] using pendingRevisions_mapOne order.1 mem f

theorem LaneUnit.without_of_none {u : LaneUnit} {l : Lane} {r : ItemRecord} (h : pendingRevision r = none) :
    u.without l r = u := by
  unfold LaneUnit.without
  split
  next p n target state =>
    split
    next lane => simp [pendingRevision, state, lane] at h
    next => rfl
  all_goals rfl

theorem LaneUnit.without_of_some {u : LaneUnit} {l : Lane} {r : ItemRecord} {q : PendingRevision}
    (h : pendingRevision r = some q) : u.without l r = if q.lane = l then u.settled r.ref q.ordinal else u := by
  obtain ⟨lane, p, state⟩ := pendingRevision_eq_some_iff.mp h
  simp [LaneUnit.without, state, lane]

theorem State.route_records (s : State) (l : Lane) (ref : Ref) (p : Place) :
    (s.route l ref p).store.records = s.store.records.map fun q =>
      if q.ref = ref then { q with lane := some l, state := .routed p (s.lane l).ordinalCounter none } else q := by
  simp only [State.route, State.changeState_records, State.updateRecord_records, State.setLane_store,
    State.appendExpected, State.setExpected_records, List.map_map]
  refine List.map_congr_left fun q _ => ?_
  by_cases h : q.ref = ref <;> simp [h]

theorem State.route_sameRevisions (s : State) (l : Lane) (ref : Ref) (p : Place) (j : Lane) :
    (s.lane j).sameRevisions ((s.route l ref p).lane j) := by
  rw [State.route_lane]
  split
  next same => exact same ▸ LaneUnit.issueOrdinal_sameRevisions _
  next => exact LaneUnit.sameRevisions_refl _

theorem PointersMoved.records (moved : PointersMoved s t) : t.store.records = s.store.records := by
  cases moved <;> rfl

theorem pendingRevisions_createRecord (s : State) (slot : Nat) (o : Origin) (d : ItemDefinition) :
    (pendingRevisions (s.createRecord slot o d).store.records).Perm (pendingRevisions s.store.records) := by
  refine ((insertRecord_perm _ _).filterMap pendingRevision).trans ?_
  rw [List.filterMap_cons_none (pendingRevision_none_of_state rfl)]
  exact .refl _

/-- R13: the record created in a free slot is the only one of its slot and serial. -/
theorem State.createRecord_expected {slot : Nat} (free : s.lowestFreeSlot = some slot) {o : Origin} {d : ItemDefinition}
    {q : ItemRecord} (mem : q ∈ (s.createRecord slot o d).store.records) (at_ : q.ref.slot = slot) :
    q.state = .expected ∧ q.lane = none := by
  obtain ⟨-, unused, -⟩ := s.lowestFreeSlot_some slot free
  rcases mem_insertRecord.mp mem with rfl | old
  · exact ⟨rfl, rfl⟩
  · exact absurd at_ (unused q old)

theorem pendingRevision_renumbered (content : List Ref) (r : ItemRecord) :
    pendingRevision (renumbered content r) = pendingRevision r := by
  unfold renumbered
  split
  next state _ => exact (pendingRevision_none_of_state rfl).trans (pendingRevision_none_of_state (by rw [state]; rfl)).symm
  next => rfl

/-- R30, R31: an arrival takes the record's revision and leaves the others'. -/
theorem pendingRevisions_arrive (s : State) (k : OutletId) (ref : Ref) (stray : Bool) :
    pendingRevisions (s.arrive k ref stray).store.records =
      pendingRevisions (s.store.records.map fun q => if q.ref = ref then { q with state := .rejected } else q) := by
  have arrived (rs : List ItemRecord) (n : Word32) (g : ItemRecord → ItemRecord) (ref_ : ∀ q, (g q).ref = q.ref)
      (keeps : ∀ q, pendingRevision (g q) = pendingRevision q) :
      pendingRevisions ((rs.map g).map fun q => if q.ref = ref then { q with state := .sorted k n stray } else q) =
        pendingRevisions (rs.map fun q => if q.ref = ref then { q with state := .rejected } else q) := by
    simp only [pendingRevisions, List.map_map, List.filterMap_map]
    refine List.filterMap_congr fun q _ => ?_
    simp only [Function.comp, ref_]
    split
    · exact (pendingRevision_none_of_state rfl).trans (pendingRevision_none_of_state rfl).symm
    · exact keeps q
  unfold State.arrive
  rw [State.changeState_records]
  unfold State.renumberIfDue
  split
  · exact arrived _ _ _ (fun q => (renumbered_keeps _ q).1) fun q => pendingRevision_renumbered _ q
  · have := arrived s.store.records (s.outlet k).arrivalCounter id (fun _ => rfl) fun _ => rfl
    rwa [List.map_id] at this

/-- R90 to R93: a revision that is settled is cleared. -/
theorem RevisionMove.ofSettled {u : State} (law : s.recordsLaw) {l : Lane} {e : ReviseEntry} {p q : Place}
    (still : s.stillPending l e = some q) (records : u.store.records = s.store.records) (lanes : u.lanes = s.lanes) :
    RevisionMove s (u.settleRevision l e p) := by
  obtain ⟨r, target, found, state, lane⟩ := State.stillPending_inv still
  obtain ⟨mem, ref⟩ := s.record?_some found
  refine RevisionMove.ofCleared law mem (f := fun r => { r with state := .routed p e.ordinal none })
    (pendingRevision_none_of_state rfl) ?_ fun j => LaneUnit.sameRevisions_of_eq ?_
  · rw [State.settleRevision, State.setLane_store, State.updateRecord_records, records, ref]
  · have same (j : Lane) : u.lane j = s.lane j := by simp only [State.lane, lanes]
    rw [State.settleRevision, State.lane_setLane, LaneUnit.dropRevision_eq, LaneUnit.without, state]
    simp only [lane, Option.some.injEq, ref]
    by_cases h : j = l
    · subst h
      simp [same]
    · simp only [if_neg h, if_neg (Ne.symm h)]
      exact same j

/-- R18: the records once one has been restored. -/
theorem State.restore_records (s : State) (ref : Ref) :
    (s.restore ref).store.records =
      s.store.records.map fun q => if q.ref = ref then { q with laps := 0, lane := none, state := .expected } else q := by
  simp only [State.restore, State.changeState_records, State.updateRecord_records, List.map_map]
  refine List.map_congr_left fun q _ => ?_
  by_cases h : q.ref = ref <;> simp [h]

/-- R78: the records once one has been recirculated. -/
theorem State.recirculate_records (s : State) (ref : Ref) :
    ((s.updateRecord ref fun q => { q with laps := nextLaps q.laps }).changeState ref .recirculating).store.records =
      s.store.records.map fun q =>
        if q.ref = ref then { q with laps := nextLaps q.laps, state := .recirculating } else q := by
  simp only [State.changeState_records, State.updateRecord_records, List.map_map]
  refine List.map_congr_left fun q _ => ?_
  by_cases h : q.ref = ref <;> simp [h]

/-- R87: the records once changes are made and a revision is issued. -/
theorem State.issueRevision_records {cs : List Change} {ref : Ref}
    (selected : PointersMoved (s.updateRecord ref (applyChanges cs)) t) (l : Lane) (p : Place) (n : Word32)
    (target : Place) :
    (t.issueRevision l ref p n target).store.records =
      s.store.records.map fun q =>
        if q.ref = ref then { applyChanges cs q with state := .routed p n (some target) } else q := by
  simp only [State.issueRevision, State.setLane_store, State.updateRecord_records, selected.records, List.map_map]
  refine List.map_congr_left fun q _ => ?_
  by_cases h : q.ref = ref
  · simp [h, (applyChanges_keeps cs q).1]
  · simp [h]

/-- R87 to R97: every changing step moves the pending revisions in one of four ways. -/
theorem StoreChange.revisionMove {a : State} {xs : List (Subject × Reason)} (change : StoreChange s a xs)
    (law : s.recordsLaw) : RevisionMove s a := by
  have found_mem {r : ItemRecord} (found : s.record? r.ref = some r) : r ∈ s.store.records := (s.record?_some found).1
  have left (r : ItemRecord) (j : Lane) : ((s.lane j).without j r).sameRevisions ((s.leaveLists r).lane j) :=
    LaneUnit.sameRevisions_of_eq (s.leaveLists_lane r j)
  have sameLanes {a : State} (h : a.lanes = s.lanes) (j : Lane) : (s.lane j).sameRevisions (a.lane j) :=
    LaneUnit.sameRevisions_of_eq (by simp only [State.lane, h])
  cases change with
  | created slot o d newKey free => exact .kept (pendingRevisions_createRecord s slot o d) (sameLanes rfl)
  | createdAndRouted slot o d l p t newKey free running open_ selected =>
    refine .kept ?_ fun j => ?_
    · rw [State.route_records, selected.records]
      rw [pendingRevisions_map]
      · exact pendingRevisions_createRecord s slot o d
      · intro q mem
        split
        next same =>
          obtain ⟨expected, -⟩ := State.createRecord_expected free mem (by rw [same])
          rw [pendingRevision_none_of_state rfl, pendingRevision_none_of_state (by rw [expected]; rfl)]
        next => rfl
    · exact (sameLanes selected.lanes j).trans (State.route_sameRevisions t l _ p j)
  | routed r l p t xs found running open_ elsewhere selected =>
    refine RevisionMove.ofCleared law (found_mem found)
      (f := fun q => { q with lane := some l, state := .routed p (t.lane l).ordinalCounter none })
      (pendingRevision_none_of_state rfl) ?_ fun j => ?_
    · rw [State.route_records, selected.records, State.leaveLists_records]
    · have same : ((s.leaveLists r).lane j).sameRevisions (t.lane j) :=
        LaneUnit.sameRevisions_of_eq (selected.lane j)
      exact ((left r j).trans same).trans (State.route_sameRevisions t l _ p j)
  | amended r cs t found selected =>
    refine .kept ?_ (sameLanes selected.lanes)
    rw [selected.records, State.updateRecord_records, pendingRevisions_map]
    intro q _
    split
    · obtain ⟨-, -, state, lane⟩ := applyChanges_keeps cs q
      exact pendingRevision_congr state lane
    · rfl
  | revisionIssued r cs t l assigned n target found lane state selected room =>
    have none_ : pendingRevision r = none := pendingRevision_none_of_state (by rw [state]; rfl)
    refine .issued l r assigned n target (expiryAfter t.timebase (t.lane l).reviseWindow) (found_mem found) lane state
      room ?_ fun j => ?_
    · have changed := pendingRevisions_mapOne law.1 (found_mem found)
        fun q => { applyChanges cs q with state := .routed assigned n (some target) }
      have some_ : pendingRevision { applyChanges cs r with state := .routed assigned n (some target) } =
          some { lane := l, ordinal := n, target := target } :=
        pendingRevision_eq_some_iff.mpr ⟨((applyChanges_keeps cs r).2.2.2).trans lane, assigned, rfl⟩
      rw [none_, some_] at changed
      rw [State.issueRevision_records selected]
      exact changed
    · refine LaneUnit.sameRevisions_of_eq ?_
      simp only [State.issueRevision, State.lane_setLane]
      have same (j : Lane) : t.lane j = s.lane j := selected.lane j
      split
      · simp [same]
      · exact same j
  | restored r found state =>
    have none_ : pendingRevision r = none :=
      pendingRevision_none_of_state (by rcases state with h | h <;> rw [h] <;> rfl)
    refine RevisionMove.ofCleared law (found_mem found)
      (f := fun q => { q with laps := 0, lane := none, state := .expected }) (pendingRevision_none_of_state rfl) ?_ fun j => ?_
    · rw [State.restore_records]
    · rw [LaneUnit.without_of_none none_]
      exact sameLanes (by simp [State.restore]) j
  | retired r found =>
    refine .cleared r (found_mem found) ?_ (left r)
    have records : (s.retireRecord r).store.records = s.store.records.filter fun q => decide (q.ref ≠ r.ref) := by
      simp [State.retireRecord]
    rw [records]
    exact pendingRevisions_filter law.1 (found_mem found)
  | outletSet => exact .kept (.refl _) (sameLanes rfl)
  | filed r l k stray xs found =>
    refine RevisionMove.ofCleared law (found_mem found) (f := fun q => { q with state := .rejected })
      (pendingRevision_none_of_state rfl) ?_ fun j => ?_
    · rw [pendingRevisions_arrive, State.leaveLists_records]
    · exact (left r j).trans (LaneUnit.sameRevisions_of_eq (by simp only [State.lane, State.arrive_lanes]))
  | rejected r xs found =>
    refine RevisionMove.ofCleared law (found_mem found) (f := fun q => { q with state := .rejected })
      (pendingRevision_none_of_state rfl) (by simp) fun j => ?_
    exact (left r j).trans (LaneUnit.sameRevisions_of_eq (by simp [State.lane]))
  | recirculated r xs found =>
    refine RevisionMove.ofCleared law (found_mem found)
      (f := fun q => { q with laps := nextLaps q.laps, state := .recirculating })
      (pendingRevision_none_of_state rfl) ?_ fun j => ?_
    · rw [State.recirculate_records, State.leaveLists_records]
    · exact (left r j).trans (LaneUnit.sameRevisions_of_eq (by simp [State.lane]))
  | laneAbandoned l =>
    refine .abandoned l ?_ fun j => ?_
    · show (pendingRevisions (s.store.records.map (Machine.recirculated l))).Perm _
      rw [pendingRevisions_recirculated]
    · refine LaneUnit.sameRevisions_of_eq ?_
      simp only [State.abandonLane, State.lane_setLane]
      split <;> rfl
  | revisionDropped l e assigned reason still => exact RevisionMove.ofSettled law still rfl rfl
  | revisionTaken l e assigned still =>
    exact RevisionMove.ofSettled law still (by simp [State.insertExpected]) (by simp [State.insertExpected])

theorem StoreWork.revisionMove (work : StoreWork s t) (law : s.recordsLaw) : RevisionMove s t := by
  have kept {t : State} (records : t.store.records = s.store.records)
      (lanes : ∀ j, (s.lane j).sameRevisions (t.lane j)) : RevisionMove s t := .kept (by rw [records]) lanes
  have set {l : Lane} {v : LaneUnit} (h : (s.lane l).sameRevisions v) (j : Lane) :
      (s.lane j).sameRevisions ((s.setLane l v).lane j) := by
    rw [State.lane_setLane]
    split
    next same => exact same ▸ h
    next => exact LaneUnit.sameRevisions_refl _
  cases work with
  | changed change =>
    refine (change.revisionMove law).extend ?_ fun j => ?_
    · rw [commit_records, pendingRevisions_map]
      intro r _
      obtain ⟨-, -, state, lane⟩ := revised_keeps s r
      exact pendingRevision_congr state lane
    · rw [commit_lane]
      exact State.drained_sameRevisions _ j
  | laneStarted l => exact kept rfl (set ⟨rfl, rfl, rfl, rfl, rfl, rfl⟩)
  | laneDraining l => exact kept rfl (set ⟨rfl, rfl, rfl, rfl, rfl, rfl⟩)
  | laneStopped l => exact kept rfl (set (v := (s.lane l).reachStopped) ⟨rfl, rfl, rfl, rfl, rfl, rfl⟩)
  | laneSet l ps => exact kept rfl (set (LaneUnit.setParameters_sameRevisions _ ps))
  | _ => exact kept rfl fun _ => LaneUnit.sameRevisions_refl _

end

/-! ### The counts (R97, R103) -/

/-- R87, R97, R103: what O12 says of the counts of a lane whose records carry these revisions. -/
def LaneUnit.revisionsCounted (u : LaneUnit) (l : Lane) (ps : List PendingRevision) : Prop :=
  u.pendingCount = ps.countP (fun q => decide (q.lane = l)) ∧ u.reviseLaw

def State.revisionsCounted (s : State) : Prop :=
  ∀ l, (s.lane l).revisionsCounted l (pendingRevisions s.store.records)

theorem State.revisionsCounted_iff (s : State) :
    s.revisionsCounted ↔ s.pendingLaw ∧ ∀ l, (s.lane l).reviseLaw := by
  simp only [State.revisionsCounted, LaneUnit.revisionsCounted, State.pendingLaw, countP_pendingOn, forall_and]

section
variable {u v : LaneUnit} {l : Lane} {ps : List PendingRevision}

theorem LaneUnit.sameRevisions.revisionsCounted (h : u.sameRevisions v) (law : u.revisionsCounted l ps) :
    v.revisionsCounted l ps := by
  simpa only [LaneUnit.revisionsCounted, LaneUnit.reviseLaw, h.pendingCount, h.reviseEntries, h.workList] using law

theorem LaneUnit.revisionsCounted_congr {qs : List PendingRevision} (same : qs.Perm ps) :
    u.revisionsCounted l qs ↔ u.revisionsCounted l ps := by rw [revisionsCounted, revisionsCounted, same.countP_eq]

/-- R94, R97: the count falls with the revision. -/
theorem LaneUnit.without_revisionsCounted {r : ItemRecord} (law : u.revisionsCounted l ((pendingRevision r).toList ++ ps)) :
    (u.without l r).revisionsCounted l ps := by
  cases h : pendingRevision r with
  | none =>
    rw [LaneUnit.without_of_none h]
    simpa [h] using law
  | some q =>
    rw [LaneUnit.without_of_some h]
    rw [h] at law
    obtain ⟨count, few, waiting⟩ := law
    simp only [Option.toList_some, List.singleton_append, List.countP_cons] at count
    split
    next on =>
      simp only [on, decide_true, if_true] at count
      have fewer : (u.reviseEntries.filter fun e => decide (e.ref ≠ r.ref)).countP isWaiting ≤
          u.reviseEntries.countP isWaiting := List.filter_sublist.countP_le
      exact ⟨by simp only [LaneUnit.settled]; omega, by simp only [LaneUnit.settled]; omega,
        by simp only [LaneUnit.settled]; omega⟩
    next off => exact ⟨by simpa [off] using count, few, waiting⟩

/-- R87: the count rises with the revision, where there is room. -/
theorem LaneUnit.issueRevise_revisionsCounted {n : Word32} {target : Place} (law : u.revisionsCounted l ps)
    (room : u.mayRevise = true) (ref : Ref) (expiry : Word32) :
    (u.issueRevise ref n target expiry).revisionsCounted l ({ lane := l, ordinal := n, target := target } :: ps) := by
  obtain ⟨count, few, waiting⟩ := law
  simp only [LaneUnit.mayRevise, Bool.and_eq_true, decide_eq_true_eq] at room
  have same : u.roomForRevise.workList = u.workList := by
    rcases u.roomForRevise_spec with h | ⟨m, ms, -, -, -, -, h⟩ <;> rw [h]
  refine ⟨by simp [LaneUnit.issueRevise, count], room.1, ?_⟩
  simp only [LaneUnit.issueRevise, same, List.countP_append, List.countP_singleton, isWaiting, decide_true, if_true]
  omega

end

section
variable {s t : State}

theorem RevisionMove.revisionsCounted (move : RevisionMove s t) (law : s.revisionsCounted) : t.revisionsCounted := by
  intro j
  have own := law j
  cases move with
  | kept records lanes => exact (lanes j).revisionsCounted ((LaneUnit.revisionsCounted_congr records).mpr own)
  | cleared r mem records lanes =>
    exact (lanes j).revisionsCounted (LaneUnit.without_revisionsCounted ((LaneUnit.revisionsCounted_congr records).mpr own))
  | issued l r p n target expiry mem lane state room records lanes =>
    refine (lanes j).revisionsCounted ((LaneUnit.revisionsCounted_congr records).mpr ?_)
    split
    next same =>
      subst same
      exact LaneUnit.issueRevise_revisionsCounted own room r.ref expiry
    next other => exact ⟨by simpa [Ne.symm other] using own.1, own.2⟩
  | abandoned l records lanes =>
    refine (lanes j).revisionsCounted ((LaneUnit.revisionsCounted_congr records).mpr ?_)
    obtain ⟨count, few, waiting⟩ := own
    have filtered : ((pendingRevisions s.store.records).filter fun q => decide (q.lane ≠ l)).countP
        (fun q => decide (q.lane = j)) =
          if j = l then 0 else (pendingRevisions s.store.records).countP fun q => decide (q.lane = j) := by
      rw [List.countP_filter]
      split
      next same => exact List.countP_eq_zero.mpr fun q _ => by simp [same]
      next other => exact List.countP_congr fun q _ => by simpa using fun e : q.lane = j => e ▸ other
    rw [LaneUnit.revisionsCounted, filtered]
    split
    next same =>
      subst same
      refine ⟨rfl, Nat.zero_le _, ?_⟩
      simp only [LaneUnit.abandonRevisions, LaneUnit.withdraw, List.countP_nil]
      omega
    next => exact ⟨count, few, waiting⟩

end

/-! ### The unsent REVISEs (R87, R104) -/

/-- R104: the induction ordinal and the target of a REVISE. -/
def Message.revision : Message → Option (Word32 × Place)
  | .revise n target => some (n, target)
  | .answer _ _ _ _ | .note _ _ | .restartDone => none

/-- R87, R104: the revisions of the outbound queue whose REVISE has not begun to be sent. -/
def LaneUnit.unsentRevisions (u : LaneUnit) : List (Word32 × Place) := u.unsent.filterMap Message.revision

/-- R87, R104: the revisions of the outbound queue. -/
def LaneUnit.queuedRevisions (u : LaneUnit) : List (Word32 × Place) := u.outbound.filterMap Message.revision

theorem Message.revision_eq_some_iff {m : Message} {n : Word32} {target : Place} :
    m.revision = some (n, target) ↔ m = .revise n target := by
  cases m <;> simp [Message.revision]

theorem Message.reviseOrdinal_eq (m : Message) : m.reviseOrdinal = m.revision.map Prod.fst := by cases m <;> rfl

theorem countP_reviseOrdinal (ms : List Message) :
    ms.countP (fun m => m.reviseOrdinal.isSome) = (ms.filterMap Message.revision).length := by
  rw [List.length_filterMap_eq_countP]
  exact List.countP_congr fun m _ => by rw [Message.reviseOrdinal_eq, Option.isSome_map]

/-- R87, R97, R104: what O12 says of the outbound queue of a lane whose records carry these revisions. -/
def LaneUnit.revisesStand (u : LaneUnit) (l : Lane) (ps : List PendingRevision) : Prop :=
  (u.unsentRevisions.map Prod.fst).Nodup ∧
    (∀ q ∈ u.unsentRevisions, ({ lane := l, ordinal := q.1, target := q.2 } : PendingRevision) ∈ ps) ∧
    u.queuedRevisions.length ≤ 8 ∧ (u.finishing.isSome = true → u.sending = false)

theorem mem_pendingRevisions {rs : List ItemRecord} {l : Lane} {n : Word32} {target : Place} :
    ({ lane := l, ordinal := n, target := target } : PendingRevision) ∈ pendingRevisions rs ↔
      ∃ r ∈ rs, r.lane = some l ∧ ∃ p, r.state = .routed p n (some target) := by
  simp only [pendingRevisions, List.mem_filterMap, pendingRevision_eq_some_iff]

theorem State.outboundLaw_iff (s : State) (l : Lane) :
    s.outboundLaw l ↔ (s.lane l).revisesStand l (pendingRevisions s.store.records) := by
  have ordinals : (s.lane l).unsent.filterMap Message.reviseOrdinal = (s.lane l).unsentRevisions.map Prod.fst := by
    rw [LaneUnit.unsentRevisions, List.map_filterMap]
    exact congrArg (fun f => (s.lane l).unsent.filterMap f) (funext Message.reviseOrdinal_eq)
  have stands : (∀ q ∈ (s.lane l).unsentRevisions,
      ({ lane := l, ordinal := q.1, target := q.2 } : PendingRevision) ∈ pendingRevisions s.store.records) ↔
      ∀ n target, .revise n target ∈ (s.lane l).unsent →
        ∃ r ∈ s.store.records, r.lane = some l ∧ ∃ p, r.state = .routed p n (some target) := by
    simp only [mem_pendingRevisions, LaneUnit.unsentRevisions, List.mem_filterMap]
    constructor
    · intro h n target mem
      exact h (n, target) ⟨_, mem, rfl⟩
    · rintro h ⟨n, target⟩ ⟨m, mem, is⟩
      exact h n target (Message.revision_eq_some_iff.mp is ▸ mem)
  rw [LaneUnit.revisesStand, stands, ← ordinals, LaneUnit.queuedRevisions, ← countP_reviseOrdinal]
  rfl

/-! ### The events outside the store steps -/

/-- What the events of a lane unit outside the work of its store steps do to its revisions. -/
structure LaneUnit.movesQueues (u v : LaneUnit) : Prop where
  pendingCount : v.pendingCount = u.pendingCount
  waiting : v.reviseEntries.countP isWaiting + v.workList.countP isReviseItem ≤
    u.reviseEntries.countP isWaiting + u.workList.countP isReviseItem
  unsent : v.unsentRevisions.Sublist u.unsentRevisions
  queued : v.queuedRevisions.length ≤ u.queuedRevisions.length
  finishing : (u.finishing.isSome = true → u.sending = false) → v.finishing.isSome = true → v.sending = false

section
variable {u v : LaneUnit} {l : Lane} {ps : List PendingRevision}

theorem LaneUnit.movesQueues_refl (u : LaneUnit) : u.movesQueues u := ⟨rfl, Nat.le_refl _, .refl _, Nat.le_refl _, id⟩

theorem LaneUnit.movesQueues.trans {w : LaneUnit} (h : u.movesQueues v) (h' : v.movesQueues w) : u.movesQueues w :=
  ⟨h'.pendingCount.trans h.pendingCount, h'.waiting.trans h.waiting, h'.unsent.trans h.unsent,
    h'.queued.trans h.queued, fun f => h'.finishing (h.finishing f)⟩

theorem LaneUnit.movesQueues.revisionsCounted (h : u.movesQueues v) (law : u.revisionsCounted l ps) :
    v.revisionsCounted l ps := by
  obtain ⟨count, few, waiting⟩ := law
  exact ⟨h.pendingCount.trans count, h.pendingCount ▸ few, h.waiting.trans waiting⟩

theorem LaneUnit.movesQueues.revisesStand (h : u.movesQueues v) (law : u.revisesStand l ps) : v.revisesStand l ps := by
  obtain ⟨once, stand, few, finishing⟩ := law
  exact ⟨once.sublist (h.unsent.map _), fun q hq => stand q (h.unsent.mem hq), h.queued.trans few, h.finishing finishing⟩

/-- An event that leaves the outbound queue. -/
theorem LaneUnit.movesQueues_of_outbound (pendingCount : v.pendingCount = u.pendingCount)
    (waiting : v.reviseEntries.countP isWaiting + v.workList.countP isReviseItem ≤
      u.reviseEntries.countP isWaiting + u.workList.countP isReviseItem)
    (outbound : v.outbound = u.outbound) (sending : v.sending = u.sending) (finishing : v.finishing = u.finishing) :
    u.movesQueues v := by
  refine ⟨pendingCount, waiting, ?_, ?_, by rw [sending, finishing]; exact id⟩
  · rw [LaneUnit.unsentRevisions, LaneUnit.unsentRevisions, LaneUnit.unsent, LaneUnit.unsent, outbound, sending]
  · rw [LaneUnit.queuedRevisions, LaneUnit.queuedRevisions, outbound]

theorem revision_of_isReply {m : Message} (h : isReply m = true) : m.revision = none := by
  cases m <;> simp_all [isReply, Message.revision]

/-- R104: replies that join the outbound queue. -/
theorem LaneUnit.movesQueues_of_replies {ms : List Message} (replies : ∀ m ∈ ms, isReply m = true)
    (pendingCount : v.pendingCount = u.pendingCount)
    (waiting : v.reviseEntries.countP isWaiting + v.workList.countP isReviseItem ≤
      u.reviseEntries.countP isWaiting + u.workList.countP isReviseItem)
    (outbound : v.outbound = u.outbound ++ ms) (sending : v.sending = u.sending)
    (finishing : v.finishing = u.finishing) : u.movesQueues v := by
  have none_ {more : List Message} (sub : more.Sublist ms) : more.filterMap Message.revision = [] :=
    List.filterMap_eq_nil_iff.mpr fun m hm => revision_of_isReply (replies m (sub.mem hm))
  refine ⟨pendingCount, waiting, ?_, ?_, by rw [sending, finishing]; exact id⟩
  · rw [LaneUnit.unsentRevisions, LaneUnit.unsentRevisions, LaneUnit.unsent, LaneUnit.unsent, outbound, sending]
    split
    · rw [List.drop_append, List.filterMap_append, none_ (List.drop_sublist _ _), List.append_nil]
    · rw [List.filterMap_append, none_ (.refl _), List.append_nil]
  · rw [LaneUnit.queuedRevisions, LaneUnit.queuedRevisions, outbound, List.filterMap_append, none_ (.refl _),
      List.append_nil]

theorem LaneUnit.markLinkFault_movesQueues (u : LaneUnit) : u.movesQueues u.markLinkFault := by
  unfold LaneUnit.markLinkFault
  split
  · exact u.movesQueues_refl
  · refine LaneUnit.movesQueues_of_outbound rfl ?_ rfl rfl rfl
    simp [isReviseItem]

/-- R89, R93: a WAITING entry becomes a revise item. -/
theorem LaneUnit.settleEntry_movesQueues (u : LaneUnit) {p : ReviseEntry → Bool} {c : ReviseCondition}
    (waiting : ∀ e, p e = true → e.condition = .waiting) (settles : c ≠ .waiting) : u.movesQueues (u.settleEntry p c) := by
  unfold LaneUnit.settleEntry
  split
  · exact u.movesQueues_refl
  next e found =>
    refine LaneUnit.movesQueues_of_outbound rfl ?_ rfl rfl rfl
    have is := waiting e (List.find?_some found)
    have fewer (es : List ReviseEntry) : (es.map fun q => if q = e then { e with condition := c } else q).countP isWaiting +
        es.count e = es.countP isWaiting := by
      induction es with
      | nil => rfl
      | cons q es ih =>
        simp only [List.map_cons, List.countP_cons, List.count_cons, ← ih]
        by_cases h : q = e
        · simp [h, isWaiting, is, settles]
          omega
        · simp [h]
          omega
    have one : 0 < u.reviseEntries.count e := List.count_pos_iff.mpr (List.mem_of_find?_eq_some found)
    have := fewer u.reviseEntries
    simp only [List.countP_append, List.countP_singleton, isReviseItem, if_true]
    omega

theorem LaneUnit.headSent_movesQueues (u : LaneUnit) : u.movesQueues u.headSent := by
  unfold LaneUnit.headSent
  split
  · exact u.movesQueues_refl
  next m ms queue =>
    have released (ws : List WorkItem) (t : Nat) : (ws.map (releaseTicket t)).countP isReviseItem = ws.countP isReviseItem := by
      rw [List.countP_map]
      refine List.countP_congr fun w _ => ?_
      rcases w with ⟨key, _ | n⟩ | _ | _ <;> simp [releaseTicket, isReviseItem]
    refine ⟨rfl, ?_, ?_, ?_, fun _ _ => rfl⟩
    · cases m.ticket with
      | none => exact Nat.le_refl _
      | some t => simp [released]
    · simp only [LaneUnit.unsentRevisions, LaneUnit.unsent, queue, Bool.false_eq_true, if_false]
      split
      · exact .refl _
      · exact (List.sublist_cons_self m ms).filterMap _
    · simp only [LaneUnit.queuedRevisions, queue]
      exact ((List.sublist_cons_self m ms).filterMap _).length_le

theorem LaneUnit.messageSent_movesQueues (u : LaneUnit) : u.movesQueues u.messageSent := by
  unfold LaneUnit.messageSent
  split
  · exact ⟨rfl, Nat.le_refl _, .refl _, Nat.le_refl _, fun _ h => by simp at h⟩
  · exact u.headSent_movesQueues

theorem LaneUnit.beginSending_movesQueues (u : LaneUnit) : u.movesQueues u.beginSending := by
  refine ⟨rfl, Nat.le_refl _, ?_, Nat.le_refl _, fun finishing h => ?_⟩
  · have still : u.sending = true → u.beginSending.sending = true := fun h => by simp [LaneUnit.beginSending, h]
    have same : u.beginSending.outbound = u.outbound := rfl
    refine List.Sublist.filterMap _ ?_
    rw [LaneUnit.unsent, LaneUnit.unsent, same]
    split
    · split
      · exact .refl _
      · exact List.drop_sublist 1 u.outbound
    next waits =>
      rw [if_neg fun h => waits (still h)]
  · have finishes : u.finishing.isSome = true := h
    simp [LaneUnit.beginSending, finishing finishes, Option.isNone_eq_false_iff.mpr finishes]

theorem LaneUnit.accept_movesQueues (u : LaneUnit) (r : Request) : u.movesQueues (u.accept r) := by
  unfold LaneUnit.accept
  split
  · exact LaneUnit.movesQueues_of_outbound rfl (Nat.le_refl _) rfl rfl rfl
  · exact u.markLinkFault_movesQueues

theorem UnitMove.movesQueues {s : State} (move : UnitMove s l u) : (s.lane l).movesQueues u := by
  cases move with
  | accepted r => exact LaneUnit.accept_movesQueues _ r
  | faulted => exact LaneUnit.markLinkFault_movesQueues _
  | settled p c waiting settles => exact LaneUnit.settleEntry_movesQueues _ waiting settles
  | expired position key tag =>
    refine LaneUnit.movesQueues_of_replies (ms := [.answer tag .bin .late (some (s.lane l).lateTickets)])
      (by simp [isReply]) rfl ?_ rfl rfl rfl
    simp [LaneUnit.answerLate, isReviseItem]
  | sent => exact LaneUnit.messageSent_movesQueues _

theorem LaneUnit.stepDone_movesQueues (u : LaneUnit) {reply : Option Message}
    (replies : ∀ m, reply = some m → isReply m = true) : u.movesQueues (u.stepDone reply) := by
  have fewer : u.dropItem.workList.countP isReviseItem ≤ u.workList.countP isReviseItem := by
    unfold LaneUnit.dropItem
    split
    · exact (List.tail_sublist _).countP_le
    · exact Nat.le_refl _
  have kept : u.dropItem.pendingCount = u.pendingCount ∧ u.dropItem.reviseEntries = u.reviseEntries ∧
      u.dropItem.sending = u.sending ∧ u.dropItem.finishing = u.finishing := by
    unfold LaneUnit.dropItem
    split <;> exact ⟨rfl, rfl, rfl, rfl⟩
  obtain ⟨count, entries, sending, finishing⟩ := kept
  refine LaneUnit.movesQueues_of_replies (ms := if u.discardReply then [] else reply.toList) ?_ count ?_ ?_ sending
    finishing
  · intro m hm
    split at hm
    · cases hm
    · exact replies m (Option.mem_toList.mp hm)
  · show u.dropItem.reviseEntries.countP isWaiting + u.dropItem.workList.countP isReviseItem ≤ _
    rw [entries]
    exact Nat.add_le_add_left fewer _
  · simp only [LaneUnit.stepDone]
    split <;> simp

/-- R111: a RESTART leaves only what is being sent, and of the work list the item in hand and the link fault. -/
theorem LaneUnit.restartArrives_movesQueues (u : LaneUnit) (granted : Bool) : u.movesQueues (u.restartArrives granted) := by
  have sent : u.beingSent.Sublist u.outbound := by
    unfold LaneUnit.beingSent
    split
    · exact List.take_sublist _ _
    · exact List.nil_sublist _
  refine ⟨rfl, ?_, ?_, (sent.filterMap _).length_le, id⟩
  · have faults (ws : List WorkItem) : (ws.filter fun w => decide (w = .linkFault)).countP isReviseItem = 0 := by
      refine List.countP_eq_zero.mpr fun w hw => ?_
      obtain rfl := of_decide_eq_true (List.mem_filter.mp hw).2
      simp [isReviseItem]
    have items : (u.restartArrives granted).workList.countP isReviseItem ≤ u.workList.countP isReviseItem := by
      unfold LaneUnit.restartArrives
      dsimp only
      split
      · rw [List.countP_append, faults, Nat.add_zero, List.countP_map]
        refine (Nat.le_of_eq (List.countP_congr fun w _ => ?_)).trans (List.take_sublist 1 u.workList).countP_le
        rcases w with ⟨key, _ | n⟩ | _ | _ <;> rfl
      · rw [faults]
        exact Nat.zero_le _
    exact (Nat.le_of_eq (Nat.zero_add _)).trans (items.trans (Nat.le_add_left _ _))
  · have unsent : (u.restartArrives granted).unsent = [] := by
      simp only [LaneUnit.unsent, LaneUnit.restartArrives, LaneUnit.beingSent]
      by_cases h : u.sending = true <;> simp [h]
    rw [LaneUnit.unsentRevisions, unsent]
    exact List.nil_sublist _

end

/-! ### The effects of a step -/

/-- The lane units move on by events that leave the records. -/
def State.movesQueues (s t : State) : Prop :=
  t.store.records = s.store.records ∧ ∀ j, (s.lane j).movesQueues (t.lane j)

section
variable {s t u : State}

theorem State.movesQueues_of_lanes (records : t.store.records = s.store.records) (lanes : t.lanes = s.lanes) :
    s.movesQueues t :=
  ⟨records, fun j => by simp only [State.lane, lanes]; exact LaneUnit.movesQueues_refl _⟩

theorem State.movesQueues.trans (h : s.movesQueues t) (h' : t.movesQueues u) : s.movesQueues u :=
  ⟨h'.1.trans h.1, fun j => (h.2 j).trans (h'.2 j)⟩

theorem State.movesQueues_setLane {l : Lane} {v : LaneUnit} (h : (s.lane l).movesQueues v) :
    s.movesQueues (s.setLane l v) := by
  refine ⟨rfl, fun j => ?_⟩
  rw [State.lane_setLane]
  split
  next same => exact same ▸ h
  next => exact LaneUnit.movesQueues_refl _

theorem State.arbitrate_movesQueues (s : State) : s.movesQueues s.arbitrate :=
  State.movesQueues_of_lanes (by rw [State.arbitrate_store]) (State.arbitrate_lanes _)

theorem State.takeUp_movesQueues (s : State) (l : Lane) : s.movesQueues (s.takeUp l) := by
  have set {v : LaneUnit} (count : v.pendingCount = (s.lane l).pendingCount)
      (entries : v.reviseEntries = (s.lane l).reviseEntries) (work : v.workList = (s.lane l).workList)
      {ms : List Message} (replies : ∀ m ∈ ms, isReply m = true) (outbound : v.outbound = (s.lane l).outbound ++ ms)
      (sending : v.sending = (s.lane l).sending) (finishing : v.finishing = (s.lane l).finishing) :
      s.movesQueues (s.setLane l v) :=
    State.movesQueues_setLane (LaneUnit.movesQueues_of_replies replies count (by rw [entries, work]) outbound sending
      finishing)
  have served {v : LaneUnit} (count : v.pendingCount = (s.lane l).pendingCount)
      (entries : v.reviseEntries = (s.lane l).reviseEntries) (work : v.workList = (s.lane l).workList)
      (outbound : v.outbound = (s.lane l).outbound) (sending : v.sending = (s.lane l).sending)
      (finishing : v.finishing = (s.lane l).finishing) : s.movesQueues ((s.setLane l v).requestLaneStep l) :=
    set count entries work (ms := []) (by simp) (by rw [outbound, List.append_nil]) sending finishing
  rw [State.takeUp_spec]
  split
  · exact State.movesQueues_of_lanes rfl rfl
  · split
    · exact served rfl rfl rfl rfl rfl rfl
    · split
      · exact State.movesQueues_of_lanes rfl rfl
      next =>
        split
        next reason _ => exact set rfl rfl rfl (by simp [isReply]) rfl rfl rfl
        next => exact served rfl rfl rfl rfl rfl rfl
      next => exact served rfl rfl rfl rfl rfl rfl

theorem State.takeUpAll_movesQueues (s : State) (l : Lane) : s.movesQueues (s.takeUpAll l) :=
  State.takeUpAll_keeps (fun u => s.movesQueues u) s l (fun u h => h.trans (u.takeUp_movesQueues l))
    (State.movesQueues_of_lanes rfl rfl)

theorem State.completeLaneStep_movesQueues (t : State) (l : Lane) {reply : Option Message}
    (replies : ∀ m, reply = some m → isReply m = true) (takeUp : Bool) :
    t.movesQueues (t.completeLaneStep l reply takeUp) := by
  have done : t.movesQueues (t.freeStore.setLane l ((t.lane l).stepDone reply)) :=
    State.movesQueues_setLane (s := t) ((t.lane l).stepDone_movesQueues replies)
  have asked : t.movesQueues (if (t.lane l).restartWaiting then
      (t.freeStore.setLane l ((t.lane l).stepDone reply)).requestLaneStep l
      else t.freeStore.setLane l ((t.lane l).stepDone reply)) := by
    split <;> exact done
  refine State.movesQueues.trans ?_ (State.arbitrate_movesQueues _)
  split
  · exact asked.trans (State.takeUpAll_movesQueues _ l)
  · exact asked

theorem State.restartArrives_movesQueues (s : State) (l : Lane) : s.movesQueues (s.restartArrives l) := by
  have arrived (granted : Bool) : s.movesQueues (s.setLane l ((s.lane l).restartArrives granted)) :=
    State.movesQueues_setLane (LaneUnit.restartArrives_movesQueues _ granted)
  unfold State.restartArrives
  dsimp only
  split
  · exact arrived _
  · exact State.movesQueues.trans (arrived _) (State.arbitrate_movesQueues _)

/-- R117: a step resets the part, or does the work of a store step and moves the lane units' queues on. -/
theorem Effect.revisions (effect : Effect s t) :
    (∃ asserted, t = s.withPins State.reset asserted) ∨ ∃ u, StoreWork s u ∧ u.movesQueues t := by
  have moved (h : s.movesQueues t) : (∃ asserted, t = s.withPins State.reset asserted) ∨
      ∃ u, StoreWork s u ∧ u.movesQueues t := .inr ⟨s, .nothing, h⟩
  cases effect with
  | nothing => exact moved (State.movesQueues_of_lanes rfl rfl)
  | powerOn asserted => exact .inl ⟨asserted, rfl⟩
  | channel move =>
    obtain ⟨store, lanes⟩ := move.store
    exact moved (State.movesQueues_of_lanes (by rw [store]) lanes)
  | hostStep f r work =>
    exact .inr ⟨_, work, State.movesQueues_of_lanes (by rw [State.completeHostStep_store])
      (State.completeHostStep_lanes _ _ _)⟩
  | laneStep l x reply takeUp work _ _ kind =>
    exact .inr ⟨_, work, State.completeLaneStep_movesQueues _ l kind takeUp⟩
  | unit l move => exact moved (State.movesQueues_setLane move.movesQueues)
  | restarted l => exact moved (State.restartArrives_movesQueues s l)
  | service l => exact moved ((State.takeUp_movesQueues s l).trans (State.arbitrate_movesQueues _))
  | ticked =>
    refine moved ⟨rfl, fun j => ?_⟩
    have lane : State.lane { s with timebase := s.timebase + 1, lanes := s.lanes.map LaneUnit.beginSending } j =
        (s.lane j).beginSending := by simp [State.lane]
    rw [lane]
    exact LaneUnit.beginSending_movesQueues _

theorem Effect.revisionsCounted (effect : Effect s t) (records : s.recordsLaw) (law : s.revisionsCounted) :
    t.revisionsCounted := by
  rcases effect.revisions with ⟨asserted, rfl⟩ | ⟨u, work, same, lanes⟩
  · intro l
    have lane : (s.withPins State.reset asserted).lane l = LaneUnit.reset := State.reset_lane l
    rw [lane]
    simp [LaneUnit.revisionsCounted, LaneUnit.reviseLaw, LaneUnit.reset, pendingRevisions, State.withPins]
  · intro l
    rw [same]
    exact (lanes l).revisionsCounted ((work.revisionMove records).revisionsCounted law l)

end

/-! ### The REVISEs of the outbound queue through a store step -/

section
variable {u v : LaneUnit} {l : Lane} {ps : List PendingRevision}

theorem LaneUnit.sameRevisions.revisesStand (h : u.sameRevisions v) (law : u.revisesStand l ps) :
    v.revisesStand l ps := by
  simpa only [LaneUnit.revisesStand, LaneUnit.unsentRevisions, LaneUnit.queuedRevisions, LaneUnit.unsent, h.outbound,
    h.sending, h.finishing] using law

theorem LaneUnit.revisesStand_congr {qs : List PendingRevision} (same : qs.Perm ps) :
    u.revisesStand l qs ↔ u.revisesStand l ps := by simp only [LaneUnit.revisesStand, same.mem_iff]

/-- R94, R104: withdrawing takes REVISEs from the unsent ones. -/
theorem LaneUnit.withdraw_revisesStand {p : Message → Bool} (law : u.revisesStand l ps) {qs : List PendingRevision}
    (left : ∀ n target, p (.revise n target) = false →
      ({ lane := l, ordinal := n, target := target } : PendingRevision) ∈ ps →
      ({ lane := l, ordinal := n, target := target } : PendingRevision) ∈ qs) :
    (u.withdraw p).revisesStand l qs := by
  obtain ⟨once, stand, few, finishing⟩ := law
  have sub : (u.withdraw p).unsentRevisions.Sublist u.unsentRevisions := by
    rw [LaneUnit.unsentRevisions, LaneUnit.withdraw_unsent]
    exact List.filter_sublist.filterMap _
  refine ⟨once.sublist (sub.map _), ?_, ?_, finishing⟩
  · rintro ⟨n, target⟩ mem
    have stood := stand _ (sub.mem mem)
    rw [LaneUnit.unsentRevisions, LaneUnit.withdraw_unsent] at mem
    obtain ⟨m, kept, is⟩ := List.mem_filterMap.mp mem
    obtain rfl := Message.revision_eq_some_iff.mp is
    exact left n target (by simpa using (List.mem_filter.mp kept).2) stood
  · have fewer : (u.withdraw p).queuedRevisions.Sublist u.queuedRevisions := by
      refine List.Sublist.filterMap _ ?_
      conv_rhs => rw [← u.beingSent_append_unsent]
      exact List.filter_sublist.append_left _
    exact fewer.length_le.trans few

theorem LaneUnit.without_revisesStand {r : ItemRecord} (law : u.revisesStand l ((pendingRevision r).toList ++ ps)) :
    (u.without l r).revisesStand l ps := by
  cases h : pendingRevision r with
  | none =>
    rw [LaneUnit.without_of_none h]
    simpa [h] using law
  | some q =>
    rw [LaneUnit.without_of_some h]
    rw [h] at law
    split
    next on =>
      rw [← LaneUnit.dropRevision_eq]
      refine LaneUnit.withdraw_revisesStand (u := u.closeRevise r.ref) law fun n target other mem => ?_
      have differ : n ≠ q.ordinal := by simpa [Message.reviseOrdinal] using other
      rcases List.mem_cons.mp mem with own | rest
      · exact absurd (congrArg PendingRevision.ordinal own) differ
      · exact rest
    next off =>
      obtain ⟨once, stand, few, finishing⟩ := law
      refine ⟨once, fun x hx => ?_, few, finishing⟩
      rcases List.mem_cons.mp (stand x hx) with own | rest
      · exact absurd (congrArg PendingRevision.lane own).symm off
      · exact rest

/-- R87: the unsent REVISEs are no more than the pending revisions of the lane. -/
theorem LaneUnit.revisesStand.unsent_le (law : u.revisesStand l ps) :
    u.unsentRevisions.length ≤ ps.countP fun q => decide (q.lane = l) := by
  obtain ⟨once, stand, -, -⟩ := law
  let place : Word32 × Place → PendingRevision := fun q => { lane := l, ordinal := q.1, target := q.2 }
  have distinct : (u.unsentRevisions.map place).Nodup := by
    refine List.Nodup.of_map PendingRevision.ordinal ?_
    rw [List.map_map]
    exact once
  have inside : u.unsentRevisions.map place ⊆ ps.filter fun q => decide (q.lane = l) := by
    intro q hq
    obtain ⟨x, hx, rfl⟩ := List.mem_map.mp hq
    exact List.mem_filter.mpr ⟨stand x hx, decide_eq_true rfl⟩
  have most := (List.subperm_of_subset distinct inside).length_le
  rwa [List.length_map, ← List.countP_eq_length_filter] at most

theorem LaneUnit.roomForRevise_unsent (u : LaneUnit) : u.roomForRevise.unsent = u.unsent := by
  rcases u.roomForRevise_spec with h | ⟨m, ms, sending, queue, -, -, h⟩
  · rw [h]
  · rw [h]
    simp [LaneUnit.unsent, sending, queue]

/-- R87, R101: there is room for a REVISE in the outbound queue. -/
theorem LaneUnit.roomForRevise_queued (few : u.unsentRevisions.length < 8) :
    u.roomForRevise.queuedRevisions.length < 8 := by
  unfold LaneUnit.roomForRevise
  split
  · exact few
  next noNeed =>
    by_contra full
    rw [not_lt] at full
    rw [countP_reviseOrdinal] at noNeed
    have sent : u.beingSent.filterMap Message.revision = [] := by
      refine List.filterMap_eq_nil_iff.mpr fun m hm => ?_
      by_contra some_
      refine noNeed ⟨List.any_eq_true.mpr ⟨m, hm, ?_⟩, full⟩
      rw [Message.reviseOrdinal_eq, Option.isSome_map]
      exact Option.isSome_iff_ne_none.mpr some_
    rw [LaneUnit.queuedRevisions, ← u.beingSent_append_unsent, List.filterMap_append, sent, List.nil_append] at full
    exact absurd few (Nat.not_lt.mpr full)

/-- R87: a REVISE joins the queue as the only one of its induction ordinal. -/
theorem LaneUnit.issueRevise_revisesStand (law : u.revisesStand l ps) {n : Word32} {target : Place}
    (fresh : ∀ q ∈ ps, q.lane = l → q.ordinal ≠ n) (few : ps.countP (fun q => decide (q.lane = l)) < 8)
    (ref : Ref) (expiry : Word32) :
    (u.issueRevise ref n target expiry).revisesStand l ({ lane := l, ordinal := n, target := target } :: ps) := by
  have room := LaneUnit.roomForRevise_queued (law.unsent_le.trans_lt few)
  obtain ⟨once, stand, -, finishing⟩ := law
  have sub : (u.issueRevise ref n target expiry).unsentRevisions.Sublist (u.unsentRevisions ++ [(n, target)]) := by
    have joined : (u.issueRevise ref n target expiry).unsent.Sublist
        (u.roomForRevise.unsent ++ [.revise n target]) := by
      have own : (u.issueRevise ref n target expiry).outbound = u.roomForRevise.outbound ++ [.revise n target] := rfl
      have sending : (u.issueRevise ref n target expiry).sending = u.roomForRevise.sending := rfl
      rw [LaneUnit.unsent, LaneUnit.unsent, own, sending]
      split
      · rw [List.drop_append]
        exact (List.drop_sublist _ _).append_left _
      · exact .refl _
    rw [LaneUnit.roomForRevise_unsent] at joined
    have mapped := joined.filterMap Message.revision
    rwa [List.filterMap_append] at mapped
  have new : n ∉ u.unsentRevisions.map Prod.fst := by
    rintro mem
    obtain ⟨q, hq, rfl⟩ := List.mem_map.mp mem
    exact fresh _ (stand q hq) rfl rfl
  refine ⟨List.Nodup.sublist (sub.map _) ?_, fun q hq => ?_, ?_, ?_⟩
  · rw [List.map_append]
    exact List.nodup_append.mpr ⟨once, by simp, fun a ha b hb e => new (by simp_all)⟩
  · rcases List.mem_append.mp (sub.mem hq) with old | own
    · exact List.mem_cons_of_mem _ (stand q old)
    · obtain rfl := List.mem_singleton.mp own
      exact List.mem_cons_self
  · simp only [LaneUnit.queuedRevisions, LaneUnit.issueRevise, List.filterMap_append, List.length_append] at room ⊢
    exact Nat.succ_le_of_lt room
  · rcases u.roomForRevise_spec with h | ⟨m, ms, -, -, -, -, h⟩
    · simpa [LaneUnit.issueRevise, h] using finishing
    · simp [LaneUnit.issueRevise, h]

end

section
variable {s t : State}

/-- R61, R88: a record without a pending revision is the only one of its induction ordinal on the lane. -/
theorem State.pendingRevision_fresh (records : s.recordsLaw) {l : Lane} (order : s.ordinalsLaw l) {r : ItemRecord}
    (mem : r ∈ s.store.records) (lane : r.lane = some l) {p : Place} {n : Word32} (state : r.state = .routed p n none) :
    ∀ q ∈ pendingRevisions s.store.records, q.lane = l → q.ordinal ≠ n := by
  rintro q hq rfl rfl
  obtain ⟨r', mem', is⟩ := List.mem_filterMap.mp hq
  obtain ⟨lane', p', state'⟩ := pendingRevision_eq_some_iff.mp is
  have same : r'.ref = r.ref := ((order.2 r mem p _ none state lane).2) r' mem' p' _ state' lane'
  have one : r' = r := by
    have found := s.record?_of_mem records mem
    rw [← same, s.record?_of_mem records mem'] at found
    exact Option.some.inj found
  rw [one, state] at state'
  cases state'

theorem RevisionMove.revisesStand (move : RevisionMove s t) (records : s.recordsLaw) (order : ∀ l, s.ordinalsLaw l)
    (counted : s.revisionsCounted) (law : ∀ l, (s.lane l).revisesStand l (pendingRevisions s.store.records)) (j : Lane) :
    (t.lane j).revisesStand j (pendingRevisions t.store.records) := by
  have own := law j
  cases move with
  | kept same lanes => exact (lanes j).revisesStand ((LaneUnit.revisesStand_congr same).mpr own)
  | cleared r mem same lanes =>
    exact (lanes j).revisesStand (LaneUnit.without_revisesStand ((LaneUnit.revisesStand_congr same).mpr own))
  | issued l r p n target expiry mem lane state room same lanes =>
    refine (lanes j).revisesStand ((LaneUnit.revisesStand_congr same).mpr ?_)
    split
    next is =>
      subst is
      have few : (s.lane j).pendingCount < 8 := by
        simp only [LaneUnit.mayRevise, Bool.and_eq_true, decide_eq_true_eq] at room
        exact room.1
      rw [(counted j).1] at few
      exact LaneUnit.issueRevise_revisesStand own (State.pendingRevision_fresh records (order j) mem lane state) few
        r.ref expiry
    next other =>
      obtain ⟨once, stand, few, finishing⟩ := own
      exact ⟨once, fun q hq => List.mem_cons_of_mem _ (stand q hq), few, finishing⟩
  | abandoned l same lanes =>
    refine (lanes j).revisesStand ((LaneUnit.revisesStand_congr same).mpr ?_)
    split
    next is =>
      subst is
      exact LaneUnit.withdraw_revisesStand
        (u := { s.lane j with pendingCount := 0, reviseEntries := [] }) own
        fun n target unpicked => by simp [Message.reviseOrdinal] at unpicked
    next other =>
      obtain ⟨once, stand, few, finishing⟩ := own
      exact ⟨once, fun q hq => List.mem_filter.mpr ⟨stand q hq, decide_eq_true other⟩, few, finishing⟩

theorem Effect.revisesStand (effect : Effect s t) (records : s.recordsLaw) (order : ∀ l, s.ordinalsLaw l)
    (counted : s.revisionsCounted) (law : ∀ l, (s.lane l).revisesStand l (pendingRevisions s.store.records)) (l : Lane) :
    (t.lane l).revisesStand l (pendingRevisions t.store.records) := by
  rcases effect.revisions with ⟨asserted, rfl⟩ | ⟨u, work, same, lanes⟩
  · have lane : (s.withPins State.reset asserted).lane l = LaneUnit.reset := State.reset_lane l
    rw [lane]
    simp [LaneUnit.revisesStand, LaneUnit.unsentRevisions, LaneUnit.queuedRevisions, LaneUnit.unsent, LaneUnit.reset]
  · rw [same]
    exact (lanes l).revisesStand ((work.revisionMove records).revisesStand records order counted law l)

end

/-- R101: a lane's outbound queue holds replies and REVISEs. -/
theorem LaneUnit.outbound_length_le {u : LaneUnit} (flow : u.flowLaw)
    (revises : u.outbound.countP (fun m => m.reviseOrdinal.isSome) ≤ 8) : u.outbound.length ≤ 16 := by
  have split := u.outbound.length_eq_countP_add_countP isReply
  have rest : u.outbound.countP (fun m => !isReply m) = u.outbound.countP (fun m => m.reviseOrdinal.isSome) :=
    List.countP_congr fun m _ => by simp [isReply_eq]
  have replies : u.outbound.countP isReply ≤ 8 := by
    have most := (u.flowLaw_iff.mp flow).1
    rw [LaneUnit.outstanding_eq] at most
    omega
  have others : u.outbound.countP (fun m => decide (¬isReply m = true)) = u.outbound.countP (fun m => !isReply m) :=
    List.countP_congr fun m _ => by simp
  omega

/-- Settles O12: the pending revisions of the records are moved with the counts, the entries and the REVISEs of their
lane, and no other event makes a revision. -/
theorem pendingRevisionsNeverExceedEight : Obligations.PendingRevisionsNeverExceedEight := by
  unfold Obligations.PendingRevisionsNeverExceedEight
  intro s t notShort records pending revise next
  obtain ⟨queue, effect⟩ := step_effect notShort next
  have counted : s.revisionsCounted := s.revisionsCounted_iff.mpr ⟨pending, revise⟩
  refine ⟨t.revisionsCounted_iff.mp (effect.revisionsCounted records counted), fun order flow outbound l => ?_⟩
  have stands := effect.revisesStand records order.2.2 counted (fun j => (s.outboundLaw_iff j).mp (outbound j)) l
  have law := (t.outboundLaw_iff l).mpr stands
  obtain ⟨-, -, few, -⟩ := law
  exact ⟨(t.outboundLaw_iff l).mpr stands, few, LaneUnit.outbound_length_le (effect.flowsLaw flow l) few⟩

end Sys2Proof.Machine
end

section
/-!
PROOF. Obligation O7, the lists: each ROUTED record stands in one expected list and each SORTED record in one content
list (R29, R30, R62, R81). The lists are shown to be those of the records of a list of records: a step takes one record
out of it, changes its own lists, and puts the record back in.
-/
namespace Sys2Proof.Machine

/-! ### The lists and the records that stand in them -/

/-- R28: the lists that hold records. -/
inductive ListId where
  | expected (k : OutletId)
  | bin (l : Lane)
  | content (k : OutletId)
deriving DecidableEq

/-- R28: the members of a list. -/
def State.listAt (s : State) : ListId → List Ref
  | .expected k => (s.outlet k).expected
  | .bin l => (s.bin l).expected
  | .content k => (s.outlet k).content

/-- R62: the expected list of a place on a lane. -/
def listOfPlace (l : Lane) : Place → ListId
  | .bin => .bin l
  | .outlet k => .expected k

/-- R62, R81: the list that a record stands in. -/
def home (r : ItemRecord) : Option ListId :=
  match r.state with
  | .routed p _ _ => r.lane.map fun l => listOfPlace l p
  | .sorted k _ _ => some (.content k)
  | .expected | .recirculating | .rejected => none

/-- R62, R81: what a record's place asks of the outlets: a ROUTED record has a lane, and its outlet is defined on it; the
outlet of a SORTED record is defined. -/
def State.located (s : State) (r : ItemRecord) : Prop :=
  match r.state with
  | .routed p _ _ => ∃ l, r.lane = some l ∧ s.targetOnLane l p = true
  | .sorted k _ _ => (s.outlet k).definition.isSome = true
  | .expected | .recirculating | .rejected => True

/-- R62, R81: the records that stand in a list. -/
def refsAt (rs : List ItemRecord) (L : ListId) : List Ref :=
  (rs.filter fun r => decide (home r = some L)).map (·.ref)

/-- R62, R81: the lists hold the records of `rs`, each in its own. -/
structure State.filesRecords (s : State) (rs : List ItemRecord) : Prop where
  lists : ∀ L, (s.listAt L).Perm (refsAt rs L)
  located : ∀ r ∈ rs, s.located r

section
variable {rs qs : List ItemRecord} {r : ItemRecord} {L : ListId} {ref : Ref}

theorem mem_refsAt : ref ∈ refsAt rs L ↔ ∃ r ∈ rs, r.ref = ref ∧ home r = some L := by
  simp only [refsAt, List.mem_map, List.mem_filter, decide_eq_true_eq]
  exact ⟨fun ⟨r, ⟨mem, is⟩, same⟩ => ⟨r, mem, same, is⟩, fun ⟨r, mem, same, is⟩ => ⟨r, ⟨mem, is⟩, same⟩⟩

theorem refsAt_perm (h : rs.Perm qs) (L : ListId) : (refsAt rs L).Perm (refsAt qs L) := (h.filter _).map _

theorem refsAt_cons_home (h : home r = some L) (rs : List ItemRecord) : refsAt (r :: rs) L = r.ref :: refsAt rs L := by
  simp [refsAt, h]

theorem refsAt_cons_away (h : home r ≠ some L) (rs : List ItemRecord) : refsAt (r :: rs) L = refsAt rs L := by
  simp [refsAt, h]

theorem refsAt_map {g : ItemRecord → ItemRecord} (ref : ∀ r ∈ rs, (g r).ref = r.ref)
    (same : ∀ r ∈ rs, home (g r) = home r) (L : ListId) : refsAt (rs.map g) L = refsAt rs L := by
  rw [refsAt, List.filter_map, List.map_map]
  have picks : rs.filter ((fun r => decide (home r = some L)) ∘ g) = rs.filter fun r => decide (home r = some L) :=
    List.filter_congr fun r mem => by simp [same r mem]
  rw [picks]
  exact List.map_congr_left fun r mem => ref r (List.mem_filter.mp mem).1

theorem State.filesRecords.perm {s : State} (law : s.filesRecords rs) (h : qs.Perm rs) : s.filesRecords qs :=
  ⟨fun L => (law.lists L).trans (refsAt_perm h.symm L), fun r mem => law.located r (h.mem_iff.mp mem)⟩

end

theorem refs_nodup {rs : List ItemRecord} (order : rs.Pairwise fun a b => a.ref.slot < b.ref.slot) :
    (rs.map (·.ref)).Nodup := by
  refine List.pairwise_map.mpr (order.imp fun lt same => ?_)
  rw [same] at lt
  exact Nat.lt_irrefl _ lt

theorem refsAt_nodup {rs : List ItemRecord} (order : rs.Pairwise fun a b => a.ref.slot < b.ref.slot) (L : ListId) :
    (refsAt rs L).Nodup := (refs_nodup order).sublist (List.filter_sublist.map _)

/-! ### The membership law (R62, R81) -/

section
variable {s : State}

theorem home_eq_expected_iff {r : ItemRecord} {k : OutletId} :
    home r = some (.expected k) ↔ r.lane.isSome = true ∧ ∃ n pending, r.state = .routed (.outlet k) n pending := by
  unfold home
  cases r.state with
  | routed p n pending => cases p <;> cases r.lane <;> simp [listOfPlace]
  | _ => simp

theorem home_eq_bin_iff {r : ItemRecord} {l : Lane} :
    home r = some (.bin l) ↔ r.lane = some l ∧ ∃ n pending, r.state = .routed .bin n pending := by
  unfold home
  cases r.state with
  | routed p n pending => cases p <;> cases r.lane <;> simp [listOfPlace]
  | _ => simp

theorem home_eq_content_iff {r : ItemRecord} {k : OutletId} :
    home r = some (.content k) ↔ ∃ n stray, r.state = .sorted k n stray := by
  unfold home
  cases r.state with
  | routed p n pending => cases p <;> cases r.lane <;> simp [listOfPlace]
  | _ => simp

/-- R62, R81: a record is in its list and its outlet is defined. -/
theorem State.recordPlaced_iff (r : ItemRecord) :
    s.recordPlaced r ↔ s.located r ∧ ∀ L, home r = some L → r.ref ∈ s.listAt L := by
  unfold State.recordPlaced State.located home
  cases r.state with
  | routed p n pending =>
    cases p with
    | bin =>
      constructor
      · rintro ⟨l, lane, mem⟩
        refine ⟨⟨l, lane, rfl⟩, fun L is => ?_⟩
        simp only [lane, Option.map_some, Option.some.injEq] at is
        exact is ▸ mem
      · rintro ⟨⟨l, lane, -⟩, mem⟩
        exact ⟨l, lane, mem (.bin l) (by simp [lane, listOfPlace])⟩
    | outlet k =>
      constructor
      · rintro ⟨l, lane, on, mem⟩
        refine ⟨⟨l, lane, on⟩, fun L is => ?_⟩
        simp only [lane, Option.map_some, Option.some.injEq] at is
        exact is ▸ mem
      · rintro ⟨⟨l, lane, on⟩, mem⟩
        exact ⟨l, lane, on, mem (.expected k) (by simp [lane, listOfPlace])⟩
  | sorted k n stray =>
    constructor
    · rintro ⟨defined, mem⟩
      exact ⟨defined, fun L is => by cases is; exact mem⟩
    · rintro ⟨defined, mem⟩
      exact ⟨defined, mem _ rfl⟩
  | _ => simp

/-- R62, R81: the membership law says that the lists hold the records in use. -/
theorem State.membershipLaw_iff (records : s.recordsLaw) : s.membershipLaw ↔ s.filesRecords s.store.records := by
  have find {ref : Ref} {P : ItemRecord → Prop} :
      (∃ r, s.record? ref = some r ∧ P r) ↔ ∃ r ∈ s.store.records, r.ref = ref ∧ P r := by
    constructor
    · rintro ⟨r, found, is⟩
      obtain ⟨mem, same⟩ := s.record?_some found
      exact ⟨r, mem, same, is⟩
    · rintro ⟨r, mem, rfl, is⟩
      exact ⟨r, s.record?_of_mem records mem, is⟩
  constructor
  · rintro ⟨placed, outlets, bins⟩
    have members : ∀ L ref, ref ∈ s.listAt L → ∃ r ∈ s.store.records, r.ref = ref ∧ home r = some L := by
      intro L ref mem
      have isPlaced {r : ItemRecord} (mem : r ∈ s.store.records) := (s.recordPlaced_iff r).mp (placed r mem)
      cases L with
      | expected k =>
        obtain ⟨r, inUse, same, n, pending, state⟩ := find.mp ((outlets k).1 ref mem)
        obtain ⟨located, -⟩ := isPlaced inUse
        rw [State.located, state] at located
        obtain ⟨l, lane, -⟩ := located
        exact ⟨r, inUse, same, home_eq_expected_iff.mpr ⟨by simp [lane], n, pending, state⟩⟩
      | bin l =>
        obtain ⟨r, inUse, same, lane, state⟩ := find.mp ((bins l).1 ref mem)
        exact ⟨r, inUse, same, home_eq_bin_iff.mpr ⟨lane, state⟩⟩
      | content k =>
        obtain ⟨r, inUse, same, state⟩ := find.mp ((outlets k).2.1 ref mem)
        exact ⟨r, inUse, same, home_eq_content_iff.mpr state⟩
    have nodup : ∀ L, (s.listAt L).Nodup := fun L => by
      cases L with
      | expected k => exact (outlets k).2.2.1
      | bin l => exact (bins l).2
      | content k => exact (outlets k).2.2.2
    refine ⟨fun L => (List.perm_ext_iff_of_nodup (nodup L) (refsAt_nodup records.1 L)).mpr fun ref => ?_, fun r mem =>
      ((s.recordPlaced_iff r).mp (placed r mem)).1⟩
    rw [mem_refsAt]
    constructor
    · exact members L ref
    · rintro ⟨r, mem, rfl, is⟩
      exact ((s.recordPlaced_iff r).mp (placed r mem)).2 L is
  · rintro ⟨lists, located⟩
    have members (L : ListId) (ref : Ref) : ref ∈ s.listAt L ↔ ∃ r, s.record? ref = some r ∧ home r = some L := by
      rw [(lists L).mem_iff, mem_refsAt, find]
    have nodup (L : ListId) : (s.listAt L).Nodup := (lists L).nodup_iff.mpr (refsAt_nodup records.1 L)
    refine ⟨fun r mem => (s.recordPlaced_iff r).mpr ⟨located r mem, fun L is => ?_⟩,
      fun k => ⟨fun ref mem => ?_, fun ref mem => ?_, nodup (.expected k), nodup (.content k)⟩,
      fun l => ⟨fun ref mem => ?_, nodup (.bin l)⟩⟩
    · exact (members L r.ref).mpr ⟨r, s.record?_of_mem records mem, is⟩
    · obtain ⟨r, found, is⟩ := (members (.expected k) ref).mp mem
      exact ⟨r, found, (home_eq_expected_iff.mp is).2⟩
    · obtain ⟨r, found, is⟩ := (members (.content k) ref).mp mem
      exact ⟨r, found, home_eq_content_iff.mp is⟩
    · obtain ⟨r, found, is⟩ := (members (.bin l) ref).mp mem
      exact ⟨r, found, home_eq_bin_iff.mp is⟩

end

/-! ### The counts of the lists (R28) -/

/-- R28, R41: reserved and held are the lengths of the lists of an outlet, and one that is not defined has its reset
entry. -/
def OutletEntry.counted (o : OutletEntry) : Prop :=
  o.reserved = o.expected.length ∧ o.held = o.content.length ∧ (o.definition = none → o = OutletEntry.reset)

/-- R28, R32: reserved is the length of the expected list of a bin. -/
def Bin.counted (b : Bin) : Prop := b.reserved = b.expected.length

theorem State.listsLaw_iff (s : State) :
    s.listsLaw ↔ (∀ k, (s.outlet k).counted) ∧ ∀ l, (s.bin l).counted := .rfl

theorem OutletEntry.counted.defined {o : OutletEntry} (law : o.counted) {ref : Ref}
    (mem : ref ∈ o.expected ∨ ref ∈ o.content) : o.definition ≠ none := by
  intro undefined
  rw [law.2.2 undefined] at mem
  simp [OutletEntry.reset] at mem

/-- R28: new lists of a defined outlet, with their counts. -/
theorem OutletEntry.counted.withLists {o : OutletEntry} (defined : o.definition ≠ none) {expected content : List Ref}
    {reserved held : Nat} (hr : reserved = expected.length) (hh : held = content.length) (counter : Word32) :
    ({ o with reserved := reserved, expected := expected, held := held, content := content,
              arrivalCounter := counter } : OutletEntry).counted :=
  ⟨hr, hh, fun none_ => absurd none_ defined⟩

theorem OutletEntry.without_definition (o : OutletEntry) (k : OutletId) (r : ItemRecord) :
    (o.without k r).definition = o.definition := by
  unfold OutletEntry.without
  split
  · split <;> rfl
  · split <;> rfl
  all_goals rfl

/-! ### A record leaves its list (R20, R72) -/

section
variable {s : State} {r : ItemRecord}

theorem OutletEntry.definedOn_eq (o : OutletEntry) (l : Lane) :
    o.definedOn l = decide (o.definition.map (·.lane) = some l) := by
  unfold OutletEntry.definedOn
  split
  next d defined => simp [defined]
  next none_ => simp [none_]

/-- R62, R81: whether a record's place exists is told by the lanes that the outlets are defined on. -/
theorem State.located_of_lanes {t : State}
    (same : ∀ k, (t.outlet k).definition.map (·.lane) = (s.outlet k).definition.map (·.lane)) (r : ItemRecord) :
    t.located r ↔ s.located r := by
  have on (l : Lane) (p : Place) : t.targetOnLane l p = s.targetOnLane l p := by
    cases p with
    | bin => rfl
    | outlet k => simp only [State.targetOnLane, OutletEntry.definedOn_eq, same]
  have defined (k : OutletId) : (t.outlet k).definition.isSome = (s.outlet k).definition.isSome := by
    rw [← Option.isSome_map (f := (·.lane)), same, Option.isSome_map]
  unfold State.located
  split <;> simp only [on, defined]

theorem State.targetOnLane_congr {t : State} (same : ∀ k, (t.outlet k).definition = (s.outlet k).definition) (l : Lane)
    (p : Place) : t.targetOnLane l p = s.targetOnLane l p := by
  cases p with
  | bin => rfl
  | outlet k => simp only [State.targetOnLane, OutletEntry.definedOn, same]

theorem State.located_congr {t : State} (same : ∀ k, (t.outlet k).definition = (s.outlet k).definition)
    (r : ItemRecord) : t.located r ↔ s.located r := State.located_of_lanes (fun k => by rw [same]) r

/-- R28: of the lists a record's own is the one that it leaves. -/
theorem State.leaveLists_listAt (placed : s.recordPlaced r) (L : ListId) :
    (s.leaveLists r).listAt L = if home r = some L then (s.listAt L).erase r.ref else s.listAt L := by
  obtain ⟨outlets, bins, -, -⟩ := s.leaveLists_spec r placed
  have at_ (L : ListId) : (s.leaveLists r).listAt L =
      match L with
      | .expected k => ((s.outlet k).without k r).expected
      | .bin l => ((s.bin l).without l r).expected
      | .content k => ((s.outlet k).without k r).content := by
    cases L <;> simp only [State.listAt, outlets, bins]
  rw [at_]
  unfold State.recordPlaced at placed
  split at placed
  next j n pending state =>
    obtain ⟨l, lane, -⟩ := placed
    cases L with
    | expected k =>
      by_cases h : j = k <;> simp [home, state, lane, listOfPlace, OutletEntry.without, State.listAt, h]
    | bin j => simp [home, state, lane, listOfPlace, Bin.without, State.listAt]
    | content k =>
      simp only [home, state, lane, listOfPlace, OutletEntry.without, State.listAt]
      split <;> simp
  next n pending state =>
    obtain ⟨j, lane, -⟩ := placed
    cases L with
    | bin l => by_cases h : j = l <;> simp [home, state, lane, listOfPlace, Bin.without, State.listAt, h]
    | _ => simp [home, state, lane, listOfPlace, OutletEntry.without, State.listAt]
  next j n stray state =>
    cases L with
    | content k => by_cases h : j = k <;> simp [home, state, OutletEntry.without, State.listAt, h]
    | bin l => simp [home, state, Bin.without, State.listAt]
    | expected k =>
      simp only [home, state, OutletEntry.without, State.listAt]
      split <;> simp
  all_goals
    next state => cases L <;> simp [home, state, OutletEntry.without, Bin.without, State.listAt]

theorem State.leaveLists_definition (placed : s.recordPlaced r) (k : OutletId) :
    ((s.leaveLists r).outlet k).definition = (s.outlet k).definition := by
  rw [(s.leaveLists_spec r placed).1, OutletEntry.without_definition]

/-- R20, R72: the lists that a record has left are those of the other records. -/
theorem State.leaveLists_filesRecords (records : s.recordsLaw) (law : s.filesRecords s.store.records)
    (mem : r ∈ s.store.records) : (s.leaveLists r).filesRecords (others r.ref s.store.records) := by
  have placed := ((s.membershipLaw_iff records).mpr law).1 r mem
  have all := law.perm (perm_cons_others records.1 mem).symm
  refine ⟨fun L => ?_, fun q hq => ?_⟩
  · rw [State.leaveLists_listAt placed]
    have own := all.lists L
    split
    next is =>
      rw [refsAt_cons_home is] at own
      simpa using own.erase r.ref
    next away => rwa [refsAt_cons_away away] at own
  · exact (State.located_congr (State.leaveLists_definition placed) q).mpr (all.located q (List.mem_cons_of_mem _ hq))

theorem State.leaveLists_listsLaw (law : s.listsLaw) (placed : s.recordPlaced r) : (s.leaveLists r).listsLaw := by
  obtain ⟨outlets, bins⟩ := s.listsLaw_iff.mp law
  obtain ⟨outlet, bin, -, -⟩ := s.leaveLists_spec r placed
  refine (State.listsLaw_iff _).mpr ⟨fun k => ?_, fun l => ?_⟩
  · rw [outlet]
    have own := outlets k
    unfold OutletEntry.without
    split
    next j n pending state =>
      split
      next same =>
        subst same
        rw [State.recordPlaced, state] at placed
        obtain ⟨-, -, -, mem⟩ := placed
        refine OutletEntry.counted.withLists (own.defined (.inl mem)) ?_ own.2.1 _
        rw [List.length_erase_of_mem mem, own.1]
      next => exact own
    next j n stray state =>
      split
      next same =>
        subst same
        rw [State.recordPlaced, state] at placed
        obtain ⟨-, mem⟩ := placed
        refine OutletEntry.counted.withLists (own.defined (.inr mem)) own.1 ?_ _
        rw [List.length_erase_of_mem mem, own.2.1]
      next => exact own
    all_goals exact own
  · rw [bin]
    have own := bins l
    unfold Bin.without
    split
    next n pending state =>
      split
      next same =>
        rw [State.recordPlaced, state] at placed
        obtain ⟨l', lane, mem⟩ := placed
        cases same.symm.trans lane
        show _ - 1 = (List.erase _ _).length
        rw [List.length_erase_of_mem mem, own]
      next => exact own
    all_goals exact own

end

/-! ### A record joins a list (R29, R30) -/

section
variable {s : State} {rs : List ItemRecord} {r : ItemRecord}

/-- R62, R81: a record that joins its list, where the other lists stay. -/
theorem State.filesRecords.join {t : State} (law : s.filesRecords rs)
    (own : ∀ L, home r = some L → (t.listAt L).Perm (r.ref :: s.listAt L))
    (away : ∀ L, home r ≠ some L → t.listAt L = s.listAt L)
    (same : ∀ k, (t.outlet k).definition = (s.outlet k).definition) (located : t.located r) :
    t.filesRecords (r :: rs) := by
  refine ⟨fun L => ?_, fun q hq => ?_⟩
  · by_cases is : home r = some L
    · rw [refsAt_cons_home is]
      exact (own L is).trans ((law.lists L).cons r.ref)
    · rw [refsAt_cons_away is, away L is]
      exact law.lists L
  · rcases List.mem_cons.mp hq with rfl | hq
    · exact located
    · exact (State.located_congr same q).mpr (law.located q hq)

/-- R62, R81: the laws of the lists read the outlets and the bins. -/
theorem State.filesRecords_congr {t : State} (outlets : ∀ k, t.outlet k = s.outlet k) (bins : ∀ l, t.bin l = s.bin l)
    (law : s.filesRecords rs) : t.filesRecords rs := by
  refine ⟨fun L => ?_, fun q hq => (State.located_congr (fun k => by rw [outlets]) q).mpr (law.located q hq)⟩
  have same : t.listAt L = s.listAt L := by cases L <;> simp only [State.listAt, outlets, bins]
  rw [same]
  exact law.lists L

theorem State.listsLaw_congr {t : State} (outlets : ∀ k, t.outlet k = s.outlet k) (bins : ∀ l, t.bin l = s.bin l)
    (law : s.listsLaw) : t.listsLaw := by simpa only [State.listsLaw_iff, outlets, bins] using law

theorem State.setExpected_listAt (l : Lane) (p : Place) (refs : List Ref) (n : Nat) (L : ListId) :
    (s.setExpected l p refs n).listAt L = if L = listOfPlace l p then refs else s.listAt L := by
  cases p with
  | bin =>
    cases L with
    | bin j => simp [State.setExpected, State.listAt, listOfPlace, State.bin_setBin]; split <;> rfl
    | _ => simp [State.setExpected, State.listAt, listOfPlace]
  | outlet k =>
    cases L with
    | bin j => simp [State.setExpected, State.listAt, listOfPlace]
    | expected j => simp [State.setExpected, State.listAt, listOfPlace, State.outlet_setOutlet]; split <;> rfl
    | content j =>
      simp only [State.setExpected, State.listAt, listOfPlace, State.outlet_setOutlet]
      split
      next same => simp [same]
      next => simp

theorem State.setExpected_definition (l : Lane) (p : Place) (refs : List Ref) (n : Nat) (k : OutletId) :
    ((s.setExpected l p refs n).outlet k).definition = (s.outlet k).definition := by
  cases p with
  | bin => simp [State.setExpected]
  | outlet j =>
    simp only [State.setExpected, State.outlet_setOutlet]
    split
    next same => simp [same]
    next => rfl

theorem State.expectedList_eq (l : Lane) (p : Place) : s.expectedList l p = s.listAt (listOfPlace l p) := by
  cases p <;> rfl

theorem State.reserved_eq (law : s.listsLaw) (l : Lane) (p : Place) : s.reserved l p = (s.expectedList l p).length := by
  cases p with
  | bin => exact law.2 l
  | outlet k => exact (law.1 k).1

theorem State.setExpected_listsLaw (law : s.listsLaw) {l : Lane} {p : Place} (on : s.targetOnLane l p = true)
    {refs : List Ref} {n : Nat} (count : n = refs.length) : (s.setExpected l p refs n).listsLaw := by
  obtain ⟨outlets, bins⟩ := s.listsLaw_iff.mp law
  cases p with
  | bin =>
    refine ⟨outlets, fun j => ?_⟩
    rw [State.setExpected, State.bin_setBin]
    split
    · exact count
    · exact bins j
  | outlet k =>
    refine ⟨fun j => ?_, bins⟩
    rw [State.setExpected, State.outlet_setOutlet]
    split
    · have defined : (s.outlet k).definition ≠ none := fun none_ => by
        simp [State.targetOnLane, OutletEntry.definedOn, none_] at on
      exact OutletEntry.counted.withLists defined count (outlets k).2.1 _
    · exact outlets j

/-- R60: a record that is routed joins the expected list of its place. -/
theorem State.route_listAt (l : Lane) (ref : Ref) (p : Place) (L : ListId) :
    (s.route l ref p).listAt L = if L = listOfPlace l p then s.listAt L ++ [ref] else s.listAt L := by
  have outlets : (s.route l ref p).store.outlets = (s.appendExpected l p ref).store.outlets := by simp [State.route]
  have bins : (s.route l ref p).store.bins = (s.appendExpected l p ref).store.bins := by simp [State.route]
  have same : (s.route l ref p).listAt L = (s.appendExpected l p ref).listAt L := by
    cases L <;> simp only [State.listAt, State.outlet, State.bin, outlets, bins]
  rw [same, State.appendExpected, State.setExpected_listAt]
  split
  next is => rw [is, State.expectedList_eq]
  next => rfl

theorem State.route_definition (l : Lane) (ref : Ref) (p : Place) (k : OutletId) :
    ((s.route l ref p).outlet k).definition = (s.outlet k).definition := by
  have outlets : (s.route l ref p).store.outlets = (s.appendExpected l p ref).store.outlets := by simp [State.route]
  rw [State.outlet, outlets, ← State.outlet, State.appendExpected, State.setExpected_definition]

theorem State.route_listsLaw (law : s.listsLaw) {l : Lane} {p : Place} (on : s.targetOnLane l p = true) (ref : Ref) :
    (s.route l ref p).listsLaw := by
  have outlets : (s.route l ref p).store.outlets = (s.appendExpected l p ref).store.outlets := by simp [State.route]
  have bins : (s.route l ref p).store.bins = (s.appendExpected l p ref).store.bins := by simp [State.route]
  refine State.listsLaw_congr (s := s.appendExpected l p ref) (fun k => by simp only [State.outlet, outlets])
    (fun j => by simp only [State.bin, bins]) (State.setExpected_listsLaw law on ?_)
  rw [State.reserved_eq law, List.length_append, List.length_singleton]

theorem State.route_filesRecords (law : s.filesRecords rs) {l : Lane} {p : Place} (on : s.targetOnLane l p = true)
    (x : ItemRecord) (n : Word32) :
    (s.route l x.ref p).filesRecords ({ x with lane := some l, state := .routed p n none } :: rs) := by
  have place : home { x with lane := some l, state := .routed p n none } = some (listOfPlace l p) := rfl
  refine law.join (fun L is => ?_) (fun L away => ?_) (State.route_definition l x.ref p) ⟨l, rfl, ?_⟩
  · rw [place, Option.some.injEq] at is
    rw [State.route_listAt, if_pos is.symm]
    exact List.perm_append_singleton _ _
  · rw [State.route_listAt, if_neg fun same => away (place.trans (congrArg some same.symm))]
  · rw [State.targetOnLane_congr (State.route_definition l x.ref p)]
    exact on

/-- R60: routing changes the record of the slot and serial alone. -/
theorem State.route_records_perm (records : s.recordsLaw) (mem : r ∈ s.store.records) {t : State}
    (same : t.store.records = s.store.records) (l : Lane) (p : Place) :
    (t.route l r.ref p).store.records.Perm
      ({ r with lane := some l, state := .routed p (t.lane l).ordinalCounter none } :: others r.ref s.store.records) := by
  rw [State.route_records, same]
  exact map_perm_cons_others records.1 mem rfl _

theorem PointersMoved.outlet {t : State} (moved : PointersMoved s t) (k : OutletId) : t.outlet k = s.outlet k := by
  cases moved <;> rfl

theorem PointersMoved.bin {t : State} (moved : PointersMoved s t) (l : Lane) : t.bin l = s.bin l := by
  cases moved <;> rfl

theorem PointersMoved.targetOnLane {t : State} (moved : PointersMoved s t) (l : Lane) (p : Place) :
    t.targetOnLane l p = s.targetOnLane l p := State.targetOnLane_congr (fun k => by rw [moved.outlet]) l p

/-! ### Arrival (R30, R31, R75) -/

theorem State.renumberIfDue_listAt (k : OutletId) (L : ListId) : (s.renumberIfDue k).listAt L = s.listAt L := by
  unfold State.renumberIfDue
  split
  · cases L with
    | bin l => rfl
    | expected j =>
      simp only [State.renumberContent, State.listAt, State.outlet_setOutlet]
      split
      next same => rw [same]
      next => rfl
    | content j =>
      simp only [State.renumberContent, State.listAt, State.outlet_setOutlet]
      split
      next same => rw [same]
      next => rfl
  · rfl

theorem State.renumberIfDue_definition (k j : OutletId) :
    ((s.renumberIfDue k).outlet j).definition = (s.outlet j).definition := by
  unfold State.renumberIfDue
  split
  · simp only [State.renumberContent, State.outlet_setOutlet]
    split
    next same => rw [same]
    next => rfl
  · rfl

theorem home_renumbered (content : List Ref) (r : ItemRecord) : home (renumbered content r) = home r := by
  unfold renumbered
  split
  next state _ => simp [home, state]
  next => rfl

theorem State.located_renumbered (content : List Ref) (r : ItemRecord) :
    s.located (renumbered content r) ↔ s.located r := by
  unfold renumbered
  split
  next state _ => simp [State.located, state]
  next => rfl

theorem State.arrive_outlet (k j : OutletId) (ref : Ref) (stray : Bool) :
    (s.arrive k ref stray).outlet j =
      if j = k then
        { (s.renumberIfDue k).outlet k with
          content := ((s.renumberIfDue k).outlet k).content ++ [ref]
          held := ((s.renumberIfDue k).outlet k).held + 1
          arrivalCounter := ((s.renumberIfDue k).outlet k).arrivalCounter + 1 }
      else (s.renumberIfDue k).outlet j := by
  have outlets : (s.arrive k ref stray).store.outlets =
      ((s.renumberIfDue k).setOutlet k
        { (s.renumberIfDue k).outlet k with
          content := ((s.renumberIfDue k).outlet k).content ++ [ref]
          held := ((s.renumberIfDue k).outlet k).held + 1
          arrivalCounter := ((s.renumberIfDue k).outlet k).arrivalCounter + 1 }).store.outlets := by simp [State.arrive]
  rw [State.outlet, outlets, ← State.outlet, State.outlet_setOutlet]

theorem State.arrive_bin (k : OutletId) (ref : Ref) (stray : Bool) (l : Lane) :
    (s.arrive k ref stray).bin l = s.bin l := by
  have bins : (s.arrive k ref stray).store.bins = (s.renumberIfDue k).store.bins := by simp [State.arrive]
  rw [State.bin, bins]
  unfold State.renumberIfDue
  split <;> rfl

theorem State.arrive_listAt (k : OutletId) (ref : Ref) (stray : Bool) (L : ListId) :
    (s.arrive k ref stray).listAt L = if L = .content k then s.listAt L ++ [ref] else s.listAt L := by
  rw [← s.renumberIfDue_listAt k L]
  cases L with
  | bin l =>
    rw [s.renumberIfDue_listAt k, if_neg (by simp)]
    exact congrArg Bin.expected (State.arrive_bin k ref stray l)
  | expected j =>
    rw [if_neg (by simp)]
    simp only [State.listAt, State.arrive_outlet]
    split
    next same => rw [same]
    next => rfl
  | content j =>
    simp only [State.listAt, State.arrive_outlet, ListId.content.injEq]
    split
    next same => rw [same]
    next => rfl

theorem State.arrive_definition (k j : OutletId) (ref : Ref) (stray : Bool) :
    ((s.arrive k ref stray).outlet j).definition = (s.outlet j).definition := by
  rw [State.arrive_outlet, ← s.renumberIfDue_definition k j]
  split
  next same => rw [same]
  next => rfl

theorem State.renumberIfDue_listsLaw (law : s.listsLaw) (k : OutletId) : (s.renumberIfDue k).listsLaw := by
  unfold State.renumberIfDue
  split
  next due =>
    refine ⟨fun j => ?_, law.2⟩
    simp only [State.renumberContent, State.outlet_setOutlet]
    split
    · have own : (s.outlet k).counted := law.1 k
      have defined : (s.outlet k).definition ≠ none := fun none_ => by
        rw [own.2.2 none_] at due
        exact absurd due (by decide)
      exact ⟨own.1, own.2.1, fun none_ => absurd none_ defined⟩
    · exact law.1 j
  · exact law

theorem State.arrive_listsLaw (law : s.listsLaw) {k : OutletId} {l : Lane} (on : (s.outlet k).definedOn l = true)
    (ref : Ref) (stray : Bool) : (s.arrive k ref stray).listsLaw := by
  have renumbered := State.renumberIfDue_listsLaw law k
  refine ⟨fun j => ?_, fun j => ?_⟩
  · rw [State.arrive_outlet]
    split
    · have own : ((s.renumberIfDue k).outlet k).counted := renumbered.1 k
      have defined : ((s.renumberIfDue k).outlet k).definition ≠ none := fun none_ => by
        rw [State.renumberIfDue_definition] at none_
        simp [OutletEntry.definedOn, none_] at on
      refine OutletEntry.counted.withLists defined own.1 ?_ _
      rw [own.2.1, List.length_append, List.length_singleton]
    · exact renumbered.1 j
  · rw [State.arrive_bin]
    exact law.2 j

theorem definedOn_isSome {o : OutletEntry} {l : Lane} (on : o.definedOn l = true) : o.definition.isSome = true := by
  unfold OutletEntry.definedOn at on
  split at on
  next d defined => simp [defined]
  next => cases on

/-- R75: a record that arrives joins the content list of its outlet. -/
theorem State.arrive_filesRecords (law : s.filesRecords rs) {k : OutletId} {l : Lane}
    (on : (s.outlet k).definedOn l = true) {x : ItemRecord} {n : Word32} {m : Bool} (sorted : x.state = .sorted k n m)
    (stray : Bool) : (s.arrive k x.ref stray).filesRecords (x :: rs) := by
  have place : home x = some (.content k) := by simp [home, sorted]
  refine law.join (fun L is => ?_) (fun L away => ?_) (fun j => State.arrive_definition k j x.ref stray) ?_
  · rw [place, Option.some.injEq] at is
    rw [State.arrive_listAt, if_pos is.symm]
    exact List.perm_append_singleton _ _
  · rw [State.arrive_listAt, if_neg fun same => away (place.trans (congrArg some same.symm))]
  · rw [State.located, sorted]
    show ((s.arrive k x.ref stray).outlet k).definition.isSome = true
    rw [State.arrive_definition]
    exact definedOn_isSome on

theorem State.filesRecords.renumber (law : s.filesRecords rs) (content : List Ref) :
    s.filesRecords (rs.map (renumbered content)) := by
  refine ⟨fun L => ?_, fun q hq => ?_⟩
  · rw [refsAt_map (fun q _ => (renumbered_keeps content q).1) fun q _ => home_renumbered content q]
    exact law.lists L
  · obtain ⟨q', mem, rfl⟩ := List.mem_map.mp hq
    exact (State.located_renumbered content q').mpr (law.located q' mem)

/-- R31: what the renumbering of an outlet makes of a record, where it is due. -/
def State.renumbering (s : State) (k : OutletId) (r : ItemRecord) : ItemRecord :=
  if (s.outlet k).arrivalCounter = Config.lastOrdinal then renumbered (s.outlet k).content r else r

theorem State.renumberIfDue_records (k : OutletId) :
    (s.renumberIfDue k).store.records = s.store.records.map (s.renumbering k) := by
  unfold State.renumberIfDue State.renumbering
  split
  · rfl
  · exact (List.map_id _).symm

theorem State.renumbering_keeps (k : OutletId) (r : ItemRecord) :
    (s.renumbering k r).ref = r.ref ∧ (s.renumbering k r).lane = r.lane ∧ home (s.renumbering k r) = home r := by
  unfold State.renumbering
  split
  · exact ⟨(renumbered_keeps _ r).1, (renumbered_keeps _ r).2.2.2, home_renumbered _ r⟩
  · exact ⟨rfl, rfl, rfl⟩

theorem State.filesRecords.renumbering (law : s.filesRecords rs) {u : State} (k : OutletId) :
    s.filesRecords (rs.map (u.renumbering k)) := by
  unfold State.renumbering
  split
  · exact law.renumber _
  · rwa [List.map_id']

theorem others_map {g : ItemRecord → ItemRecord} (refs : ∀ q, (g q).ref = q.ref) (ref : Ref) (rs : List ItemRecord) :
    others ref (rs.map g) = (others ref rs).map g := by
  rw [others, List.filter_map]
  have same : (fun q : ItemRecord => decide (q.ref ≠ ref)) ∘ g = fun q => decide (q.ref ≠ ref) :=
    funext fun q => by simp only [Function.comp, refs]
  rw [same]
  rfl

/-- R30, R31: an arrival changes the record of the slot and serial, and where it is due renumbers the others. -/
theorem State.arrive_records_perm (records : s.recordsLaw) (mem : r ∈ s.store.records) {u : State}
    (same : u.store.records = s.store.records) (k : OutletId) (stray : Bool) :
    (u.arrive k r.ref stray).store.records.Perm
      ({ u.renumbering k r with state := .sorted k ((u.renumberIfDue k).outlet k).arrivalCounter stray } ::
        (others r.ref s.store.records).map (u.renumbering k)) := by
  have refs (q : ItemRecord) : (u.renumbering k q).ref = q.ref := (State.renumbering_keeps k q).1
  have order : (s.store.records.map (u.renumbering k)).Pairwise fun a b => a.ref.slot < b.ref.slot := by
    rw [List.pairwise_map]
    simpa only [refs] using records.1
  have changed := map_perm_cons_others order (List.mem_map_of_mem (f := u.renumbering k) mem) (refs r)
    fun q => { q with state := .sorted k ((u.renumberIfDue k).outlet k).arrivalCounter stray }
  rw [others_map refs] at changed
  unfold State.arrive
  rw [State.changeState_records]
  show ((u.renumberIfDue k).store.records.map _).Perm _
  rw [State.renumberIfDue_records, same]
  exact changed

/-! ### A record that stays in its list -/

theorem State.filesRecords.map (law : s.filesRecords rs) {g : ItemRecord → ItemRecord} (ref : ∀ q ∈ rs, (g q).ref = q.ref)
    (same : ∀ q ∈ rs, home (g q) = home q) (located : ∀ q ∈ rs, s.located q → s.located (g q)) :
    s.filesRecords (rs.map g) := by
  refine ⟨fun L => ?_, fun q hq => ?_⟩
  · rw [refsAt_map ref same]
    exact law.lists L
  · obtain ⟨q', mem, rfl⟩ := List.mem_map.mp hq
    exact located q' mem (law.located q' mem)

theorem State.filesRecords.mapOne (records : s.recordsLaw) (law : s.filesRecords s.store.records)
    (mem : r ∈ s.store.records) {f : ItemRecord → ItemRecord} (ref : (f r).ref = r.ref) (same : home (f r) = home r)
    (located : s.located r → s.located (f r)) :
    s.filesRecords (s.store.records.map fun q => if q.ref = r.ref then f q else q) := by
  have one {q : ItemRecord} (hq : q ∈ s.store.records) (is : q.ref = r.ref) : q = r := by
    have found := s.record?_of_mem records mem
    rw [← is, s.record?_of_mem records hq] at found
    exact Option.some.inj found
  refine law.map (fun q hq => ?_) (fun q hq => ?_) fun q hq at_ => ?_
  all_goals split
  · next is => rw [one hq is, ref]
  · rfl
  · next is => rw [one hq is, same]
  · rfl
  · next is => rw [one hq is] at at_ ⊢; exact located at_
  · exact at_

theorem home_congr {r q : ItemRecord} (state : q.state = r.state) (lane : q.lane = r.lane) : home q = home r := by
  rw [home, home, state, lane]

theorem State.located_of_eq {r q : ItemRecord} (state : q.state = r.state) (lane : q.lane = r.lane)
    (located : s.located r) : s.located q := by
  rw [State.located] at located ⊢
  rw [state, lane]
  exact located

/-! ### An outlet's entry is set (R40 to R44) -/

theorem State.setOutlet_filesRecords (law : s.filesRecords s.store.records) {k : OutletId} {o : OutletEntry}
    (expected : o.expected = (s.outlet k).expected) (content : o.content = (s.outlet k).content)
    (stays : o.definition.map (·.lane) = (s.outlet k).definition.map (·.lane) ∨
      ((s.outlet k).expected = [] ∧ (s.outlet k).content = [])) :
    (s.setOutlet k o).filesRecords s.store.records := by
  have lists (L : ListId) : (s.setOutlet k o).listAt L = s.listAt L := by
    cases L with
    | bin l => rfl
    | _ =>
      simp only [State.listAt, State.outlet_setOutlet]
      split
      next same => simp only [same, expected, content]
      next => rfl
  refine ⟨fun L => by rw [lists]; exact law.lists L, fun q hq => ?_⟩
  have own := law.located q hq
  rcases stays with lane | ⟨noExpected, noContent⟩
  · refine (State.located_of_lanes (fun j => ?_) q).mpr own
    rw [State.outlet_setOutlet]
    split
    next same => rw [lane, same]
    next => rfl
  · have away (L : ListId) (empty : s.listAt L = []) : home q ≠ some L := fun is => by
      have mem : q.ref ∈ s.listAt L := (law.lists L).mem_iff.mpr (mem_refsAt.mpr ⟨q, hq, rfl, is⟩)
      rw [empty] at mem
      cases mem
    have notExpected := away (.expected k) noExpected
    have notContent := away (.content k) noContent
    unfold State.located at own ⊢
    split at own
    next p n pending state =>
      obtain ⟨l, lane, on⟩ := own
      refine ⟨l, lane, ?_⟩
      cases p with
      | bin => rfl
      | outlet j =>
        have other : j ≠ k := fun same => notExpected (by simp [home, state, lane, listOfPlace, same])
        simpa only [State.targetOnLane, State.outlet_setOutlet_ne s o other] using on
    next j n stray state =>
      have other : j ≠ k := fun same => notContent (by simp [home, state, same])
      rwa [State.outlet_setOutlet_ne s o other]
    all_goals trivial

theorem OutletChange.counted {o o' : OutletEntry} (change : OutletChange o o') (law : o.counted) :
    o'.counted ∧ o'.expected = o.expected ∧ o'.content = o.content ∧
      (o'.definition.map (·.lane) = o.definition.map (·.lane) ∨ (o.expected = [] ∧ o.content = [])) := by
  have lists (empty : o.isEmpty = true) : o.expected = [] ∧ o.content = [] := by
    simp only [OutletEntry.isEmpty, Bool.and_eq_true, List.isEmpty_iff] at empty
    exact empty.1
  obtain ⟨reserved, held, undefined⟩ := law
  cases change with
  | defined l capacity empty =>
    have none_ : o.expected = [] ∧ o.content = [] := by
      rcases empty with absent | empty
      · rw [undefined absent]
        exact ⟨rfl, rfl⟩
      · exact lists empty
    exact ⟨⟨rfl, rfl, fun h => by cases h⟩, none_.1.symm, none_.2.symm, .inr none_⟩
  | undefined empty =>
    have none_ := lists empty
    exact ⟨⟨rfl, rfl, fun _ => rfl⟩, none_.1.symm, none_.2.symm, .inr none_⟩
  | altered lane capacity capacity' foreign closed clearing was =>
    exact ⟨⟨reserved, held, fun h => by cases h⟩, rfl, rfl, .inl (by simp [was])⟩
  | cleared =>
    refine ⟨⟨reserved, held, fun h => ?_⟩, rfl, rfl, .inl rfl⟩
    rw [undefined h]
    rfl

end

/-! ### A revision moves a record (R90) -/

theorem insertByOrdinal_perm (number : Ref → Word32) (ref : Ref) (n : Word32) (refs : List Ref) :
    (insertByOrdinal number ref n refs).Perm (ref :: refs) := by
  induction refs with
  | nil => exact .refl _
  | cons q qs ih =>
    unfold insertByOrdinal
    split
    · exact .refl _
    · exact (ih.cons q).trans (.swap ref q qs)

section
variable {s : State} {rs : List ItemRecord}

/-- R72: of the lists, what leaving does for a ROUTED record is done by its expected list. -/
theorem State.leaveLists_routed (s : State) {r : ItemRecord} {p : Place} {n : Word32} {pending : Option Place} {l : Lane}
    (state : r.state = .routed p n pending) (lane : r.lane = some l) :
    (∀ k, (s.removeExpected l p r.ref).outlet k = (s.leaveLists r).outlet k) ∧
      ∀ j, (s.removeExpected l p r.ref).bin j = (s.leaveLists r).bin j := by
  unfold State.leaveLists
  rw [state, lane]
  cases pending <;> exact ⟨fun _ => rfl, fun _ => rfl⟩

theorem State.insertExpected_listsLaw (law : s.listsLaw) {l : Lane} {p : Place} (on : s.targetOnLane l p = true)
    (ref : Ref) (n : Word32) : (s.insertExpected l p ref n).listsLaw := by
  refine State.setExpected_listsLaw law on ?_
  rw [(insertByOrdinal_perm _ _ _ _).length_eq, List.length_cons, State.reserved_eq law]

theorem State.insertExpected_filesRecords (law : s.filesRecords rs) {l : Lane} {p : Place}
    (on : s.targetOnLane l p = true) {x : ItemRecord} {m : Word32} {pending : Option Place} (lane : x.lane = some l)
    (state : x.state = .routed p m pending) (n : Word32) : (s.insertExpected l p x.ref n).filesRecords (x :: rs) := by
  have place : home x = some (listOfPlace l p) := by simp [home, state, lane]
  have definition (k : OutletId) : ((s.insertExpected l p x.ref n).outlet k).definition = (s.outlet k).definition :=
    State.setExpected_definition l p _ _ k
  refine law.join (fun L is => ?_) (fun L away => ?_) definition ?_
  · rw [place, Option.some.injEq] at is
    rw [State.insertExpected, State.setExpected_listAt, if_pos is.symm, ← is, ← State.expectedList_eq]
    exact insertByOrdinal_perm _ _ _ _
  · rw [State.insertExpected, State.setExpected_listAt, if_neg fun same => away (place.trans (congrArg some same.symm))]
  · rw [State.located, state]
    exact ⟨l, lane, by rwa [State.targetOnLane_congr definition]⟩

/-! ### A RESTART recirculates the records of a lane (R112) -/

theorem State.abandonLane_outlet (l : Lane) (k : OutletId) : (s.abandonLane l).outlet k = (s.outlet k).abandon l := by
  simp [State.abandonLane, State.outlet]

theorem State.abandonLane_bin (l j : Lane) :
    (s.abandonLane l).bin j = if j = l then { reserved := 0, expected := [] } else s.bin j := by
  simp only [State.abandonLane, State.setLane_bin, State.bin_setBin]
  split <;> rfl

theorem OutletEntry.abandon_keeps (o : OutletEntry) (l : Lane) :
    (o.abandon l).definition = o.definition ∧ (o.abandon l).content = o.content ∧
      (o.abandon l).expected = if o.definedOn l then [] else o.expected := by
  unfold OutletEntry.abandon
  split <;> simp

theorem State.abandonLane_listsLaw (law : s.listsLaw) (l : Lane) : (s.abandonLane l).listsLaw := by
  refine ⟨fun k => ?_, fun j => ?_⟩
  · rw [State.abandonLane_outlet]
    have own : (s.outlet k).counted := law.1 k
    unfold OutletEntry.abandon
    split
    next on => exact ⟨rfl, own.2.1, fun none_ => absurd (definedOn_isSome on)
      (by simp [show (s.outlet k).definition = none from none_])⟩
    next => exact own
  · rw [State.abandonLane_bin]
    split
    · rfl
    · exact law.2 j

theorem refsAt_map_of_iff {g : ItemRecord → ItemRecord} {L : ListId} (ref : ∀ r ∈ rs, (g r).ref = r.ref)
    (same : ∀ r ∈ rs, home (g r) = some L ↔ home r = some L) : refsAt (rs.map g) L = refsAt rs L := by
  rw [refsAt, List.filter_map, List.map_map]
  have picks : rs.filter ((fun r => decide (home r = some L)) ∘ g) = rs.filter fun r => decide (home r = some L) :=
    List.filter_congr fun r mem => decide_eq_decide.mpr (same r mem)
  rw [picks]
  exact List.map_congr_left fun r mem => ref r (List.mem_filter.mp mem).1

theorem refsAt_eq_nil {L : ListId} (away : ∀ r ∈ rs, home r ≠ some L) : refsAt rs L = [] := by
  rw [refsAt, List.filter_eq_nil_iff.mpr fun r mem => by simpa using away r mem, List.map_nil]

/-- R108, R112: a record is ROUTED on a lane exactly when its list is the bin's or that of an outlet of the lane. -/
theorem State.routedOn_iff_of_located {r : ItemRecord} (located : s.located r) (l : Lane) :
    (∀ k, home r = some (.expected k) → (routedOn l r = true ↔ (s.outlet k).definedOn l = true)) ∧
      (∀ j, home r = some (.bin j) → (routedOn l r = true ↔ j = l)) ∧
      ∀ k, home r = some (.content k) → routedOn l r = false := by
  refine ⟨fun k is => ?_, fun j is => ?_, fun k is => ?_⟩
  · obtain ⟨-, n, pending, state⟩ := home_eq_expected_iff.mp is
    rw [State.located, state] at located
    obtain ⟨j, lane, on⟩ := located
    rw [State.targetOnLane, OutletEntry.definedOn_eq, decide_eq_true_eq] at on
    rw [OutletEntry.definedOn_eq, on]
    simp [routedOn, state, lane, stateKind]
  · obtain ⟨lane, n, pending, state⟩ := home_eq_bin_iff.mp is
    simp [routedOn, state, lane, stateKind]
  · obtain ⟨n, stray, state⟩ := home_eq_content_iff.mp is
    simp [routedOn, state, stateKind]

theorem State.abandonLane_filesRecords (law : s.filesRecords s.store.records) (l : Lane) :
    (s.abandonLane l).filesRecords (s.abandonLane l).store.records := by
  show (s.abandonLane l).filesRecords (s.store.records.map (recirculated l))
  have ref : ∀ r ∈ s.store.records, (recirculated l r).ref = r.ref := fun r _ => (recirculated_keeps l r).1
  have on {r : ItemRecord} (h : routedOn l r = true) : home (recirculated l r) = none := by simp [recirculated, h, home]
  have off {r : ItemRecord} (h : routedOn l r = false) : recirculated l r = r := by simp [recirculated, h]
  have stays {L : ListId} (all : ∀ r ∈ s.store.records, home r = some L → routedOn l r = false) :
      refsAt (s.store.records.map (recirculated l)) L = refsAt s.store.records L := by
    refine refsAt_map_of_iff ref fun r mem => ?_
    cases h : routedOn l r with
    | true => simpa [on h] using fun is => absurd (all r mem is) (by simp [h])
    | false => rw [off h]
  have goes {L : ListId} (all : ∀ r ∈ s.store.records, home r = some L → routedOn l r = true) :
      refsAt (s.store.records.map (recirculated l)) L = [] := by
    refine refsAt_eq_nil fun q hq is => ?_
    obtain ⟨r, mem, rfl⟩ := List.mem_map.mp hq
    cases h : routedOn l r with
    | true => simp [on h] at is
    | false =>
      rw [off h] at is
      exact absurd (all r mem is) (by simp [h])
  refine ⟨fun L => ?_, fun q hq => ?_⟩
  · cases L with
    | expected k =>
      show ((s.abandonLane l).outlet k).expected.Perm _
      rw [State.abandonLane_outlet, ((s.outlet k).abandon_keeps l).2.2]
      have told {r : ItemRecord} (mem : r ∈ s.store.records) := (State.routedOn_iff_of_located (law.located r mem) l).1 k
      split
      next defined => rw [goes fun r mem is => (told mem is).mpr defined]
      next notDefined =>
        rw [stays fun r mem is => Bool.eq_false_iff.mpr fun h => notDefined ((told mem is).mp h)]
        exact law.lists (.expected k)
    | bin j =>
      show ((s.abandonLane l).bin j).expected.Perm _
      rw [State.abandonLane_bin]
      have told {r : ItemRecord} (mem : r ∈ s.store.records) :=
        (State.routedOn_iff_of_located (law.located r mem) l).2.1 j
      split
      next same => rw [goes fun r mem is => (told mem is).mpr same]
      next other =>
        rw [stays fun r mem is => Bool.eq_false_iff.mpr fun h => other ((told mem is).mp h)]
        exact law.lists (.bin j)
    | content k =>
      show ((s.abandonLane l).outlet k).content.Perm _
      rw [State.abandonLane_outlet, ((s.outlet k).abandon_keeps l).2.1,
        stays fun r mem is => (State.routedOn_iff_of_located (law.located r mem) l).2.2 k is]
      exact law.lists (.content k)
  · obtain ⟨r, mem, rfl⟩ := List.mem_map.mp hq
    refine (State.located_congr (s := s) (fun k => ?_) _).mpr ?_
    · rw [State.abandonLane_outlet, ((s.outlet k).abandon_keeps l).1]
    · unfold recirculated
      split
      · trivial
      · exact law.located r mem

end

/-! ### Every change of a step keeps the lists -/

section
variable {s a : State} {xs : List (Subject × Reason)}

/-- R28, R62, R81: the lists hold the records in use, with their counts. -/
def State.listsHold (s : State) : Prop := s.listsLaw ∧ s.filesRecords s.store.records

/-- R13: the records once one has been created in a free slot and changed. -/
theorem State.created_records_perm (records : s.recordsLaw) {slot : Nat} (free : s.lowestFreeSlot = some slot) (o : Origin)
    (d : ItemDefinition) (f : ItemRecord → ItemRecord) :
    ∃ x : ItemRecord, x.ref = { slot := slot, serial := s.store.serialCounter } ∧ x.state = .expected ∧
      ((s.createRecord slot o d).store.records.Perm (x :: s.store.records)) ∧
      ((s.createRecord slot o d).store.records.map fun q => if q.ref = x.ref then f q else q).Perm
        (f x :: s.store.records) := by
  obtain ⟨small, unused, -⟩ := s.lowestFreeSlot_some slot free
  let x : ItemRecord :=
    { ref := { slot := slot, serial := s.store.serialCounter }, key := d.key, origin := o, state := .expected,
      destination := d.destination, hold := d.hold, hostTag := d.hostTag, laps := 0, lane := none, revision := 0 }
  have all : (s.createRecord slot o d).store.records.Perm (x :: s.store.records) := insertRecord_perm x _
  have order : (s.createRecord slot o d).store.records.Pairwise fun a b => a.ref.slot < b.ref.slot :=
    insertRecord_pairwise (r := x) records.1 unused
  have mem : x ∈ (s.createRecord slot o d).store.records := all.mem_iff.mpr List.mem_cons_self
  have rest : (others x.ref (s.createRecord slot o d).store.records).Perm s.store.records :=
    ((perm_cons_others order mem).symm.trans all).cons_inv
  exact ⟨x, rfl, rfl, all, (map_perm_cons_others order mem rfl f).trans (rest.cons _)⟩

theorem StoreChange.listsHold (change : StoreChange s a xs) (records : s.recordsLaw) (law : s.listsHold) :
    a.listsHold := by
  obtain ⟨counts, files⟩ := law
  have found_mem {r : ItemRecord} (found : s.record? r.ref = some r) : r ∈ s.store.records := (s.record?_some found).1
  have placed {r : ItemRecord} (mem : r ∈ s.store.records) : s.recordPlaced r :=
    ((s.membershipLaw_iff records).mpr files).1 r mem
  have sameLists {a : State} (outlets : ∀ k, a.outlet k = s.outlet k) (bins : ∀ l, a.bin l = s.bin l)
      (held : s.filesRecords a.store.records) : a.listsHold :=
    ⟨State.listsLaw_congr outlets bins counts, State.filesRecords_congr outlets bins held⟩
  have leaves {r : ItemRecord} (mem : r ∈ s.store.records) :
      (s.leaveLists r).listsLaw ∧ (s.leaveLists r).filesRecords (others r.ref s.store.records) :=
    ⟨State.leaveLists_listsLaw counts (placed mem), State.leaveLists_filesRecords records files mem⟩
  have left {r : ItemRecord} (mem : r ∈ s.store.records) {f : ItemRecord → ItemRecord} (none_ : home (f r) = none)
      (located : (s.leaveLists r).located (f r)) {a : State} (outlets : ∀ k, a.outlet k = (s.leaveLists r).outlet k)
      (bins : ∀ l, a.bin l = (s.leaveLists r).bin l)
      (changed : a.store.records = s.store.records.map fun q => if q.ref = r.ref then f q else q) : a.listsHold := by
    obtain ⟨lists, away⟩ := leaves mem
    refine ⟨State.listsLaw_congr outlets bins lists, State.filesRecords_congr outlets bins ?_⟩
    rw [changed]
    refine State.filesRecords.perm ?_ (map_perm_cons_others records.1 mem rfl f)
    exact away.join (fun L is => absurd (none_.symm.trans is) (by simp)) (fun _ _ => rfl) (fun _ => rfl) located
  cases change with
  | created slot o d newKey free =>
    obtain ⟨x, -, state, all, -⟩ := s.created_records_perm records free o d id
    refine sameLists (fun _ => rfl) (fun _ => rfl) (State.filesRecords.perm ?_ all)
    have none_ : home x = none := by simp [home, state]
    exact files.join (fun L is => absurd (none_.symm.trans is) (by simp)) (fun _ _ => rfl) (fun _ => rfl)
      (by rw [State.located, state]; trivial)
  | createdAndRouted slot o d l p t newKey free running open_ selected place =>
    obtain ⟨x, ref, -, -, changed⟩ := s.created_records_perm records free o d
      fun q => { q with lane := some l, state := .routed p (t.lane l).ordinalCounter none }
    have outlets (k : OutletId) : t.outlet k = s.outlet k := selected.outlet k
    have bins (j : Lane) : t.bin j = s.bin j := selected.bin j
    have lists : t.listsLaw := State.listsLaw_congr outlets bins counts
    have away : t.filesRecords s.store.records := State.filesRecords_congr outlets bins files
    rw [← selected.targetOnLane] at place
    rw [← ref]
    refine ⟨State.route_listsLaw lists place _, (State.route_filesRecords away place x (t.lane l).ordinalCounter).perm ?_⟩
    rw [State.route_records, selected.records]
    exact changed
  | routed r l p t xs found running open_ elsewhere selected place =>
    obtain ⟨lists, away⟩ := leaves (found_mem found)
    have lists' : t.listsLaw := State.listsLaw_congr selected.outlet selected.bin lists
    have away' : t.filesRecords _ := State.filesRecords_congr selected.outlet selected.bin away
    rw [← selected.targetOnLane] at place
    refine ⟨State.route_listsLaw lists' place _, ?_⟩
    refine (State.route_filesRecords away' place r (t.lane l).ordinalCounter).perm ?_
    exact State.route_records_perm records (found_mem found) (by rw [selected.records, State.leaveLists_records]) l p
  | amended r cs t found selected =>
    refine sameLists selected.outlet selected.bin ?_
    rw [selected.records, State.updateRecord_records]
    obtain ⟨ref, -, state, lane⟩ := applyChanges_keeps cs r
    exact State.filesRecords.mapOne records files (found_mem found) ref (home_congr state lane)
      (State.located_of_eq state lane)
  | revisionIssued r cs t l assigned n target found lane state selected room =>
    refine sameLists selected.outlet selected.bin ?_
    rw [State.issueRevision_records selected]
    obtain ⟨ref, -, -, lane'⟩ := applyChanges_keeps cs r
    refine State.filesRecords.mapOne records files (found_mem found)
      (f := fun q => { applyChanges cs q with state := .routed assigned n (some target) }) ref ?_ fun located => ?_
    · simp [home, state, lane']
    · simpa only [State.located, state, lane'] using located
  | restored r found state =>
    refine sameLists (fun k => by simp [State.outlet, State.restore]) (fun l => by simp [State.bin, State.restore]) ?_
    rw [State.restore_records]
    refine State.filesRecords.mapOne records files (found_mem found)
      (f := fun q => { q with laps := 0, lane := none, state := .expected }) rfl ?_ fun _ => trivial
    rcases state with is | is <;> simp [home, is]
  | retired r found =>
    obtain ⟨lists, away⟩ := leaves (found_mem found)
    refine ⟨State.listsLaw_congr (s := s.leaveLists r) (fun _ => rfl) (fun _ => rfl) lists,
      State.filesRecords_congr (s := s.leaveLists r) (fun _ => rfl) (fun _ => rfl) ?_⟩
    have rest : (s.retireRecord r).store.records = others r.ref s.store.records := by
      simp [State.retireRecord, others]
    rw [rest]
    exact away
  | outletSet k o xs change =>
    obtain ⟨counted, expected, content, stays⟩ := change.counted (counts.1 k)
    refine ⟨⟨fun j => ?_, counts.2⟩, State.setOutlet_filesRecords files expected content stays⟩
    rw [State.outlet_setOutlet]
    split
    · exact counted
    · exact counts.1 j
  | filed r l k stray xs found place elsewhere =>
    obtain ⟨lists, away⟩ := leaves (found_mem found)
    have on : ((s.leaveLists r).outlet k).definedOn l = true := by
      simpa only [OutletEntry.definedOn, State.leaveLists_definition (placed (found_mem found))] using place
    refine ⟨State.arrive_listsLaw lists on _ _, ?_⟩
    have perm := State.arrive_records_perm records (found_mem found) (State.leaveLists_records s r) k stray
    have ref := (State.renumbering_keeps (s := s.leaveLists r) k r).1
    have filed := State.arrive_filesRecords (away.renumbering (u := s.leaveLists r) k) on
      (x := { (s.leaveLists r).renumbering k r with
        state := .sorted k (((s.leaveLists r).renumberIfDue k).outlet k).arrivalCounter stray }) rfl stray
    change ((s.leaveLists r).arrive k ((s.leaveLists r).renumbering k r).ref stray).filesRecords _ at filed
    rw [ref] at filed
    exact filed.perm perm
  | rejected r xs found =>
    exact left (found_mem found) (f := fun q => { q with state := .rejected }) rfl trivial
      (fun k => by simp [State.outlet]) (fun l => by simp [State.bin]) (by simp)
  | recirculated r xs found =>
    refine left (found_mem found) (f := fun q => { q with laps := nextLaps q.laps, state := .recirculating }) rfl trivial
      (fun k => by simp [State.outlet]) (fun l => by simp [State.bin]) ?_
    rw [State.recirculate_records, State.leaveLists_records]
  | laneAbandoned l => exact ⟨State.abandonLane_listsLaw counts l, State.abandonLane_filesRecords files l⟩
  | revisionDropped l e assigned reason still =>
    obtain ⟨r, target, found, state, lane⟩ := State.stillPending_inv still
    obtain ⟨mem, ref⟩ := s.record?_some found
    refine sameLists (fun _ => rfl) (fun _ => rfl) ?_
    show s.filesRecords (s.store.records.map _)
    rw [← ref]
    refine State.filesRecords.mapOne records files mem (f := fun q => { q with state := .routed assigned e.ordinal none })
      rfl ?_ fun located => ?_
    · simp [home, state]
    · simpa only [State.located, state] using located
  | revisionTaken l e assigned still place =>
    obtain ⟨r, target, found, state, lane⟩ := State.stillPending_inv still
    obtain ⟨mem, ref⟩ := s.record?_some found
    obtain ⟨lists, away⟩ := leaves mem
    obtain ⟨outlets, bins⟩ := s.leaveLists_routed state lane
    rw [← ref]
    have lists' : (s.removeExpected l assigned r.ref).listsLaw := State.listsLaw_congr outlets bins lists
    have away' := State.filesRecords_congr outlets bins away
    have on : (s.removeExpected l assigned r.ref).targetOnLane l e.target = true := by
      rw [State.targetOnLane_congr (s := s) fun k => by rw [outlets, State.leaveLists_definition (placed mem)]]
      exact place
    refine ⟨State.listsLaw_congr (s := (s.removeExpected l assigned r.ref).insertExpected l e.target r.ref e.ordinal)
      (fun _ => rfl) (fun _ => rfl) (State.insertExpected_listsLaw lists' on r.ref e.ordinal), ?_⟩
    refine State.filesRecords_congr (s := (s.removeExpected l assigned r.ref).insertExpected l e.target r.ref e.ordinal)
      (fun _ => rfl) (fun _ => rfl) ?_
    refine (State.insertExpected_filesRecords away' on (x := { r with state := .routed e.target e.ordinal none }) lane
      rfl e.ordinal).perm ?_
    show (List.map _ ((s.removeExpected l assigned r.ref).insertExpected l e.target r.ref e.ordinal).store.records).Perm _
    have same : ((s.removeExpected l assigned r.ref).insertExpected l e.target r.ref e.ordinal).store.records =
        s.store.records := by simp [State.insertExpected]
    rw [same]
    have changed := map_perm_cons_others records.1 mem rfl fun q => { q with state := .routed e.target e.ordinal none }
    rw [ref] at changed ⊢
    exact changed

theorem commit_listsHold (b : State) (law : a.listsHold) : (commit b a xs).listsHold := by
  obtain ⟨counts, files⟩ := law
  refine ⟨State.listsLaw_congr (s := a) (by simp) (by simp) counts, State.filesRecords_congr (s := a) (by simp) (by simp) ?_⟩
  have keeps := revised_keeps b
  rw [commit_records]
  exact files.map (fun r _ => (keeps r).1) (fun r _ => home_congr (keeps r).2.2.1 (keeps r).2.2.2) fun r _ located =>
    State.located_of_eq (keeps r).2.2.1 (keeps r).2.2.2 located

theorem State.finishReset_outlet (s : State) (k : OutletId) : s.finishReset.outlet k = (s.outlet k).finishReset := by
  simp [State.finishReset, State.outlet]

theorem OutletEntry.finishReset_counted {o : OutletEntry} (law : o.counted) : o.finishReset.counted := by
  unfold OutletEntry.finishReset
  split
  next defined => exact ⟨law.1, rfl, fun none_ => absurd (show o.definition = none from none_)
      (Option.isSome_iff_ne_none.mp defined)⟩
  next => exact law

theorem StoreWork.listsHold {t : State} (work : StoreWork s t) (records : s.recordsLaw) (law : s.listsHold) :
    t.listsHold := by
  have same {t : State} (outlets : ∀ k, t.outlet k = s.outlet k) (bins : ∀ l, t.bin l = s.bin l)
      (held : t.store.records = s.store.records) : t.listsHold := by
    refine ⟨State.listsLaw_congr outlets bins law.1, State.filesRecords_congr outlets bins ?_⟩
    rw [held]
    exact law.2
  cases work with
  | changed change => exact commit_listsHold s (change.listsHold records law)
  | directoryReset empty =>
    obtain ⟨counts, files⟩ := law
    have none_ (L : ListId) : s.listAt L = [] := by
      have held := files.lists L
      rw [empty] at held
      exact held.eq_nil
    refine ⟨⟨fun k => ?_, counts.2⟩, ⟨fun L => ?_, fun r mem => ?_⟩⟩
    · rw [State.finishReset_outlet]
      exact OutletEntry.finishReset_counted (counts.1 k)
    · have gone : s.finishReset.listAt L = [] := by
        cases L with
        | bin l => exact none_ (.bin l)
        | expected k =>
          rw [State.listAt, State.finishReset_outlet, OutletEntry.finishReset]
          split <;> exact none_ (.expected k)
        | content k =>
          rw [State.listAt, State.finishReset_outlet, OutletEntry.finishReset]
          split
          · rfl
          · exact none_ (.content k)
      rw [gone]
      show ([] : List Ref).Perm (refsAt s.store.records L)
      rw [empty]
      exact .refl _
    · have none' : r ∈ s.store.records := mem
      rw [empty] at none'
      cases none'
  | _ => exact same (fun _ => rfl) (fun _ => rfl) rfl

end

end Sys2Proof.Machine
end

section
/-!
PROOF. Obligation O7, the order: every expected list stands in ascending induction ordinal and every content list in
ascending arrival ordinal, and the ordinals on a lane are distinct and issued by its counter (R29, R30, R31, R61). As for
the lists, the law is stated of a list of records, and a step takes one record out and puts it back.
-/
namespace Sys2Proof.Machine

/-! ### The order of the records (R29, R30, R61) -/

/-- R29, R30: the number by which a record stands in its list. -/
def number (r : ItemRecord) : Word32 :=
  match r.state with
  | .routed _ n _ => n
  | .sorted _ n _ => n
  | .expected | .recirculating | .rejected => 0

/-- R61: a record is ROUTED on a lane with this induction ordinal. -/
def routedAs (l : Lane) (n : Word32) (r : ItemRecord) : Prop :=
  r.lane = some l ∧ ∃ p pending, r.state = .routed p n pending

/-- R30: a record is SORTED at an outlet with this arrival ordinal. -/
def sortedAs (k : OutletId) (n : Word32) (r : ItemRecord) : Prop := ∃ stray, r.state = .sorted k n stray

/-- R29, R30: of two records that stand in the list `L` of `rs`, the one at `a` has the lower number than that at `b`. -/
def precedes (rs : List ItemRecord) (L : ListId) (a b : Ref) : Prop :=
  ∀ ra ∈ rs, ∀ rb ∈ rs, home ra = some L → home rb = some L → ra.ref = a → rb.ref = b →
    (number ra).toNat < (number rb).toNat

/-- R61, R108: the ordinals of the records ROUTED on a lane, against its unit. -/
structure LaneUnit.ordersRecords (u : LaneUnit) (l : Lane) (rs : List ItemRecord) : Prop where
  issued : u.exhausted = false → ∀ r ∈ rs, ∀ n, routedAs l n r → n.toNat < u.ordinalCounter.toNat
  distinct : ∀ r ∈ rs, ∀ q ∈ rs, ∀ n, routedAs l n r → routedAs l n q → q.ref = r.ref
  stopped : u.state = .stopped → ∀ r ∈ rs, routedOn l r = false

/-- R29, R30, R31, R61: the lists and the lanes stand in the order of the records of `rs`. -/
structure State.ordersRecords (s : State) (rs : List ItemRecord) : Prop where
  rises : ∀ L, (s.listAt L).Pairwise (precedes rs L)
  below : ∀ r ∈ rs, ∀ k n, sortedAs k n r → n.toNat < (s.outlet k).arrivalCounter.toNat
  lanes : ∀ l, (s.lane l).ordersRecords l rs

section
variable {s : State} {rs qs : List ItemRecord}

theorem precedes.mono {L : ListId} {a b : Ref} (h : precedes rs L a b) (sub : qs ⊆ rs) : precedes qs L a b :=
  fun ra ma rb mb => h ra (sub ma) rb (sub mb)

theorem routedOn_iff {l : Lane} {r : ItemRecord} : routedOn l r = true ↔ ∃ n, routedAs l n r := by
  simp only [routedOn, decide_eq_true_eq, routedAs]
  constructor
  · rintro ⟨kind, lane⟩
    cases state : r.state with
    | routed p n pending => exact ⟨n, lane, p, pending, rfl⟩
    | _ =>
      rw [state] at kind
      cases kind
  · rintro ⟨n, lane, p, pending, state⟩
    exact ⟨by rw [state]; rfl, lane⟩

/-- R61, R108: the law of a lane's ordinals speaks of slots, serials and ordinals alone. -/
theorem LaneUnit.ordersRecords.embed {u : LaneUnit} {l : Lane} (law : u.ordersRecords l rs)
    (into : ∀ q ∈ qs, ∃ r ∈ rs, q.ref = r.ref ∧ ∀ n, routedAs l n q → routedAs l n r) : u.ordersRecords l qs := by
  refine ⟨fun open_ q hq n at_ => ?_, fun q hq p hp n at_ at_' => ?_, fun stopped q hq => ?_⟩
  · obtain ⟨r, mem, -, keeps⟩ := into q hq
    exact law.issued open_ r mem n (keeps n at_)
  · obtain ⟨r, mem, ref, keeps⟩ := into q hq
    obtain ⟨r', mem', ref', keeps'⟩ := into p hp
    rw [ref, ref']
    exact law.distinct r mem r' mem' n (keeps n at_) (keeps' n at_')
  · obtain ⟨r, mem, -, keeps⟩ := into q hq
    refine Bool.eq_false_iff.mpr fun on => ?_
    obtain ⟨n, at_⟩ := routedOn_iff.mp on
    exact absurd (routedOn_iff.mpr ⟨n, keeps n at_⟩) (by simp [law.stopped stopped r mem])

theorem LaneUnit.ordersRecords.mono {u : LaneUnit} {l : Lane} (law : u.ordersRecords l rs) (sub : qs ⊆ rs) :
    u.ordersRecords l qs := law.embed fun q hq => ⟨q, sub hq, rfl, fun _ h => h⟩

theorem State.ordersRecords.mono (law : s.ordersRecords rs) (sub : qs ⊆ rs) : s.ordersRecords qs :=
  ⟨fun L => (law.rises L).imp fun h => h.mono sub, fun r mem => law.below r (sub mem), fun l => (law.lanes l).mono sub⟩

theorem State.ordersRecords.perm (law : s.ordersRecords rs) (same : qs.Perm rs) : s.ordersRecords qs :=
  law.mono same.subset

theorem others_subset (ref : Ref) (rs : List ItemRecord) : others ref rs ⊆ rs := List.filter_sublist.subset

/-- R61: lane units that agree in their registers keep the order. -/
theorem LaneUnit.sameRegister.ordersRecords {u v : LaneUnit} (h : u.sameRegister v) {l : Lane}
    (law : u.ordersRecords l rs) : v.ordersRecords l rs := by
  obtain ⟨state, counter, exhausted⟩ := h
  refine ⟨fun open_ => ?_, law.distinct, fun stopped => ?_⟩
  · rw [counter]
    exact law.issued (exhausted ▸ open_)
  · exact law.stopped (state ▸ stopped)

/-- The lists may lose members, and the counters and registers stay. -/
theorem State.ordersRecords.congr {t : State} (law : s.ordersRecords rs) (lists : ∀ L, (t.listAt L).Sublist (s.listAt L))
    (counters : ∀ k, (t.outlet k).arrivalCounter = (s.outlet k).arrivalCounter)
    (lanes : ∀ l, (s.lane l).sameRegister (t.lane l)) : t.ordersRecords rs :=
  ⟨fun L => (law.rises L).sublist (lists L), fun r mem k n at_ => by rw [counters]; exact law.below r mem k n at_,
    fun l => (lanes l).ordersRecords (law.lanes l)⟩

/-- Of a record that is changed, the order sees its list, its number and its lane; it may leave its list. -/
structure keepsOrder (r q : ItemRecord) : Prop where
  ref : q.ref = r.ref
  home : ∀ L, home q = some L → home r = some L ∧ number q = number r
  routed : ∀ l n, routedAs l n q → routedAs l n r
  sorted : ∀ k n, sortedAs k n q → sortedAs k n r

theorem State.ordersRecords.map (law : s.ordersRecords rs) {g : ItemRecord → ItemRecord}
    (keeps : ∀ r ∈ rs, keepsOrder r (g r)) : s.ordersRecords (rs.map g) := by
  refine ⟨fun L => (law.rises L).imp fun h => ?_, fun q hq k n at_ => ?_, fun l => (law.lanes l).embed fun q hq => ?_⟩
  · intro qa ha qb hb homeA homeB refA refB
    obtain ⟨ra, ma, rfl⟩ := List.mem_map.mp ha
    obtain ⟨rb, mb, rfl⟩ := List.mem_map.mp hb
    obtain ⟨homeA', numberA⟩ := (keeps ra ma).home L homeA
    obtain ⟨homeB', numberB⟩ := (keeps rb mb).home L homeB
    rw [numberA, numberB]
    exact h ra ma rb mb homeA' homeB' ((keeps ra ma).ref.symm.trans refA) ((keeps rb mb).ref.symm.trans refB)
  · obtain ⟨r, mem, rfl⟩ := List.mem_map.mp hq
    exact law.below r mem k n ((keeps r mem).sorted k n at_)
  · obtain ⟨r, mem, rfl⟩ := List.mem_map.mp hq
    exact ⟨r, mem, (keeps r mem).ref, (keeps r mem).routed l⟩

theorem keepsOrder_refl (r : ItemRecord) : keepsOrder r r := ⟨rfl, fun _ h => ⟨h, rfl⟩, fun _ _ h => h, fun _ _ h => h⟩

theorem keepsOrder_of_eq {r q : ItemRecord} (ref : q.ref = r.ref) (state : q.state = r.state) (lane : q.lane = r.lane) :
    keepsOrder r q := by
  refine ⟨ref, fun L h => ⟨?_, ?_⟩, fun l n h => ?_, fun k n h => ?_⟩
  · rwa [← home_congr state lane]
  · rw [number, number, state]
  · simpa only [routedAs, state, lane] using h
  · simpa only [sortedAs, state] using h

/-- A record in none of the ROUTED and SORTED states has no place in the order. -/
theorem keepsOrder_of_away {r q : ItemRecord} (ref : q.ref = r.ref)
    (away : q.state = .expected ∨ q.state = .recirculating ∨ q.state = .rejected) : keepsOrder r q := by
  refine ⟨ref, fun L h => ?_, fun l n ⟨_, p, pending, h⟩ => ?_, fun k n ⟨stray, h⟩ => ?_⟩
  all_goals rcases away with is | is | is
  all_goals simp [Machine.home, is] at h

/-- R88: a ROUTED record keeps its number while its pending revision changes. -/
theorem keepsOrder_of_pending {r q : ItemRecord} {p : Place} {n : Word32} {pending pending' : Option Place}
    (ref : q.ref = r.ref) (lane : q.lane = r.lane) (before : r.state = .routed p n pending)
    (after : q.state = .routed p n pending') : keepsOrder r q := by
  refine ⟨ref, fun L h => ⟨?_, ?_⟩, fun l m ⟨own, p', x, h⟩ => ?_, fun k m ⟨stray, h⟩ => ?_⟩
  · simpa only [Machine.home, before, after, lane] using h
  · rw [number, number, before, after]
  · rw [after] at h
    cases h
    exact ⟨lane ▸ own, p, pending, before⟩
  · rw [after] at h
    cases h

/-! ### A record joins the order -/

/-- A record joins its list, and the other lists stay. -/
theorem State.ordersRecords.join {t : State} (law : s.ordersRecords rs) {x : ItemRecord}
    (own : ∀ L, home x = some L → (t.listAt L).Pairwise (precedes (x :: rs) L))
    (away : ∀ L, home x ≠ some L → t.listAt L = s.listAt L)
    (below : ∀ r ∈ x :: rs, ∀ k n, sortedAs k n r → n.toNat < (t.outlet k).arrivalCounter.toNat)
    (lanes : ∀ l, (t.lane l).ordersRecords l (x :: rs)) : t.ordersRecords (x :: rs) := by
  refine ⟨fun L => ?_, below, lanes⟩
  by_cases is : home x = some L
  · exact own L is
  · rw [away L is]
    refine (law.rises L).imp fun h ra ma rb mb homeA homeB => ?_
    rcases List.mem_cons.mp ma with rfl | ma
    · exact absurd homeA is
    rcases List.mem_cons.mp mb with rfl | mb
    · exact absurd homeB is
    exact h ra ma rb mb homeA homeB

/-- R61: a record that is not ROUTED on the lane. -/
theorem LaneUnit.ordersRecords.cons_unrouted {u : LaneUnit} {l : Lane} (law : u.ordersRecords l rs) {x : ItemRecord}
    (off : ∀ n, ¬routedAs l n x) : u.ordersRecords l (x :: rs) := by
  refine ⟨fun open_ r mem n at_ => ?_, fun r mr q mq n at_ at_' => ?_, fun stopped r mem => ?_⟩
  · rcases List.mem_cons.mp mem with rfl | mem
    · exact absurd at_ (off n)
    · exact law.issued open_ r mem n at_
  · rcases List.mem_cons.mp mr with rfl | mr
    · exact absurd at_ (off n)
    rcases List.mem_cons.mp mq with rfl | mq
    · exact absurd at_' (off n)
    exact law.distinct r mr q mq n at_ at_'
  · rcases List.mem_cons.mp mem with rfl | mem
    · refine Bool.eq_false_iff.mpr fun on => ?_
      obtain ⟨n, at_⟩ := routedOn_iff.mp on
      exact off n at_
    · exact law.stopped stopped r mem

theorem sortedAs_cons_away {x : ItemRecord} {P : OutletId → Word32 → Prop} (away : ∀ k n, ¬sortedAs k n x)
    (law : ∀ r ∈ rs, ∀ k n, sortedAs k n r → P k n) : ∀ r ∈ x :: rs, ∀ k n, sortedAs k n r → P k n := by
  intro r mem k n at_
  rcases List.mem_cons.mp mem with rfl | mem
  · exact absurd at_ (away k n)
  · exact law r mem k n at_

/-- A record that is in no list. -/
theorem State.ordersRecords.cons_away (law : s.ordersRecords rs) {x : ItemRecord}
    (away : x.state = .expected ∨ x.state = .recirculating ∨ x.state = .rejected) : s.ordersRecords (x :: rs) := by
  refine law.join (fun L h => ?_) (fun _ _ => rfl) (sortedAs_cons_away (fun k n ⟨stray, h⟩ => ?_) law.below)
    fun l => (law.lanes l).cons_unrouted fun n ⟨_, p, pending, h⟩ => ?_
  all_goals rcases away with is | is | is
  all_goals simp [home, is] at h

/-- R29, R30: a record of a new slot and serial is in no list, so it takes no part in the order of those that stand. -/
theorem rises_cons {refs : List Ref} {L : ListId} (rises : refs.Pairwise (precedes rs L)) {x : ItemRecord}
    (new : x.ref ∉ refs) : refs.Pairwise (precedes (x :: rs) L) := by
  refine rises.imp_of_mem fun ha hb h ra ma rb mb homeA homeB refA refB => ?_
  have old {r : ItemRecord} {a : Ref} (mem : r ∈ x :: rs) (is : r.ref = a) (ha : a ∈ refs) : r ∈ rs := by
    rcases List.mem_cons.mp mem with rfl | mem
    · exact absurd (is ▸ ha) new
    · exact mem
  exact h ra (old ma refA ha) rb (old mb refB hb) homeA homeB refA refB

/-- R29, R30: a record joins its list at the tail, with the highest number of it. -/
theorem rises_append {refs : List Ref} {L : ListId} (rises : refs.Pairwise (precedes rs L)) {x : ItemRecord}
    (new : x.ref ∉ refs) (fresh : ∀ r ∈ rs, r.ref ≠ x.ref)
    (last : ∀ r ∈ rs, home r = some L → (number r).toNat < (number x).toNat) :
    (refs ++ [x.ref]).Pairwise (precedes (x :: rs) L) := by
  refine List.pairwise_append.mpr ⟨rises_cons rises new, List.pairwise_singleton _ _, ?_⟩
  intro a ha b hb ra ma rb mb homeA homeB refA refB
  obtain rfl := List.mem_singleton.mp hb
  have isX : rb = x := by
    rcases List.mem_cons.mp mb with is | mem
    · exact is
    · exact absurd refB (fresh rb mem)
  rcases List.mem_cons.mp ma with rfl | ma
  · exact absurd (refA ▸ ha) new
  · exact isX ▸ last ra ma homeA

/-- R61: the ordinal that a routing step issues is above those that stand, and the counter passes it. -/
theorem LaneUnit.issueOrdinal_ordersRecords {u : LaneUnit} {l : Lane} (law : u.ordersRecords l rs)
    (running : u.state = .running) (open_ : u.exhausted = false) {x : ItemRecord}
    (own : ∀ n, routedAs l n x → n = u.ordinalCounter) : u.issueOrdinal.ordersRecords l (x :: rs) := by
  have before := law.issued open_
  refine ⟨fun still r mem n at_ => ?_, fun r mr q mq n at_ at_' => ?_, fun stopped => ?_⟩
  · have notLast : u.ordinalCounter ≠ Config.lastOrdinal := fun last => by
      simp [LaneUnit.issueOrdinal, last] at still
    have next : u.issueOrdinal.ordinalCounter.toNat = u.ordinalCounter.toNat + 1 := by
      simp only [LaneUnit.issueOrdinal, if_neg notLast]
      simp only [Config.lastOrdinal] at notLast
      bv_omega
    rw [next]
    rcases List.mem_cons.mp mem with rfl | mem
    · rw [own n at_]
      exact Nat.lt_succ_self _
    · exact Nat.lt_succ_of_lt (before r mem n at_)
  · rcases List.mem_cons.mp mr with isR | mr <;> rcases List.mem_cons.mp mq with isQ | mq
    · rw [isR, isQ]
    · have below := before q mq n at_'
      rw [own n (isR ▸ at_)] at below
      exact absurd below (Nat.lt_irrefl _)
    · have below := before r mr n at_
      rw [own n (isQ ▸ at_')] at below
      exact absurd below (Nat.lt_irrefl _)
    · exact law.distinct r mr q mq n at_ at_'
  · exact absurd stopped (LaneUnit.issueOrdinal_ne_stopped running)

/-- R29, R90: a record joins an expected list at its place, told by the numbers of those that stand there. -/
theorem insertByOrdinal_pairwise {f : Ref → Word32} {ref : Ref} {n : Word32} {refs : List Ref} {R : Ref → Ref → Prop}
    (rises : refs.Pairwise fun a b => (f a).toNat < (f b).toNat) (pairs : refs.Pairwise R)
    (before : ∀ q ∈ refs, n.toNat < (f q).toNat → R ref q)
    (after : ∀ q ∈ refs, (f q).toNat ≤ n.toNat → R q ref) : (insertByOrdinal f ref n refs).Pairwise R := by
  induction refs with
  | nil => exact List.pairwise_singleton _ _
  | cons q qs ih =>
    obtain ⟨lower, rises⟩ := List.pairwise_cons.mp rises
    obtain ⟨first, rest⟩ := List.pairwise_cons.mp pairs
    unfold insertByOrdinal
    split
    next lt =>
      refine List.pairwise_cons.mpr ⟨fun p hp => ?_, pairs⟩
      rcases List.mem_cons.mp hp with rfl | mem
      · exact before _ List.mem_cons_self lt
      · exact before p hp (lt.trans (lower p mem))
    next notLt =>
      refine List.pairwise_cons.mpr ⟨fun p hp => ?_, ih rises rest (fun p hp => before p (List.mem_cons_of_mem _ hp))
        fun p hp => after p (List.mem_cons_of_mem _ hp)⟩
      rcases List.mem_cons.mp ((insertByOrdinal_perm f ref n qs).mem_iff.mp hp) with rfl | mem
      · exact after q List.mem_cons_self (Nat.le_of_not_lt notLt)
      · exact first p mem

end

/-! ### The order law (R29, R30, R31, R61) -/

/-- R29, R30: the number by which the order law tells a member of a list. -/
def State.numberAt (s : State) : ListId → Ref → Word32
  | .content _, ref => s.arrivalOf ref
  | .expected _, ref | .bin _, ref => s.ordinalOf ref

section
variable {s : State}

theorem State.numberAt_of_home (records : s.recordsLaw) {r : ItemRecord} (mem : r ∈ s.store.records) {L : ListId}
    (is : home r = some L) : s.numberAt L r.ref = number r := by
  have found := s.record?_of_mem records mem
  cases L with
  | expected k =>
    obtain ⟨-, n, pending, state⟩ := home_eq_expected_iff.mp is
    simp [State.numberAt, State.ordinalOf, found, number, state]
  | bin l =>
    obtain ⟨-, n, pending, state⟩ := home_eq_bin_iff.mp is
    simp [State.numberAt, State.ordinalOf, found, number, state]
  | content k =>
    obtain ⟨n, stray, state⟩ := home_eq_content_iff.mp is
    simp [State.numberAt, State.arrivalOf, found, number, state]

/-- R29, R30: a member of a list is a record that stands there. -/
theorem State.filesRecords.member {rs : List ItemRecord} (files : s.filesRecords rs) {L : ListId} {ref : Ref}
    (mem : ref ∈ s.listAt L) : ∃ r ∈ rs, r.ref = ref ∧ home r = some L := mem_refsAt.mp ((files.lists L).mem_iff.mp mem)

theorem State.rises_iff (records : s.recordsLaw) (files : s.filesRecords s.store.records) (L : ListId) :
    (s.listAt L).Pairwise (precedes s.store.records L) ↔ risesBy (s.numberAt L) (s.listAt L) := by
  constructor
  · intro rises
    refine rises.imp_of_mem fun ha hb h => ?_
    obtain ⟨ra, ma, rfl, homeA⟩ := files.member ha
    obtain ⟨rb, mb, rfl, homeB⟩ := files.member hb
    rw [State.numberAt_of_home records ma homeA, State.numberAt_of_home records mb homeB]
    exact h ra ma rb mb homeA homeB rfl rfl
  · intro rises
    refine rises.imp fun h => ?_
    rintro ra ma rb mb homeA homeB rfl rfl
    rwa [State.numberAt_of_home records ma homeA, State.numberAt_of_home records mb homeB] at h

/-- R33: a lane's routed count is 0 exactly when no record is ROUTED on it. -/
theorem State.routedCount_eq_zero_iff (law : s.listsHold) (l : Lane) :
    s.routedCount l = 0 ↔ ∀ r ∈ s.store.records, routedOn l r = false := by
  obtain ⟨counts, files⟩ := law
  have zero : s.routedCount l = 0 ↔
      (∀ k, (s.outlet k).definedOn l = true → (s.outlet k).expected = []) ∧ (s.bin l).expected = [] := by
    have reserved (k : OutletId) : (s.outlet k).reserved = (s.outlet k).expected.length := (counts.1 k).1
    rw [State.routedCount, Nat.add_eq_zero_iff, List.sum_eq_zero_iff, counts.2 l, List.length_eq_zero_iff]
    refine and_congr_left fun _ => ?_
    constructor
    · intro all k on
      have mem : s.outlet k ∈ s.store.outlets.toList := by simp [State.outlet]
      have none_ := all _ (List.mem_map_of_mem (f := fun o => if o.definedOn l then o.reserved else 0) mem)
      rwa [if_pos on, reserved, List.length_eq_zero_iff] at none_
    · intro all n mem
      obtain ⟨o, stands, rfl⟩ := List.mem_map.mp mem
      obtain ⟨i, hi, rfl⟩ := List.getElem_of_mem stands
      have hi' : i < 48 := by simpa using hi
      have is : s.store.outlets.toList[i] = s.outlet ⟨i, hi'⟩ := by simp [State.outlet]
      rw [is]
      split
      next on => rw [reserved, all _ on, List.length_nil]
      next => rfl
  rw [zero]
  constructor
  · rintro ⟨outlets, bin⟩ r mem
    refine Bool.eq_false_iff.mpr fun on => ?_
    obtain ⟨n, lane, p, pending, state⟩ := routedOn_iff.mp on
    have located := files.located r mem
    rw [State.located, state] at located
    obtain ⟨j, lane', place⟩ := located
    cases lane.symm.trans lane'
    have stands : r.ref ∈ s.listAt (listOfPlace l p) :=
      (files.lists _).mem_iff.mpr (mem_refsAt.mpr ⟨r, mem, rfl, by simp [home, state, lane]⟩)
    cases p with
    | bin =>
      rw [listOfPlace, State.listAt, bin] at stands
      cases stands
    | outlet k =>
      rw [listOfPlace, State.listAt, outlets k place] at stands
      cases stands
  · intro off
    refine ⟨fun k on => List.eq_nil_iff_forall_not_mem.mpr fun ref mem => ?_,
      List.eq_nil_iff_forall_not_mem.mpr fun ref mem => ?_⟩
    · obtain ⟨r, inUse, -, is⟩ := files.member (L := .expected k) mem
      have on' := ((State.routedOn_iff_of_located (files.located r inUse) l).1 k is).mpr on
      rw [off r inUse] at on'
      cases on'
    · obtain ⟨r, inUse, -, is⟩ := files.member (L := .bin l) mem
      have on' := ((State.routedOn_iff_of_located (files.located r inUse) l).2.1 l is).mpr rfl
      rw [off r inUse] at on'
      cases on'

/-- R29, R30, R31, R61: the order law says that the lists and the lanes stand in the order of the records in use. -/
theorem State.orderLaw_iff (records : s.recordsLaw) (law : s.listsHold) :
    s.orderLaw ↔ s.ordersRecords s.store.records := by
  have files := law.2
  have lane (l : Lane) : s.ordinalsLaw l ↔ (s.lane l).ordersRecords l s.store.records := by
    constructor
    · rintro ⟨stopped, ordinals⟩
      refine ⟨fun open_ r mem n ⟨lane, p, pending, state⟩ => (ordinals r mem p n pending state lane).1 open_,
        fun r mr q mq n ⟨lane, p, pending, state⟩ ⟨lane', p', pending', state'⟩ =>
          (ordinals r mr p n pending state lane).2 q mq p' pending' state' lane',
        fun is => (State.routedCount_eq_zero_iff law l).mp (stopped is)⟩
    · rintro ⟨issued, distinct, stopped⟩
      refine ⟨fun is => (State.routedCount_eq_zero_iff law l).mpr (stopped is),
        fun r mem p n pending state lane => ⟨fun open_ => issued open_ r mem n ⟨lane, p, pending, state⟩,
          fun q mq p' pending' state' lane' =>
            distinct r mem q mq n ⟨lane, p, pending, state⟩ ⟨lane', p', pending', state'⟩⟩⟩
  have below : (∀ k, ∀ ref ∈ (s.outlet k).content, (s.arrivalOf ref).toNat < (s.outlet k).arrivalCounter.toNat) ↔
      ∀ r ∈ s.store.records, ∀ k n, sortedAs k n r → n.toNat < (s.outlet k).arrivalCounter.toNat := by
    constructor
    · rintro all r mem k n ⟨stray, state⟩
      have is : home r = some (.content k) := home_eq_content_iff.mpr ⟨n, stray, state⟩
      have stands := (files.lists (.content k)).mem_iff.mpr (mem_refsAt.mpr ⟨r, mem, rfl, is⟩)
      have own := all k r.ref stands
      have num : s.arrivalOf r.ref = number r := State.numberAt_of_home records mem is
      rwa [num, number, state] at own
    · intro all k ref mem
      obtain ⟨r, inUse, rfl, is⟩ := files.member (L := .content k) mem
      obtain ⟨n, stray, state⟩ := home_eq_content_iff.mp is
      have num : s.arrivalOf r.ref = number r := State.numberAt_of_home records inUse is
      rw [num, number, state]
      exact all r inUse k n ⟨stray, state⟩
  constructor
  · rintro ⟨outlets, bins, lanes⟩
    refine ⟨fun L => (State.rises_iff records files L).mpr ?_, below.mp fun k => (outlets k).2.2,
      fun l => (lane l).mp (lanes l)⟩
    cases L with
    | expected k => exact (outlets k).1
    | bin l => exact bins l
    | content k => exact (outlets k).2.1
  · rintro ⟨rises, under, lanes⟩
    have order (L : ListId) := (State.rises_iff records files L).mp (rises L)
    exact ⟨fun k => ⟨order (.expected k), order (.content k), below.mpr under k⟩, fun l => order (.bin l),
      fun l => (lane l).mpr (lanes l)⟩

end

end Sys2Proof.Machine
end

section
/-!
PROOF. Obligation O7, the steps: what routing, arriving, renumbering and redirecting do to the order, and that every
change of a step keeps the lists and their order.
-/
namespace Sys2Proof.Machine

section
variable {s : State} {rs : List ItemRecord}

/-! ### Routing (R60, R61) -/

theorem State.filesRecords.not_mem_of_fresh (files : s.filesRecords rs) {ref : Ref} (fresh : ∀ r ∈ rs, r.ref ≠ ref)
    (L : ListId) : ref ∉ s.listAt L := fun mem => by
  obtain ⟨r, inUse, is, -⟩ := files.member mem
  exact fresh r inUse is

/-- R62: the records of an expected list of a lane are ROUTED on it. -/
theorem State.routedAs_of_home {r : ItemRecord} (located : s.located r) {l : Lane} {p : Place}
    (on : s.targetOnLane l p = true) (is : home r = some (listOfPlace l p)) : routedAs l (number r) r := by
  cases p with
  | bin =>
    obtain ⟨lane, n, pending, state⟩ := home_eq_bin_iff.mp is
    exact ⟨lane, .bin, pending, by rw [number, state]⟩
  | outlet k =>
    obtain ⟨-, n, pending, state⟩ := home_eq_expected_iff.mp is
    have routed := ((State.routedOn_iff_of_located located l).1 k is).mpr on
    obtain ⟨m, lane, -⟩ := routedOn_iff.mp routed
    exact ⟨lane, .outlet k, pending, by rw [number, state]⟩

theorem State.route_arrivalCounter (l : Lane) (ref : Ref) (p : Place) (k : OutletId) :
    ((s.route l ref p).outlet k).arrivalCounter = (s.outlet k).arrivalCounter := by
  have outlets : (s.route l ref p).store.outlets = (s.appendExpected l p ref).store.outlets := by simp [State.route]
  rw [State.outlet, outlets, ← State.outlet, State.appendExpected]
  cases p with
  | bin => simp [State.setExpected]
  | outlet j =>
    simp only [State.setExpected, State.outlet_setOutlet]
    split
    next same => simp [same]
    next => rfl

/-- R60, R61: a record that is routed joins its list behind the others, with the lane's next ordinal. -/
theorem State.route_ordersRecords (files : s.filesRecords rs) (order : s.ordersRecords rs) {l : Lane} {p : Place}
    (on : s.targetOnLane l p = true) (running : (s.lane l).state = .running) (open_ : (s.lane l).exhausted = false)
    {x : ItemRecord} (fresh : ∀ r ∈ rs, r.ref ≠ x.ref) :
    (s.route l x.ref p).ordersRecords
      ({ x with lane := some l, state := .routed p (s.lane l).ordinalCounter none } :: rs) := by
  have place : home { x with lane := some l, state := .routed p (s.lane l).ordinalCounter none } =
      some (listOfPlace l p) := rfl
  refine order.join (fun L is => ?_) (fun L away => ?_) (sortedAs_cons_away (fun k n ⟨stray, h⟩ => by cases h)
    fun r mem k n at_ => ?_) fun j => ?_
  · rw [place, Option.some.injEq] at is
    rw [State.route_listAt, if_pos is.symm]
    refine rises_append (x := { x with lane := some l, state := .routed p (s.lane l).ordinalCounter none })
      (order.rises L) (files.not_mem_of_fresh fresh L) fresh fun r mem at_ => ?_
    rw [← is] at at_
    exact (order.lanes l).issued open_ r mem _ (State.routedAs_of_home (files.located r mem) on at_)
  · rw [State.route_listAt, if_neg fun same => away (place.trans (congrArg some same.symm))]
  · rw [State.route_arrivalCounter]
    exact order.below r mem k n at_
  · rw [State.route_lane]
    split
    next same =>
      subst same
      refine LaneUnit.issueOrdinal_ordersRecords (order.lanes j) running open_ fun n ⟨_, p', pending, state⟩ => ?_
      cases state
      rfl
    next other =>
      refine (order.lanes j).cons_unrouted fun n ⟨lane, _⟩ => ?_
      cases lane
      exact other rfl

/-! ### Renumbering and arriving (R30, R31) -/

theorem renumbered_of_not_mem {content : List Ref} {r : ItemRecord} (out : r.ref ∉ content) :
    renumbered content r = r := by
  have none_ : content.findIdx? (fun q => decide (q = r.ref)) = none :=
    List.findIdx?_eq_none_iff.mpr fun q mem => decide_eq_false fun same => out (same ▸ mem)
  unfold renumbered
  rw [none_]
  split <;> simp_all

/-- R31: a member of the list takes its position in it. -/
theorem renumbered_of_getElem {content : List Ref} (nodup : content.Nodup) {r : ItemRecord} {i : Nat}
    (inside : i < content.length) (at_ : content[i] = r.ref) {k : OutletId} {n : Word32} {stray : Bool}
    (state : r.state = .sorted k n stray) :
    renumbered content r = { r with state := .sorted k (BitVec.ofNat 32 i) stray } := by
  have some_ : content.findIdx? (fun q => decide (q = r.ref)) = some i := by
    refine List.findIdx?_eq_some_iff_getElem.mpr ⟨inside, decide_eq_true at_, fun j before => ?_⟩
    have other : content[j] ≠ content[i] := fun same =>
      absurd ((nodup.getElem_inj_iff).mp same) (Nat.ne_of_lt before)
    simpa [at_] using other
  unfold renumbered
  rw [some_, state]

theorem State.filesRecords.listAt_length_le (files : s.filesRecords rs) (L : ListId) :
    (s.listAt L).length ≤ rs.length := by
  rw [(files.lists L).length_eq, refsAt, List.length_map]
  exact List.length_filter_le _ _

theorem State.filesRecords.listAt_nodup (files : s.filesRecords rs) (distinct : (rs.map (·.ref)).Nodup) (L : ListId) :
    (s.listAt L).Nodup := (files.lists L).nodup_iff.mpr (distinct.sublist (List.filter_sublist.map _))

/-- R31: what renumbering an outlet's content does to each record: a member takes its position, and another stays. -/
theorem State.filesRecords.renumbered_cases (files : s.filesRecords rs) (distinct : (rs.map (·.ref)).Nodup) (k : OutletId)
    {r : ItemRecord} (mem : r ∈ rs) :
    (home r ≠ some (.content k) ∧ renumbered (s.outlet k).content r = r) ∨
      ∃ (i : Nat) (n : Word32) (stray : Bool) (inside : i < (s.outlet k).content.length),
        (s.outlet k).content[i] = r.ref ∧ r.state = .sorted k n stray ∧
          renumbered (s.outlet k).content r = { r with state := .sorted k (BitVec.ofNat 32 i) stray } := by
  by_cases is : home r = some (.content k)
  · obtain ⟨n, stray, state⟩ := home_eq_content_iff.mp is
    have stands : r.ref ∈ (s.outlet k).content :=
      (files.lists (.content k)).mem_iff.mpr (mem_refsAt.mpr ⟨r, mem, rfl, is⟩)
    obtain ⟨i, inside, at_⟩ := List.getElem_of_mem stands
    exact .inr ⟨i, n, stray, inside, at_, state,
      renumbered_of_getElem (files.listAt_nodup distinct (.content k)) inside at_ state⟩
  · refine .inl ⟨is, renumbered_of_not_mem fun stands => is ?_⟩
    obtain ⟨q, mem', same, is'⟩ := files.member (L := .content k) stands
    rwa [List.inj_on_of_nodup_map distinct mem' mem same] at is'

/-- R31: renumbering keeps every order, and the counter follows the members. -/
theorem State.renumberIfDue_ordersRecords (files : s.filesRecords rs) (order : s.ordersRecords rs)
    (distinct : (rs.map (·.ref)).Nodup) (few : rs.length ≤ 8192) (k : OutletId) :
    (s.renumberIfDue k).ordersRecords (rs.map (s.renumbering k)) := by
  by_cases due : (s.outlet k).arrivalCounter = Config.lastOrdinal
  case neg =>
    have stays : s.renumbering k = id := funext fun r => if_neg due
    rw [stays, List.map_id, State.renumberIfDue, if_neg due]
    exact order
  have renumbers : s.renumbering k = renumbered (s.outlet k).content := funext fun r => if_pos due
  have size : (s.outlet k).content.length ≤ 8192 := (files.listAt_length_le (.content k)).trans few
  have told {r : ItemRecord} (mem : r ∈ rs) := files.renumbered_cases distinct k mem
  have position {i : Nat} (h : i ≤ 8192) : (BitVec.ofNat 32 i).toNat = i := by
    rw [BitVec.toNat_ofNat]
    omega
  rw [renumbers]
  refine ⟨fun L => ?_, fun q hq j n at_ => ?_, fun l => ?_⟩
  · rw [State.renumberIfDue_listAt]
    by_cases is : L = .content k
    · subst is
      refine List.pairwise_iff_getElem.mpr fun i j hi hj lt => ?_
      have index {r : ItemRecord} (mem : r ∈ rs) {m : Nat} (hm : m < (s.outlet k).content.length)
          (is : home (renumbered (s.outlet k).content r) = some (.content k))
          (at_ : (renumbered (s.outlet k).content r).ref = (s.outlet k).content[m]) :
          (number (renumbered (s.outlet k).content r)).toNat = m := by
        rcases told mem with ⟨away, same⟩ | ⟨i, n, stray, inside, stands, state, becomes⟩
        · rw [same] at is
          exact absurd is away
        · rw [(renumbered_keeps _ r).1, ← stands] at at_
          have same : i = m := ((files.listAt_nodup distinct (.content k)).getElem_inj_iff).mp at_
          rw [becomes]
          show (BitVec.ofNat 32 i).toNat = m
          rw [position (by omega), same]
      intro qa ha qb hb homeA homeB refA refB
      obtain ⟨ra, ma, rfl⟩ := List.mem_map.mp ha
      obtain ⟨rb, mb, rfl⟩ := List.mem_map.mp hb
      rw [index ma hi homeA refA, index mb hj homeB refB]
      exact lt
    · have same {r : ItemRecord} (mem : r ∈ rs) (at_ : home (renumbered (s.outlet k).content r) = some L) :
          renumbered (s.outlet k).content r = r := by
        rcases told mem with ⟨-, same⟩ | ⟨i, n, stray, -, -, -, becomes⟩
        · exact same
        · rw [becomes] at at_
          exact absurd (Option.some.inj at_).symm is
      refine (order.rises L).imp fun h qa ha qb hb homeA homeB refA refB => ?_
      obtain ⟨ra, ma, rfl⟩ := List.mem_map.mp ha
      obtain ⟨rb, mb, rfl⟩ := List.mem_map.mp hb
      have sameA := same ma homeA
      have sameB := same mb homeB
      rw [sameA] at homeA refA ⊢
      rw [sameB] at homeB refB ⊢
      exact h ra ma rb mb homeA homeB refA refB
  · obtain ⟨r, mem, rfl⟩ := List.mem_map.mp hq
    rcases told mem with ⟨away, same⟩ | ⟨i, m, stray, inside, -, -, becomes⟩
    · rw [same] at at_
      have other : j ≠ k := fun is => by
        obtain ⟨stray, state⟩ := at_
        exact away (home_eq_content_iff.mpr ⟨n, stray, is ▸ state⟩)
      rw [State.renumberIfDue, if_pos due, State.renumberContent, State.outlet_setOutlet_ne _ _ other]
      exact order.below r mem j n at_
    · rw [becomes] at at_
      obtain ⟨stray', state⟩ := at_
      cases state
      rw [State.renumberIfDue, if_pos due, State.renumberContent, State.outlet_setOutlet_self, position (by omega)]
      show i < (BitVec.ofNat 32 (s.outlet k).content.length).toNat
      rwa [position size]
  · have lane : (s.renumberIfDue k).lane l = s.lane l := by simp only [State.lane, State.renumberIfDue_lanes]
    rw [lane]
    refine (order.lanes l).embed fun q hq => ?_
    obtain ⟨r, mem, rfl⟩ := List.mem_map.mp hq
    refine ⟨r, mem, (renumbered_keeps _ r).1, fun n at_ => ?_⟩
    rcases told mem with ⟨-, same⟩ | ⟨i, m, stray, -, -, -, becomes⟩
    · rwa [same] at at_
    · rw [becomes] at at_
      obtain ⟨-, p, pending, state⟩ := at_
      cases state

/-- R31: after a renumbering that was due, the counter has room. -/
theorem State.renumberIfDue_room (files : s.filesRecords rs) (few : rs.length ≤ 8192) (k : OutletId) :
    ((s.renumberIfDue k).outlet k).arrivalCounter ≠ Config.lastOrdinal := by
  by_cases due : (s.outlet k).arrivalCounter = Config.lastOrdinal
  · rw [State.renumberIfDue, if_pos due, State.renumberContent, State.outlet_setOutlet_self]
    have size : (s.outlet k).content.length ≤ 8192 := (files.listAt_length_le (.content k)).trans few
    show BitVec.ofNat 32 (s.outlet k).content.length ≠ Config.lastOrdinal
    intro last
    have value := congrArg BitVec.toNat last
    rw [BitVec.toNat_ofNat, show Config.lastOrdinal.toNat = 4294967295 from rfl] at value
    omega
  · rw [State.renumberIfDue, if_neg due]
    exact due

/-- R30, R75: a record that arrives joins the content list behind the others, with the outlet's next ordinal. -/
theorem State.arrive_ordersRecords (files : s.filesRecords rs) (order : s.ordersRecords rs)
    (distinct : (rs.map (·.ref)).Nodup) (few : rs.length ≤ 8192) {k : OutletId} {x : ItemRecord} {m : Bool}
    (sorted : x.state = .sorted k ((s.renumberIfDue k).outlet k).arrivalCounter m)
    (fresh : ∀ r ∈ rs, r.ref ≠ x.ref) (stray : Bool) :
    (s.arrive k x.ref stray).ordersRecords (x :: rs.map (s.renumbering k)) := by
  have before := State.renumberIfDue_ordersRecords files order distinct few k
  have room := State.renumberIfDue_room files few k
  have place : home x = some (.content k) := by simp [home, sorted]
  have fresh' : ∀ q ∈ rs.map (s.renumbering k), q.ref ≠ x.ref := fun q hq => by
    obtain ⟨r, mem, rfl⟩ := List.mem_map.mp hq
    rw [(State.renumbering_keeps k r).1]
    exact fresh r mem
  have next : (((s.renumberIfDue k).outlet k).arrivalCounter + 1).toNat =
      ((s.renumberIfDue k).outlet k).arrivalCounter.toNat + 1 := by
    simp only [Config.lastOrdinal] at room
    bv_omega
  have counter (j : OutletId) (n : Nat) (h : n < ((s.renumberIfDue k).outlet j).arrivalCounter.toNat) :
      n < ((s.arrive k x.ref stray).outlet j).arrivalCounter.toNat := by
    rw [State.arrive_outlet]
    split
    next same =>
      subst same
      exact (Nat.lt_succ_of_lt h).trans_eq next.symm
    next => exact h
  refine before.join (fun L is => ?_) (fun L away => ?_) (fun r mem j n at_ => ?_) fun l => ?_
  · rw [place, Option.some.injEq] at is
    rw [State.arrive_listAt, if_pos is.symm, ← s.renumberIfDue_listAt k]
    have out : x.ref ∉ (s.renumberIfDue k).listAt L := by
      rw [State.renumberIfDue_listAt]
      exact files.not_mem_of_fresh fresh L
    refine rises_append (before.rises L) out fresh' fun r mem at_ => ?_
    rw [← is] at at_
    obtain ⟨n, stray', state⟩ := home_eq_content_iff.mp at_
    rw [number, number, state, sorted]
    exact before.below r mem k n ⟨stray', state⟩
  · rw [State.arrive_listAt, if_neg fun same => away (place.trans (congrArg some same.symm)),
      State.renumberIfDue_listAt]
  · rcases List.mem_cons.mp mem with rfl | mem
    · obtain ⟨stray', state⟩ := at_
      cases sorted.symm.trans state
      rw [State.arrive_outlet, if_pos rfl]
      exact (Nat.lt_succ_self _).trans_eq next.symm
    · exact counter j _ (before.below r mem j n at_)
  · have lane : (s.arrive k x.ref stray).lane l = (s.renumberIfDue k).lane l := by
      simp only [State.lane, State.arrive_lanes, State.renumberIfDue_lanes]
    rw [lane]
    refine (before.lanes l).cons_unrouted fun n ⟨_, p, pending, state⟩ => ?_
    rw [sorted] at state
    cases state

/-! ### Redirection (R90) -/

/-- R90: a record that moves to the target of its revision takes its place there by its ordinal. -/
theorem State.insertExpected_rises (files : s.filesRecords rs) (order : s.ordersRecords rs) {l : Lane} {p : Place}
    (on : s.targetOnLane l p = true) {x : ItemRecord} {n : Word32} {pending : Option Place}
    (state : x.state = .routed p n pending) (fresh : ∀ r ∈ rs, r.ref ≠ x.ref) (sole : ∀ r ∈ rs, ¬routedAs l n r)
    (numbers : ∀ r ∈ rs, home r = some (listOfPlace l p) → s.ordinalOf r.ref = number r) :
    (insertByOrdinal s.ordinalOf x.ref n (s.listAt (listOfPlace l p))).Pairwise
      (precedes (x :: rs) (listOfPlace l p)) := by
  have out := files.not_mem_of_fresh fresh (listOfPlace l p)
  have isX : number x = n := by rw [number, state]
  have old {r : ItemRecord} (mem : r ∈ x :: rs) (other : r.ref ∈ s.listAt (listOfPlace l p)) : r ∈ rs := by
    rcases List.mem_cons.mp mem with rfl | mem
    · exact absurd other out
    · exact mem
  have new {r : ItemRecord} (mem : r ∈ x :: rs) (is : r.ref = x.ref) : r = x := by
    rcases List.mem_cons.mp mem with own | mem
    · exact own
    · exact absurd is (fresh r mem)
  refine insertByOrdinal_pairwise ((order.rises _).imp_of_mem fun ha hb h => ?_) (rises_cons (order.rises _) out)
    (fun q hq lt => ?_) fun q hq le => ?_
  · obtain ⟨ra, ma, rfl, homeA⟩ := files.member ha
    obtain ⟨rb, mb, rfl, homeB⟩ := files.member hb
    rw [numbers ra ma homeA, numbers rb mb homeB]
    exact h ra ma rb mb homeA homeB rfl rfl
  · rintro ra ma rb mb - homeB refA rfl
    rw [new ma refA, isX]
    rwa [numbers rb (old mb hq) homeB] at lt
  · rintro ra ma rb mb homeA - rfl refB
    have inside := old ma hq
    rw [new mb refB, isX]
    rw [numbers ra inside homeA] at le
    refine lt_of_le_of_ne le fun same => sole ra inside ?_
    rw [← BitVec.eq_of_toNat_eq same]
    exact State.routedAs_of_home (files.located ra inside) on homeA

end

/-! ### Every change of a step keeps the order -/

section
variable {s a : State} {xs : List (Subject × Reason)}

theorem OutletChange.arrivalCounter {o o' : OutletEntry} (change : OutletChange o o') (law : o.counted) :
    o'.arrivalCounter = o.arrivalCounter ∨ o.content = [] := by
  cases change with
  | defined l capacity empty =>
    rcases empty with absent | empty
    · rw [law.2.2 absent]
      exact .inr rfl
    · simp only [OutletEntry.isEmpty, Bool.and_eq_true, List.isEmpty_iff] at empty
      exact .inr empty.1.2
  | undefined empty =>
    simp only [OutletEntry.isEmpty, Bool.and_eq_true, List.isEmpty_iff] at empty
    exact .inr empty.1.2
  | altered => exact .inl rfl
  | cleared => exact .inl rfl

theorem State.setOutlet_ordersRecords {rs : List ItemRecord} (files : s.filesRecords rs) (order : s.ordersRecords rs)
    {k : OutletId} {o : OutletEntry} (expected : o.expected = (s.outlet k).expected)
    (content : o.content = (s.outlet k).content)
    (counter : o.arrivalCounter = (s.outlet k).arrivalCounter ∨ (s.outlet k).content = []) :
    (s.setOutlet k o).ordersRecords rs := by
  refine ⟨fun L => ?_, fun r mem j n at_ => ?_, order.lanes⟩
  · have same : (s.setOutlet k o).listAt L = s.listAt L := by
      cases L with
      | bin l => rfl
      | _ =>
        simp only [State.listAt, State.outlet_setOutlet]
        split
        next same => simp only [same, expected, content]
        next => rfl
    rw [same]
    exact order.rises L
  · rw [State.outlet_setOutlet]
    split
    next same =>
      subst same
      rcases counter with same | empty
      · rw [same]
        exact order.below r mem j n at_
      · obtain ⟨stray, state⟩ := at_
        have stands : r.ref ∈ (s.outlet j).content := (files.lists (.content j)).mem_iff.mpr
          (mem_refsAt.mpr ⟨r, mem, rfl, home_eq_content_iff.mpr ⟨n, stray, state⟩⟩)
        rw [empty] at stands
        cases stands
    next => exact order.below r mem j n at_

theorem others_fresh (ref : Ref) (rs : List ItemRecord) : ∀ r ∈ others ref rs, r.ref ≠ ref := fun _ mem =>
  of_decide_eq_true (List.mem_filter.mp mem).2

/-- R3: no more records are in use than there are slots. -/
theorem records_length_le (records : s.recordsLaw) : s.store.records.length ≤ 8192 := by
  obtain ⟨order, slots, -⟩ := records
  have distinct : (s.store.records.map (·.ref.slot)).Nodup :=
    List.pairwise_map.mpr (order.imp fun lt => Nat.ne_of_lt lt)
  have inside : s.store.records.map (·.ref.slot) ⊆ List.range 8192 := fun n hn => by
    obtain ⟨r, mem, rfl⟩ := List.mem_map.mp hn
    exact List.mem_range.mpr (slots r mem)
  have most := (List.subperm_of_subset distinct inside).length_le
  rwa [List.length_map, List.length_range] at most

theorem State.leaveLists_ordersRecords (order : s.ordersRecords s.store.records) {r : ItemRecord}
    (placed : s.recordPlaced r) : (s.leaveLists r).ordersRecords (others r.ref s.store.records) := by
  refine State.ordersRecords.congr (order.mono (others_subset _ _)) (fun L => ?_) (fun k => ?_)
    (s.leaveLists_sameRegisters r)
  · rw [State.leaveLists_listAt placed]
    split
    · exact List.erase_sublist
    · exact .refl _
  · rw [(s.leaveLists_spec r placed).1]
    unfold OutletEntry.without
    split
    · split <;> rfl
    · split <;> rfl
    all_goals rfl

/-- R5: what changes the record `r` alone changes the one record of its slot and serial. -/
theorem keepsOrder_mapOne (records : s.recordsLaw) {r : ItemRecord} (mem : r ∈ s.store.records)
    {f : ItemRecord → ItemRecord} (keeps : keepsOrder r (f r)) :
    ∀ q ∈ s.store.records, keepsOrder q (if q.ref = r.ref then f q else q) := by
  intro q hq
  split
  next same =>
    have found := s.record?_of_mem records mem
    rw [← same, s.record?_of_mem records hq] at found
    obtain rfl := Option.some.inj found
    exact keeps
  next => exact keepsOrder_refl q

theorem recirculated_keepsOrder (l : Lane) (r : ItemRecord) : keepsOrder r (recirculated l r) := by
  unfold recirculated
  split
  · exact keepsOrder_of_away rfl (.inr (.inl rfl))
  · exact keepsOrder_refl r

theorem State.settleRevision_sameRegisters (s : State) (l : Lane) (e : ReviseEntry) (p : Place) :
    s.sameRegisters (s.settleRevision l e p) := by
  refine State.sameRegisters_setLane (State.sameRegisters_of_lanes rfl) ?_
  rw [LaneUnit.dropRevision_eq]
  exact LaneUnit.settled_sameRegister _ _ _

theorem State.insertExpected_arrivalCounter (l : Lane) (p : Place) (ref : Ref) (n : Word32) (k : OutletId) :
    ((s.insertExpected l p ref n).outlet k).arrivalCounter = (s.outlet k).arrivalCounter := by
  rw [State.insertExpected]
  cases p with
  | bin => simp [State.setExpected]
  | outlet j =>
    simp only [State.setExpected, State.outlet_setOutlet]
    split
    next same => simp [same]
    next => rfl

/-- R90: a record that moves to the target of its revision keeps its ordinal, and takes its place by it. -/
theorem State.settled_ordersRecords (records : s.recordsLaw) (files : s.filesRecords s.store.records)
    (order : s.ordersRecords s.store.records) {r : ItemRecord} (mem : r ∈ s.store.records) {l : Lane} {p q : Place}
    {n : Word32} {pending : Option Place} (state : r.state = .routed p n pending) (lane : r.lane = some l)
    (place : s.targetOnLane l q = true) {a : State}
    (outlets : ∀ k, a.outlet k = ((s.removeExpected l p r.ref).insertExpected l q r.ref n).outlet k)
    (bins : ∀ j, a.bin j = ((s.removeExpected l p r.ref).insertExpected l q r.ref n).bin j)
    (lanes : s.sameRegisters a) :
    a.ordersRecords ({ r with state := .routed q n none } :: others r.ref s.store.records) := by
  have placed : s.recordPlaced r := ((s.membershipLaw_iff records).mpr files).1 r mem
  have away := State.leaveLists_filesRecords records files mem
  have held := State.leaveLists_ordersRecords order placed
  obtain ⟨outlets', bins'⟩ := s.leaveLists_routed state lane
  have lists (L : ListId) : (s.removeExpected l p r.ref).listAt L = (s.leaveLists r).listAt L := by
    cases L <;> simp only [State.listAt, outlets', bins']
  have away' : (s.removeExpected l p r.ref).filesRecords (others r.ref s.store.records) :=
    State.filesRecords_congr outlets' bins' away
  have held' : (s.removeExpected l p r.ref).ordersRecords (others r.ref s.store.records) := by
    refine ⟨fun L => by rw [lists]; exact held.rises L, fun r mem k m at_ => by
      rw [outlets']; exact held.below r mem k m at_, fun j => ?_⟩
    have same : (s.removeExpected l p r.ref).lane j = s.lane j := by simp [State.lane]
    rw [same]
    exact (order.lanes j).mono (others_subset _ _)
  have on : (s.removeExpected l p r.ref).targetOnLane l q = true := by
    rw [State.targetOnLane_congr (s := s) fun k => by rw [outlets', State.leaveLists_definition placed]]
    exact place
  have isHome : home { r with state := .routed q n none } = some (listOfPlace l q) := by simp [home, lane]
  have sole : ∀ r' ∈ others r.ref s.store.records, ¬routedAs l n r' := fun r' mem' at_ =>
    others_fresh _ _ r' mem' ((order.lanes l).distinct r mem r' (others_subset _ _ mem') n
      ⟨lane, p, pending, state⟩ at_)
  have numbers : ∀ r' ∈ others r.ref s.store.records, home r' = some (listOfPlace l q) →
      (s.removeExpected l p r.ref).ordinalOf r'.ref = number r' := fun r' mem' is => by
    have same : (s.removeExpected l p r.ref).ordinalOf r'.ref = s.ordinalOf r'.ref := by
      simp [State.ordinalOf, State.record?]
    rw [same, ← State.numberAt_of_home records (others_subset _ _ mem') is]
    cases q <;> rfl
  have listed (L : ListId) : a.listAt L = if L = listOfPlace l q then
      insertByOrdinal (s.removeExpected l p r.ref).ordinalOf r.ref n
        ((s.removeExpected l p r.ref).listAt (listOfPlace l q))
      else (s.removeExpected l p r.ref).listAt L := by
    have same : a.listAt L = ((s.removeExpected l p r.ref).insertExpected l q r.ref n).listAt L := by
      cases L <;> simp only [State.listAt, outlets, bins]
    rw [same, State.insertExpected, State.setExpected_listAt, State.expectedList_eq]
  refine held'.join (fun L is => ?_) (fun L off => ?_)
    (sortedAs_cons_away (fun k m ⟨stray, h⟩ => by cases h) fun r' mem' k m at_ => ?_) fun j => ?_
  · rw [isHome, Option.some.injEq] at is
    subst is
    rw [listed, if_pos rfl]
    exact State.insertExpected_rises away' held' on (x := { r with state := .routed q n none }) rfl
      (others_fresh _ _) sole numbers
  · rw [listed, if_neg fun same => off (isHome.trans (congrArg some same.symm))]
  · rw [outlets, State.insertExpected_arrivalCounter]
    exact held'.below r' mem' k m at_
  · refine (lanes j).ordersRecords ((order.lanes j).embed fun x hx => ?_)
    rcases List.mem_cons.mp hx with rfl | mem'
    · refine ⟨r, mem, rfl, fun m ⟨own, p', pending', is⟩ => ?_⟩
      cases is
      exact ⟨own, p, pending, state⟩
    · exact ⟨x, others_subset _ _ mem', rfl, fun _ h => h⟩

/-- R29 to R31, R60, R61, R90: every change of a step keeps the lists and the lanes in the order of the records. -/
theorem StoreChange.ordersRecords (change : StoreChange s a xs) (records : s.recordsLaw) (law : s.listsHold)
    (order : s.ordersRecords s.store.records) : a.ordersRecords a.store.records := by
  obtain ⟨counts, files⟩ := law
  have found_mem {r : ItemRecord} (found : s.record? r.ref = some r) : r ∈ s.store.records := (s.record?_some found).1
  have placed {r : ItemRecord} (mem : r ∈ s.store.records) : s.recordPlaced r :=
    ((s.membershipLaw_iff records).mpr files).1 r mem
  have sameLists {a : State} {rs : List ItemRecord} (outlets : ∀ k, a.outlet k = s.outlet k)
      (bins : ∀ l, a.bin l = s.bin l) (lanes : s.sameRegisters a) (held : s.ordersRecords rs) : a.ordersRecords rs := by
    refine held.congr (fun L => ?_) (fun k => by rw [outlets]) lanes
    have same : a.listAt L = s.listAt L := by cases L <;> simp only [State.listAt, outlets, bins]
    rw [same]
  have leaves {r : ItemRecord} (mem : r ∈ s.store.records) :
      (s.leaveLists r).filesRecords (others r.ref s.store.records) ∧
        (s.leaveLists r).ordersRecords (others r.ref s.store.records) :=
    ⟨State.leaveLists_filesRecords records files mem, State.leaveLists_ordersRecords order (placed mem)⟩
  have left {r : ItemRecord} (mem : r ∈ s.store.records) {f : ItemRecord → ItemRecord}
      (away : (f r).state = .expected ∨ (f r).state = .recirculating ∨ (f r).state = .rejected) {a : State}
      (outlets : a.store.outlets = (s.leaveLists r).store.outlets) (bins : a.store.bins = (s.leaveLists r).store.bins)
      (lanes : a.lanes = (s.leaveLists r).lanes)
      (changed : a.store.records = s.store.records.map fun q => if q.ref = r.ref then f q else q) :
      a.ordersRecords a.store.records := by
    have same (L : ListId) : a.listAt L = (s.leaveLists r).listAt L := by
      cases L <;> simp only [State.listAt, State.outlet, State.bin, outlets, bins]
    rw [changed]
    refine State.ordersRecords.perm ?_ (map_perm_cons_others records.1 mem rfl f)
    refine ((leaves mem).2.cons_away away).congr (fun L => by rw [same]) (fun k => by simp only [State.outlet, outlets])
      (State.sameRegisters_of_lanes lanes)
  have pointed {u t : State} {rs : List ItemRecord} (selected : PointersMoved u t) (held : u.ordersRecords rs) :
      t.ordersRecords rs := by
    cases selected <;> exact ⟨held.rises, held.below, held.lanes⟩
  have distinct {r : ItemRecord} : ((others r.ref s.store.records).map (·.ref)).Nodup :=
    (refs_nodup records.1).sublist (List.filter_sublist.map _)
  have few {r : ItemRecord} : (others r.ref s.store.records).length ≤ 8192 :=
    (List.length_filter_le _ _).trans (records_length_le records)
  cases change with
  | created slot o d newKey free =>
    obtain ⟨x, -, state, all, -⟩ := s.created_records_perm records free o d id
    exact sameLists (fun _ => rfl) (fun _ => rfl) (State.sameRegisters_of_lanes rfl)
      ((order.cons_away (.inl state)).perm all)
  | createdAndRouted slot o d l p t newKey free running open_ selected place =>
    obtain ⟨x, ref, -, -, changed⟩ := s.created_records_perm records free o d
      fun q => { q with lane := some l, state := .routed p (t.lane l).ordinalCounter none }
    have lane : t.lane l = s.lane l := selected.lane l
    have outlets (k : OutletId) : t.outlet k = s.outlet k := selected.outlet k
    have bins (j : Lane) : t.bin j = s.bin j := selected.bin j
    have away : t.filesRecords s.store.records := State.filesRecords_congr outlets bins files
    have held : t.ordersRecords s.store.records := pointed selected
      ⟨order.rises, order.below, order.lanes⟩
    rw [← selected.targetOnLane] at place
    obtain ⟨-, unused, -⟩ := s.lowestFreeSlot_some slot free
    have fresh : ∀ r ∈ s.store.records, r.ref ≠ x.ref := fun r mem same => unused r mem (by rw [same, ref])
    rw [← ref]
    refine (State.route_ordersRecords away held place (by rw [lane]; exact running) (by rw [lane]; exact open_)
      fresh).perm ?_
    rw [State.route_records, selected.records]
    exact changed
  | routed r l p t xs found running open_ elsewhere selected place =>
    obtain ⟨away, held⟩ := leaves (found_mem found)
    have away' : t.filesRecords _ := State.filesRecords_congr selected.outlet selected.bin away
    have lane : (s.lane l).sameRegister (t.lane l) :=
      (s.leaveLists_sameRegisters r l).trans (selected.sameRegisters l)
    rw [← selected.targetOnLane] at place
    refine (State.route_ordersRecords away' (pointed selected held) place (lane.state.trans running)
      (lane.exhausted.trans open_) (others_fresh _ _)).perm ?_
    exact State.route_records_perm records (found_mem found) (by rw [selected.records, State.leaveLists_records]) l p
  | amended r cs t found selected =>
    obtain ⟨ref, -, state, lane⟩ := applyChanges_keeps cs r
    refine pointed selected (sameLists (fun _ => rfl) (fun _ => rfl) (State.sameRegisters_of_lanes rfl) ?_)
    rw [selected.records]
    exact order.map (keepsOrder_mapOne records (found_mem found) (keepsOrder_of_eq ref state lane))
  | revisionIssued r cs t l assigned n target found lane state selected room =>
    obtain ⟨ref, -, -, lane'⟩ := applyChanges_keeps cs r
    have same : s.sameRegisters t := State.sameRegisters_of_lanes selected.lanes
    refine sameLists selected.outlet selected.bin
      (State.sameRegisters_setLane same ((same l).trans (LaneUnit.issueRevise_sameRegister _ _ _ _ _))) ?_
    rw [State.issueRevision_records selected]
    exact order.map (keepsOrder_mapOne records (found_mem found)
      (f := fun q => { applyChanges cs q with state := .routed assigned n (some target) })
      (keepsOrder_of_pending ref lane' state rfl))
  | restored r found state =>
    refine sameLists (fun k => by simp [State.outlet, State.restore]) (fun l => by simp [State.bin, State.restore])
      (State.sameRegisters_of_lanes (by simp [State.restore])) ?_
    rw [State.restore_records]
    exact order.map (keepsOrder_mapOne records (found_mem found)
      (f := fun q => { q with laps := 0, lane := none, state := .expected }) (keepsOrder_of_away rfl (.inl rfl)))
  | retired r found =>
    have rest : (s.retireRecord r).store.records = others r.ref s.store.records := by
      simp [State.retireRecord, others]
    rw [rest]
    obtain ⟨-, held⟩ := leaves (found_mem found)
    exact ⟨held.rises, held.below, held.lanes⟩
  | outletSet k o xs change =>
    obtain ⟨-, expected, content, -⟩ := change.counted (counts.1 k)
    exact State.setOutlet_ordersRecords files order expected content (change.arrivalCounter (counts.1 k))
  | filed r l k stray xs found place elsewhere =>
    obtain ⟨away, held⟩ := leaves (found_mem found)
    have perm := State.arrive_records_perm records (found_mem found) (State.leaveLists_records s r) k stray
    have ref := (State.renumbering_keeps (s := s.leaveLists r) k r).1
    have filed := State.arrive_ordersRecords away held distinct few (k := k)
      (x := { (s.leaveLists r).renumbering k r with
        state := .sorted k (((s.leaveLists r).renumberIfDue k).outlet k).arrivalCounter stray }) rfl
      (fun q mem => (others_fresh _ _ q mem).trans_eq ref.symm) stray
    change ((s.leaveLists r).arrive k ((s.leaveLists r).renumbering k r).ref stray).ordersRecords _ at filed
    rw [ref] at filed
    exact filed.perm perm
  | rejected r xs found =>
    exact left (found_mem found) (f := fun q => { q with state := .rejected }) (.inr (.inr rfl)) (by simp) (by simp)
      (by simp) (by simp)
  | recirculated r xs found =>
    refine left (found_mem found) (f := fun q => { q with laps := nextLaps q.laps, state := .recirculating })
      (.inr (.inl rfl)) (by simp) (by simp) (by simp) ?_
    rw [State.recirculate_records, State.leaveLists_records]
  | laneAbandoned l =>
    show (s.abandonLane l).ordersRecords (s.store.records.map (Machine.recirculated l))
    refine (order.map fun r _ => recirculated_keepsOrder l r).congr (fun L => ?_) (fun k => ?_)
      (State.sameRegisters_setLane (State.sameRegisters_of_lanes rfl) (LaneUnit.abandonRevisions_sameRegister _))
    · cases L with
      | expected k =>
        rw [State.listAt, State.abandonLane_outlet, ((s.outlet k).abandon_keeps l).2.2]
        split
        · exact List.nil_sublist _
        · exact .refl _
      | bin j =>
        rw [State.listAt, State.abandonLane_bin]
        split
        · exact List.nil_sublist _
        · exact .refl _
      | content k =>
        rw [State.listAt, State.abandonLane_outlet, ((s.outlet k).abandon_keeps l).2.1]
        exact .refl _
    · rw [State.abandonLane_outlet, OutletEntry.abandon]
      split <;> rfl
  | revisionDropped l e assigned reason still =>
    obtain ⟨r, target, found, state, lane⟩ := State.stillPending_inv still
    obtain ⟨mem, ref⟩ := s.record?_some found
    refine sameLists (fun _ => rfl) (fun _ => rfl) (State.settleRevision_sameRegisters s l e assigned) ?_
    show s.ordersRecords (s.store.records.map _)
    rw [← ref]
    exact order.map (keepsOrder_mapOne records mem (f := fun q => { q with state := .routed assigned e.ordinal none })
      (keepsOrder_of_pending rfl rfl state rfl))
  | revisionTaken l e assigned still place =>
    obtain ⟨r, target, found, state, lane⟩ := State.stillPending_inv still
    obtain ⟨mem, ref⟩ := s.record?_some found
    rw [← ref]
    have registers : s.sameRegisters (((s.removeExpected l assigned r.ref).insertExpected l e.target r.ref
        e.ordinal).settleRevision l e e.target) :=
      (State.sameRegisters_of_lanes (by simp [State.insertExpected])).trans
        (State.settleRevision_sameRegisters _ l e e.target)
    refine (State.settled_ordersRecords records files order mem state lane place
      (a := ((s.removeExpected l assigned r.ref).insertExpected l e.target r.ref e.ordinal).settleRevision l e e.target)
      (fun _ => rfl) (fun _ => rfl) registers).perm ?_
    have same : ((s.removeExpected l assigned r.ref).insertExpected l e.target r.ref e.ordinal).store.records =
        s.store.records := by simp [State.insertExpected]
    show (List.map _ ((s.removeExpected l assigned r.ref).insertExpected l e.target r.ref e.ordinal).store.records).Perm _
    rw [same]
    have changed := map_perm_cons_others records.1 mem rfl fun q => { q with state := .routed e.target e.ordinal none }
    rw [ref] at changed ⊢
    exact changed

/-- R108: a lane with no record ROUTED on it is in order whatever its register. -/
theorem LaneUnit.ordersRecords_of_unrouted {u : LaneUnit} {l : Lane} {rs : List ItemRecord}
    (off : ∀ r ∈ rs, routedOn l r = false) : u.ordersRecords l rs := by
  have none_ {r : ItemRecord} (mem : r ∈ rs) (n : Word32) : ¬routedAs l n r :=
    fun at_ => absurd (routedOn_iff.mpr ⟨n, at_⟩) (by simp [off r mem])
  exact ⟨fun _ r mem n at_ => absurd at_ (none_ mem n), fun r mem _ _ n at_ => absurd at_ (none_ mem n), fun _ => off⟩

theorem commit_ordersRecords (b : State) (law : a.listsHold) (order : a.ordersRecords a.store.records) :
    (commit b a xs).ordersRecords (commit b a xs).store.records := by
  have keeps := revised_keeps b
  have held := order.map fun r _ => keepsOrder_of_eq (keeps r).1 (keeps r).2.2.1 (keeps r).2.2.2
  rw [commit_records]
  refine ⟨fun L => ?_, fun r mem k n at_ => ?_, fun l => ?_⟩
  · have same : (commit b a xs).listAt L = a.listAt L := by cases L <;> simp [State.listAt]
    rw [same]
    exact held.rises L
  · rw [commit_outlet]
    exact held.below r mem k n at_
  · rw [commit_lane, State.drained]
    split
    next done =>
      simp only [State.drainComplete, decide_eq_true_eq] at done
      have off := (State.routedCount_eq_zero_iff law l).mp done.2
      refine LaneUnit.ordersRecords_of_unrouted fun q hq => ?_
      obtain ⟨r, mem, rfl⟩ := List.mem_map.mp hq
      simpa only [routedOn, (keeps r).2.2.1, (keeps r).2.2.2] using off r mem
    next => exact held.lanes l

theorem StoreWork.ordersRecords {t : State} (work : StoreWork s t) (records : s.recordsLaw) (law : s.listsHold)
    (order : s.ordersRecords s.store.records) : t.ordersRecords t.store.records := by
  have laneSet {l : Lane} {u : LaneUnit} (own : u.ordersRecords l s.store.records) (j : Lane) :
      ((s.setLane l u).lane j).ordersRecords j s.store.records := by
    rw [State.lane_setLane]
    split
    next same => exact same ▸ own
    next => exact order.lanes j
  cases work with
  | changed change => exact commit_ordersRecords s (change.listsHold records law) (change.ordersRecords records law order)
  | laneStarted l =>
    exact ⟨order.rises, order.below, laneSet ⟨(order.lanes l).issued, (order.lanes l).distinct, fun h => by cases h⟩⟩
  | laneDraining l =>
    exact ⟨order.rises, order.below, laneSet ⟨(order.lanes l).issued, (order.lanes l).distinct, fun h => by cases h⟩⟩
  | laneStopped l empty =>
    exact ⟨order.rises, order.below,
      laneSet (LaneUnit.ordersRecords_of_unrouted ((State.routedCount_eq_zero_iff law l).mp empty))⟩
  | laneSet l ps =>
    exact ⟨order.rises, order.below,
      laneSet ((LaneUnit.setParameters_sameRegister (s.lane l) ps).ordersRecords (order.lanes l))⟩
  | directoryReset empty =>
    have none_ : s.finishReset.store.records = [] := empty
    rw [none_]
    exact ⟨fun L => List.pairwise_of_forall fun _ _ _ mem => absurd mem List.not_mem_nil,
      fun _ mem => absurd mem List.not_mem_nil,
      fun l => LaneUnit.ordersRecords_of_unrouted fun _ mem => absurd mem List.not_mem_nil⟩
  | _ => exact ⟨order.rises, order.below, order.lanes⟩

end

/-! ### The obligation -/

theorem State.filesRecords_of_store {s t : State} (store : t.store = s.store) (law : s.filesRecords s.store.records) :
    t.filesRecords t.store.records := by
  rw [store]
  exact State.filesRecords_congr (fun k => by rw [State.outlet, State.outlet, store])
    (fun l => by rw [State.bin, State.bin, store]) law

theorem State.listsLaw_of_store {s t : State} (store : t.store = s.store) (law : s.listsLaw) : t.listsLaw :=
  State.listsLaw_congr (fun k => by rw [State.outlet, State.outlet, store])
    (fun l => by rw [State.bin, State.bin, store]) law

theorem State.ordersRecords_of_store {s t : State} (store : t.store = s.store) (lanes : s.sameRegisters t)
    (law : s.ordersRecords s.store.records) : t.ordersRecords t.store.records := by
  rw [store]
  refine law.congr (fun L => ?_) (fun k => by rw [State.outlet, State.outlet, store]) lanes
  have same : t.listAt L = s.listAt L := by cases L <;> simp only [State.listAt, State.outlet, State.bin, store]
  rw [same]

/-- R28 to R31, R61, R62, R81: what the lists hold, in the terms of the records in use. -/
theorem State.listsHold_iff {s : State} (records : s.recordsLaw) : s.listsHold ↔ s.listsLaw ∧ s.membershipLaw := by
  rw [State.listsHold, s.membershipLaw_iff records]

/-- Settles O7: reset has empty lists, and every store work takes a record out of its list and puts it into the one of
its new state. -/
theorem listsHoldTheRightRecords : Obligations.ListsHoldTheRightRecords := by
  unfold Obligations.ListsHoldTheRightRecords
  intro s t notShort records lists membership next
  obtain ⟨queue, effect⟩ := step_effect notShort next
  have hold : s.listsHold := (State.listsHold_iff records).mpr ⟨lists, membership⟩
  rcases effect.storeWork with ⟨asserted, rfl⟩ | ⟨u, work, store, registers⟩
  · obtain ⟨-, -, resetLists, resetMembership, resetOrder, -⟩ := lawsHoldAtReset
    exact ⟨resetLists, resetMembership, fun _ _ => resetOrder⟩
  · have waiting : ({ s with pending := queue } : State).listsHold :=
      ⟨hold.1, State.filesRecords_of_store (s := s) rfl hold.2⟩
    have held : u.listsHold := work.listsHold records waiting
    have agree : u.recordsLaw := (work.directoryLaw (indexed := False) ⟨records, False.elim⟩).1
    have agree' : t.recordsLaw := by
      rw [State.recordsLaw_iff, store]
      exact agree
    have held' : t.listsHold := ⟨State.listsLaw_of_store store held.1, State.filesRecords_of_store store held.2⟩
    obtain ⟨lists', membership'⟩ := (State.listsHold_iff agree').mp held'
    refine ⟨lists', membership', fun _ order => (State.orderLaw_iff agree' held').mpr ?_⟩
    exact State.ordersRecords_of_store store registers
      (work.ordersRecords records waiting (State.ordersRecords_of_store (s := s) rfl (State.sameRegisters_of_lanes rfl)
        ((State.orderLaw_iff records hold).mp order)))

end Sys2Proof.Machine
end

section
/-!
PROOF. Obligations O22 and O23: the order of the arbiter's grants (R120, R121), and what the completion of a step does
for its requester (R117, R127, R129, R64, R103, R111).
-/
namespace Sys2Proof.Machine

/-! ### The arbiter's choice -/

/-- The first of a list in strictly ascending rank that passes a test is the one of least rank that does. -/
theorem find?_of_least {α : Type} {rank : α → Nat} {p : α → Bool} {xs : List α} {x : α}
    (rising : xs.Pairwise fun a b => rank a < rank b) (mem : x ∈ xs) (passes : p x = true)
    (least : ∀ y ∈ xs, p y = true → rank x ≤ rank y) : xs.find? p = some x := by
  induction xs with
  | nil => cases mem
  | cons y ys ih =>
    rw [List.pairwise_cons] at rising
    rw [List.find?_cons]
    rcases List.mem_cons.mp mem with rfl | later
    · rw [passes]
    · have failing : p y = false := by
        by_contra passing
        have ahead := rising.1 x later
        have behind := least y List.mem_cons_self (by simpa using passing)
        omega
      rw [failing]
      exact ih rising.2 later fun z hz => least z (List.mem_cons_of_mem _ hz)

/-- R121: how far a lane stands behind the last lane granted. -/
def lanesBehind (last l : Lane) : Nat := (l - last - 1).val

theorem lanesAfter_rising (last : Lane) :
    (lanesAfter last).Pairwise fun a b => lanesBehind last a < lanesBehind last b := by
  revert last
  decide

section
variable {a : Arbiter}

/-- R121: the host engine at its share. -/
theorem Arbiter.choice_of_share (request : a.hostRequest = true) (share : a.hostWait = 4) :
    a.choice = some .host := by
  simp [Arbiter.choice, request, share, Config.hostShare]

/-- R121: the requesting lane that comes first after the last lane granted. -/
theorem Arbiter.choice_of_lane {l : Lane} (request : a.laneRequests[l] = true)
    (below : ¬(a.hostRequest = true ∧ a.hostWait = 4))
    (first : ∀ j : Lane, a.laneRequests[j] = true → l - a.lastLane - 1 ≤ j - a.lastLane - 1) :
    a.choice = some (.lane l) := by
  have found : (lanesAfter a.lastLane).find? (fun j => a.laneRequests[j]) = some l :=
    find?_of_least (lanesAfter_rising _) (mem_lanesAfter _ _) request fun j _ asks => first j asks
  unfold Arbiter.choice
  rw [if_neg (by simpa [Config.hostShare] using below), found]

theorem Arbiter.find?_of_no_lane (none_ : ∀ l : Lane, a.laneRequests[l] = false) :
    (lanesAfter a.lastLane).find? (fun l => a.laneRequests[l]) = none :=
  List.find?_eq_none.mpr fun l _ => by simp [none_ l]

/-- R121: the host engine where no lane asks. -/
theorem Arbiter.choice_of_no_lane (request : a.hostRequest = true)
    (none_ : ∀ l : Lane, a.laneRequests[l] = false) : a.choice = some .host := by
  unfold Arbiter.choice
  rw [Arbiter.find?_of_no_lane none_]
  simp [request]

theorem Arbiter.choice_of_quiet (quiet : a.quiet) : a.choice = none := by
  obtain ⟨noHost, none_⟩ := quiet
  unfold Arbiter.choice
  rw [Arbiter.find?_of_no_lane none_]
  simp [noHost]

end

/-! ### The grant -/

theorem InFlight.granted_eq (f : InFlight) :
    f.granted = if f.condition = .waiting then { f with condition := .stepping } else f := by
  unfold InFlight.granted
  cases f.condition <;> simp

theorem State.arbitrate_of_choice_host {s : State} (free : s.arbiter.busy = none) (choice : s.arbiter.choice = some .host) :
    s.arbitrate = (s.setArbiter s.arbiter.grantHost).setHost
      { s.host with inFlight := s.host.inFlight.map InFlight.granted } := by
  simp only [State.arbitrate, free, choice]

theorem State.arbitrate_of_choice_lane {s : State} {l : Lane} (free : s.arbiter.busy = none)
    (choice : s.arbiter.choice = some (.lane l)) : s.arbitrate = s.setArbiter (s.arbiter.grantLane l) := by
  simp only [State.arbitrate, free, choice]

/-- Settles O22: the arbiter's choice in each of the four situations at a free store. -/
theorem grantsFollowTheArbiterOrder : Obligations.GrantsFollowTheArbiterOrder := by
  unfold Obligations.GrantsFollowTheArbiterOrder
  refine ⟨fun s r busy => s.arbitrate_busy busy, fun s free => ⟨fun host => ?_, fun l request below first => ?_,
    fun noHost none_ => s.arbitrate_idle (Arbiter.choice_of_quiet ⟨noHost, none_⟩)⟩⟩
  · have choice : s.arbiter.choice = some .host := by
      rcases host with ⟨request, share⟩ | ⟨request, none_⟩
      · exact Arbiter.choice_of_share request share
      · exact Arbiter.choice_of_no_lane request none_
    rw [State.arbitrate_of_choice_host free choice, funext InFlight.granted_eq]
    rfl
  · rw [State.arbitrate_of_choice_lane free (Arbiter.choice_of_lane request below first)]
    rfl

/-! ### Aborting -/

theorem abortedResults_eq (s : State) (f : InFlight) : abortedResults s f = partialResults s f := by
  have outcome : outcomeWords = fun o => match o with
      | .created ref => [1, word ref.slot] ++ words32 ref.serial
      | .existing => [2]
      | .full => [3] := by
    funext o
    cases o <;> rfl
  unfold abortedResults partialResults
  cases f.command with
  | loadManifest items =>
    exact congrArg (fun g => word f.progress.outcomes.length :: (f.progress.outcomes.map g).flatten) outcome
  | search q =>
    have flag : flagWord (decide (0 < f.stepsDone) && (s.cursor q.cursor).slipped) =
        if 0 < f.stepsDone ∧ (s.cursor q.cursor).slipped = true then 1 else 0 := by
      simp [flagWord]
    simp only [flag]
    cases (s.cursor q.cursor).position <;> rfl
  | _ => rfl

theorem State.endCommand_eq (s : State) (f : InFlight) (status : Status) (results : List Word) :
    s.endCommand f status results =
      { s with
        host := { s.host with
          inFlight := none
          responses := s.host.responses ++
            if f.silent then [] else [{ code := f.command.code, body := status.word :: results }] } } := by
  unfold State.endCommand State.respondFor
  split <;> simp [State.setHost, State.respond]

/-- R130: a clearing that has started asks for its ending step. -/
theorem State.endByAbort_clearing {s : State} {f : InFlight} (clearing : ∃ k, f.command = .clearOutlet k)
    (started : 0 < f.stepsDone) :
    s.endByAbort f =
      (s.setHost { s.host with inFlight := some { f with condition := .ending } }).requestHostStep :=
  if_pos ((InFlight.needsEndingStep_iff f).mpr ⟨clearing, started⟩)

/-- R130: any other command ends with its partial results. -/
theorem State.endByAbort_other {s : State} {f : InFlight}
    (other : ¬((∃ k, f.command = .clearOutlet k) ∧ 0 < f.stepsDone)) :
    s.endByAbort f =
      { s with
        host := { s.host with
          inFlight := none
          responses := s.host.responses ++
            if f.silent then [] else [{ code := f.command.code, body := 18 :: partialResults s f }] } } := by
  have ends := (InFlight.needsEndingStep_iff f).not.mpr other
  unfold State.endByAbort
  rw [if_neg ends, State.endCommand_eq, abortedResults_eq]
  rfl

/-! ### The completion of a lane's step -/

/-- R64, R71, R103: the lane unit at the completion of a step that no RESTART waits for. -/
theorem LaneUnit.stepDone_of_no_restart {u : LaneUnit} (none_ : u.restartWaiting = false) (keeps : u.discardReply = false)
    (reply : Option Message) :
    u.stepDone reply =
      { u with
        outbound := u.outbound ++ reply.toList
        workList := if u.inHand = some .workItem then u.workList.tail else u.workList
        inHand := none } := by
  unfold LaneUnit.stepDone LaneUnit.dropItem
  split
  next inHand => simp [none_, keeps, inHand]
  next other => rw [if_neg other]; simp [none_, keeps]

/-- R111: the lane unit at the completion of a step that a RESTART waited for. -/
theorem LaneUnit.stepDone_of_restart {u : LaneUnit} (waits : u.restartWaiting = true) (discards : u.discardReply = true)
    (reply : Option Message) :
    u.stepDone reply =
      { u with
        workList := if u.inHand = some .workItem then u.workList.tail else u.workList
        inHand := some .restart
        restartWaiting := false
        discardReply := false } := by
  unfold LaneUnit.stepDone LaneUnit.dropItem
  split
  next inHand => simp [waits, discards, inHand]
  next other => rw [if_neg other]; simp [waits, discards]

/-- Settles O23: the completion of a host step by its result, and of a lane's step by whether a RESTART waits. -/
theorem stepsCompleteForTheirRequester : Obligations.StepsCompleteForTheirRequester := by
  unfold Obligations.StepsCompleteForTheirRequester
  refine ⟨fun s f => ⟨fun status results => ?_, fun p => ⟨fun unmarked => ?_, fun marked clearing => ?_,
    fun marked other => ?_⟩⟩, fun s l reply takeUp => ⟨fun none_ keeps => ?_, fun waits discards => ?_⟩⟩
  · rw [State.completeHostStep_done, State.endCommand_eq]
    rfl
  · rw [State.completeHostStep_more s f p unmarked]
    rfl
  · rw [State.completeHostStep_aborted s f p marked, State.endByAbort_clearing (by exact clearing) (by simp)]
    rfl
  · rw [State.completeHostStep_aborted s f p marked, State.endByAbort_other (by exact fun h => h.1.elim other)]
    rfl
  · unfold State.completeLaneStep
    simp only [none_, LaneUnit.stepDone_of_no_restart none_ keeps]
    rfl
  · unfold State.completeLaneStep
    simp only [waits, if_true, LaneUnit.stepDone_of_restart waits discards]
    rw [State.takeUpAll_none _ l (.inl (by simp)), ite_self]
    rfl

end Sys2Proof.Machine
end

section
/-!
PROOF. Obligations O15 to O21: what the events of the host channel do (chapters 8 and 12).
-/
namespace Sys2Proof.Machine

/-! ### Headers (R124, R126) -/

/-- R164: a code that names no command is received as a bad frame. -/
theorem hostFrameEvent_of_unassigned {code : Byte} (unassigned : codeAssigned code = false) (body : List Word) :
    hostFrameEvent code body = .badFrame (.received code body) := by
  have outside : code.toNat = 0 ∨ code.toNat = 0x0E ∨ 0x1D < code.toNat := by
    simp [codeAssigned] at unassigned
    omega
  unfold hostFrameEvent
  split
  case h_29 => rfl
  all_goals omega

/-- A header event is the reception of a frame part, and the whole frame of its code is received in the same way. -/
theorem exec_header {i : Instr} {code length : Byte} (header : eventHeader i = some (code, length)) :
    ∃ k, (∀ s, exec i s = .next (s.takePart code k (.header length))) ∧
      (i.wellFormed = true → ∀ t, exec (hostFrameEvent code []) t = .next (t.takePart code k (.received []))) := by
  cases i with
  | badFrame part =>
    cases part <;> simp [eventHeader] at header
    obtain ⟨rfl, rfl⟩ := header
    refine ⟨_, fun s => rfl, fun formed t => ?_⟩
    rw [hostFrameEvent_of_unassigned (by simpa [Instr.wellFormed, BadFramePart.fits] using formed)]
    rfl
  | loadManifest part | clearOutlet part | search part | readStatus part | resetDirectory part | abort part =>
    cases part <;> simp [eventHeader] at header
    obtain ⟨rfl, rfl⟩ := header
    exact ⟨_, fun s => rfl, fun _ t => rfl⟩
  | _ =>
    simp [eventHeader] at header <;>
    · rename_i part
      cases part <;> simp at header
      obtain ⟨rfl, rfl⟩ := header
      exact ⟨fun body t => t.acceptCommand _ _ body, fun s => rfl, fun _ t => rfl⟩

/-- Settles O15: a header event begins a frame, and one of body length 0 completes it. -/
theorem headerIsAcknowledgedWithRoom : Obligations.HeaderIsAcknowledgedWithRoom := by
  unfold Obligations.HeaderIsAcknowledgedWithRoom
  intro i code length s header
  have begun := s.beginFrame_spec code length
  simp only [State.channelHeld, Bool.or_eq_true] at begun
  simp only [← begun]
  obtain ⟨k, part, whole⟩ := exec_header header
  refine ⟨fun some_ => ?_, fun empty formed => ?_⟩
  · rw [part, s.takePart_header code length k some_]
  · subst empty
    rw [part, s.takePart_empty, whole formed]

/-! ### Frames of store-step commands (R125, R127, R128) -/

/-- Settles O16: a frame of a store-step command while a command is in flight, and one that its judging refuses. -/
theorem frameIsAnsweredBusyOrRefused : Obligations.FrameIsAnsweredBusyOrRefused := by
  unfold Obligations.FrameIsAnsweredBusyOrRefused
  intro i code body judge s frame judged takes
  rw [exec_frame i code body judge s frame judged, s.takeFrame_acceptCommand code body judge takes]
  refine ⟨fun flight => ?_, fun idle status results refused => ?_⟩
  · rw [if_pos flight]
  · simp only [idle, Option.isSome_none, Bool.false_eq_true, if_false, refused]

/-- R120, R127: a command that enters flight at a free store begins its step at once. -/
theorem State.enterFlight_free {s : State} (c : HostCommand) (law : s.arbiterLaw) (free : s.arbiter.busy = none) :
    s.enterFlight c =
      { s with
        host := { s.host with
          inFlight := some { command := c, condition := .stepping, stepsDone := 0, abortMark := false,
                             silent := false, progress := Progress.start } }
        arbiter := { s.arbiter with busy := some .host } } := by
  obtain ⟨-, noWait, quiet⟩ := law
  obtain ⟨noRequest, noLane⟩ := quiet free
  have choice : ({ s.arbiter with hostRequest := true } : Arbiter).choice = some .host :=
    Arbiter.choice_of_no_lane rfl noLane
  have granted : ({ s.arbiter with hostRequest := true } : Arbiter).grantHost = { s.arbiter with busy := some .host } := by
    simp [Arbiter.grantHost, noRequest, noWait noRequest]
  unfold State.enterFlight
  rw [State.arbitrate_of_choice_host (by exact free) (by exact choice)]
  simp only [State.setHost, State.setArbiter, State.requestHostStep, granted]
  rfl

/-- R120: a command that enters flight while a step is in progress waits. -/
theorem State.enterFlight_busy {s : State} (c : HostCommand) (busy : s.arbiter.busy ≠ none) :
    s.enterFlight c =
      { s with
        host := { s.host with
          inFlight := some { command := c, condition := .waiting, stepsDone := 0, abortMark := false,
                             silent := false, progress := Progress.start } }
        arbiter := { s.arbiter with hostRequest := true } } := by
  obtain ⟨r, granted⟩ := Option.ne_none_iff_exists'.mp busy
  exact State.arbitrate_busy _ (r := r) granted

/-- Settles O17: the command enters flight in the state without its frame. -/
theorem acceptedCommandAsksForItsStep : Obligations.AcceptedCommandAsksForItsStep := by
  unfold Obligations.AcceptedCommandAsksForItsStep
  intro i code body judge c s frame judged takes idle command law
  rw [exec_frame i code body judge s frame judged, s.takeFrame_acceptCommand code body judge takes]
  simp only [idle, Option.isSome_none, Bool.false_eq_true, if_false, command]
  split
  next free => rw [State.enterFlight_free c (by exact law) (by exact free)]; rfl
  next busy => rw [State.enterFlight_busy c (by exact busy)]; rfl

/-! ### Bad frames (R124, R125) -/

/-- R124, R125: the partial frame is answered BAD_FRAME with its own code. -/
theorem State.truncateReception_of_some {s : State} {r : Reception} (partial_ : s.host.reception = some r) :
    s.truncateReception = s.answered r.code [2] := by
  simp only [State.truncateReception, partial_]
  rfl

theorem State.truncateReception_of_none {s : State} (none_ : s.host.reception = none) : s.truncateReception = s := by
  simp only [State.truncateReception, none_]

theorem State.channelHeld_of_released {s : State} (line : s.host.lineHeld = false) (pin : s.resetHeld = false) :
    s.channelHeld = false := by
  simp [State.channelHeld, line, pin]

theorem State.channelHeld_of_asserted {s : State} (asserted : s.host.lineHeld = true ∨ s.resetHeld = true) :
    s.channelHeld = true := by
  simpa [State.channelHeld] using asserted

/-- R125: a code that names no command is refused. -/
theorem State.refuseCode_of_unassigned (s : State) {code : Byte}
    (unassigned : code.toNat = 0 ∨ code.toNat = 0x0E ∨ 0x1D < code.toNat) :
    s.refuseCode code = s.respond code .badFrame [] := by
  have none_ : codeAssigned code = false := by
    simp [codeAssigned]
    omega
  simp [State.refuseCode, none_]

/-- Settles O18: bad frames by their three forms, and the bodies of ABORT and READ STATUS. -/
theorem badFramesAreAnsweredBadFrame : Obligations.BadFramesAreAnsweredBadFrame := by
  unfold Obligations.BadFramesAreAnsweredBadFrame
  refine ⟨fun code body s unassigned takes => ?_, fun code s asserted => ?_, fun code r s line pin partial_ => ?_,
    fun code s line pin none_ room => ?_, fun body s some_ takes => ?_, fun body s some_ takes => ?_⟩
  · show Host.Outcome.next (s.takeFrame code body fun t => t.refuseCode code) = _
    rw [s.takeFrame_spec code body _ takes, State.refuseCode_of_unassigned _ unassigned]
    rfl
  · simp only [exec, execBadFrame, State.truncateFrame, State.channelHeld_of_asserted asserted, if_true]
  · simp only [exec, execBadFrame, State.truncateFrame, State.channelHeld_of_released line pin, partial_]
    exact congrArg Host.Outcome.next (State.truncateReception_of_some partial_)
  · have begun : s.beginFrame code 1 = s.setHost { s.host with reception := some ⟨code, 1⟩ } := by
      simp [State.beginFrame, State.channelHeld_of_released line pin, State.truncateReception_of_none none_,
        Config.headerRoom, room]
    simp only [exec, execBadFrame, State.truncateFrame, State.channelHeld_of_released line pin, none_, begun]
    rfl
  · exact congrArg Host.Outcome.next (s.bareCommand_body _ _ body takes some_)
  · exact congrArg Host.Outcome.next (s.bareCommand_body _ _ body takes some_)

/-! ### Reading, and READ STATUS (R126, R135) -/

/-- R126: the responses that wait once so many words are read: the one at the head goes with its last word. -/
def afterReading (words : Nat) : List Response → List Response
  | [] => []
  | r :: rest => if r.body.length + 1 ≤ words then rest else r :: rest

theorem State.readWords_released {s : State} (line : s.host.lineHeld = false) (pin : s.resetHeld = false) (words : Nat) :
    s.readWords words =
      s.truncateReception.setHost
        { s.truncateReception.host with responses := afterReading words s.truncateReception.host.responses } := by
  simp only [State.readWords, State.channelHeld_of_released line pin, Bool.false_eq_true, if_false]
  cases waiting : s.truncateReception.host.responses with
  | nil => simp only [afterReading, ← waiting]; rfl
  | cons r rest =>
    have length : r.words.length = r.body.length + 1 := rfl
    dsimp only [afterReading]
    rw [length]
    split
    · rfl
    · rw [← waiting]; rfl

/-- R124, R126: a partial frame is answered behind the responses that wait. -/
theorem State.truncateReception_eq (s : State) :
    s.truncateReception =
      { s with
        host := { s.host with
          reception := none
          responses := s.host.responses ++
            (s.host.reception.map fun r => ({ code := r.code, body := [2] } : Response)).toList } } := by
  cases partial_ : s.host.reception with
  | none =>
    rw [State.truncateReception_of_none partial_, Option.map_none, Option.toList_none, List.append_nil, ← partial_]
  | some r =>
    rw [State.truncateReception_of_some partial_]
    rfl

/-- Settles O19: the response at the head is read, and READ STATUS is answered at once. -/
theorem responsesAreReadAndStatusIsReported : Obligations.ResponsesAreReadAndStatusIsReported := by
  unfold Obligations.ResponsesAreReadAndStatusIsReported
  refine ⟨fun words s asserted => ?_, fun words s line pin => ?_, 65 + Config.stepLetterIndex.val, by omega, by omega,
    fun s takes => ?_⟩
  · simp only [exec, execReadResponse, State.readWords, State.channelHeld_of_asserted asserted, if_true]
  · simp only [exec, execReadResponse, State.readWords_released line pin]
    rw [State.truncateReception_eq]
    generalize s.host.responses ++ _ = rs
    cases rs <;> rfl
  · intro counts laneWord
    have told : exec (.readStatus (.received [])) s = .next (s.answered 0x1A (0 :: statusWords s)) :=
      congrArg Host.Outcome.next (s.bareCommand_empty _ _ takes)
    have stands : ∀ l, word (laneStateNumber (s.lane l).state) = laneWord l := by
      intro l
      simp only [laneWord]
      cases (s.lane l).state <;> rfl
    rw [told]
    simp only [statusWords, allLanes, List.map_cons, List.map_nil, stands]
    cases s.host.inFlight with
    | none => rfl
    | some f =>
      have code : packWord 0 f.command.code.toNat = word f.command.code.toNat := by simp [packWord, word]
      simp only [optionalWords, flightWords, code]
      cases f.condition <;> rfl

/-! ### Aborts (R129, R130, R131) -/

section
variable {s : State} {f : InFlight}

/-- R130: what the abort of a command that waits while a step is in progress leaves. -/
theorem State.abortCommand_waiting (flight : s.host.inFlight = some f) (waits : f.condition = .waiting)
    (busy : s.arbiter.busy ≠ none) :
    s.abortCommand =
      if (∃ k, f.command = .clearOutlet k) ∧ 0 < f.stepsDone then
        { s with
          host := { s.host with inFlight := some { f with condition := .ending } }
          arbiter := { s.arbiter with hostRequest := true, hostWait := 0 } }
      else
        { s with
          host := { s.host with
            inFlight := none
            responses := s.host.responses ++
              if f.silent then [] else [{ code := f.command.code, body := 18 :: partialResults s f }] }
          arbiter := { s.arbiter with hostRequest := false, hostWait := 0 } } := by
  obtain ⟨r, granted⟩ := Option.ne_none_iff_exists'.mp busy
  simp only [State.abortCommand, flight, waits]
  split
  next clearing =>
    rw [State.endByAbort_clearing clearing.1 clearing.2]
    exact State.arbitrate_busy _ (r := r) granted
  next other =>
    rw [State.endByAbort_other other]
    exact State.arbitrate_busy _ (r := r) granted

theorem State.abortCommand_stepping (flight : s.host.inFlight = some f) (steps : f.condition = .stepping) :
    s.abortCommand = s.setHost { s.host with inFlight := some { f with abortMark := true } } := by
  simp only [State.abortCommand, flight, steps]

theorem State.abortCommand_ending (flight : s.host.inFlight = some f) (ends : f.condition = .ending) :
    s.abortCommand = s := by
  simp only [State.abortCommand, flight, ends]

theorem State.abortCommand_idle (idle : s.host.inFlight = none) : s.abortCommand = s := by
  simp only [State.abortCommand, idle]

theorem State.takeAbort_of_flight (flight : s.host.inFlight = some f) :
    s.takeAbort = (s.respond 0x1C .ok []).abortCommand := by
  simp only [State.takeAbort, flight]

theorem State.takeAbort_idle (idle : s.host.inFlight = none) : s.takeAbort = s.respond 0x1C .nothingToAbort [] := by
  simp only [State.takeAbort, idle]

end

/-- R129: an ABORT is answered before it acts. -/
theorem exec_abort {s : State} {f : InFlight} (takes : s.takesFrame 0x1C []) (flight : s.host.inFlight = some f) :
    exec (.abort (.received [])) s = .next (s.answered 0x1C [0]).abortCommand := by
  have taken := s.bareCommand_empty 0x1C State.takeAbort takes
  rw [State.takeAbort_of_flight (f := f) (by exact flight)] at taken
  exact congrArg Host.Outcome.next taken

/-- Settles O20: ABORT by the condition of the command in flight. -/
theorem abortGoesByTheCondition : Obligations.AbortGoesByTheCondition := by
  unfold Obligations.AbortGoesByTheCondition
  intro s takes
  refine ⟨fun idle => ?_, fun f flight => ⟨fun waits busy => ?_, fun steps => ?_, fun ends => ?_⟩⟩
  · have taken := s.bareCommand_empty 0x1C State.takeAbort takes
    rw [State.takeAbort_idle (by exact idle)] at taken
    exact congrArg Host.Outcome.next taken
  · rw [exec_abort takes flight, State.abortCommand_waiting (f := f) (by exact flight) waits (by exact busy)]
    rfl
  · rw [exec_abort takes flight, State.abortCommand_stepping (f := f) (by exact flight) steps]
    rfl
  · rw [exec_abort takes flight, State.abortCommand_ending (f := f) (by exact flight) ends]

/-- R131: the assertion discards what the channel holds, and then aborts without a response. -/
theorem State.assertHostReset_released {s : State} (released : s.host.lineHeld = false) :
    s.assertHostReset =
      (s.setHost
        { inFlight := s.host.inFlight.map fun f => { f with silent := true }
          responses := [], reception := none, lineHeld := true }).abortCommand := by
  rw [State.assertHostReset, if_neg (by simp [released])]

/-- Settles O21: the abort of the silenced command by its condition. -/
theorem hostChannelResetDiscardsResponses : Obligations.HostChannelResetDiscardsResponses := by
  unfold Obligations.HostChannelResetDiscardsResponses
  refine ⟨fun s released => ?_, fun s => rfl⟩
  have asserted := State.assertHostReset_released released
  refine ⟨fun idle => ?_, fun f flight => ?_⟩
  · simp only [idle, Option.map_none] at asserted
    rw [State.abortCommand_idle (by rfl)] at asserted
    exact congrArg Host.Outcome.next asserted
  · simp only [flight, Option.map_some] at asserted
    refine ⟨fun waits busy => ?_, fun steps => ?_, fun ends => ?_⟩
    · rw [State.abortCommand_waiting (f := { f with silent := true }) (by rfl) (by exact waits) (by exact busy)] at asserted
      exact congrArg Host.Outcome.next asserted
    · rw [State.abortCommand_stepping (f := { f with silent := true }) (by rfl) (by exact steps)] at asserted
      exact congrArg Host.Outcome.next asserted
    · rw [State.abortCommand_ending (f := { f with silent := true }) (by rfl) (by exact ends)] at asserted
      exact congrArg Host.Outcome.next asserted

end Sys2Proof.Machine
end

section
/-!
PROOF. Obligations O24 to O26: the host commands that read, and those that write a rule or a group whole.
-/
namespace Sys2Proof.Machine

section
variable {s t : State} {f : InFlight} {c : HostCommand} {work : HostCommand → Option (State × Status × List Word)}
  {status : Status} {results : List Word}

/-- R127: the step event of a single-step command is the completion of its work. -/
theorem singleStep_next (steps : s.hostSteps f c) (does : work c = some (t, status, results)) :
    (Host.Outcome.next (s.singleStep work) : Host.Outcome State Fault Refusal) =
      .next (t.completeHostStep f (.done status results)) :=
  congrArg _ (s.singleStep_of_hostSteps f c work t status results steps does)

end

/-! ### READ ITEM -/

/-- Settles O24: the layout of section 12.1.1, by the state of the record. -/
theorem readItemReturnsTheRecord : Obligations.ReadItemReturnsTheRecord := by
  unfold Obligations.ReadItemReturnsTheRecord
  intro s f d steps
  refine ⟨fun none_ => singleStep_next steps (by simp only [readItemStep, none_]), fun r found => ?_⟩
  have does : readItemStep s (.readItem d) = some (s, .ok, recordWords r) := by simp only [readItemStep, found]
  refine (singleStep_next steps does).trans ?_
  refine congrArg (fun ws => Host.Outcome.next (s.completeHostStep f (.done .ok ws))) ?_
  have fields : ∀ a b, packWord a b = word (256 * a + b) := fun a b => by rw [packWord, Nat.mul_comm]; rfl
  simp only [recordWords, refWords, words32, keyWords, presenceWord, fields]
  cases r.origin <;> cases r.lane <;> simp only [originWord, fields] <;>
  cases r.state with
  | routed p n pending => cases pending <;> rfl
  | sorted k n stray => cases stray <;> rfl
  | _ => rfl

/-! ### READ OUTLET and READ LANE -/

/-- Settles O25: the words of an outlet, of a bin and of a lane, by what of them is present. -/
theorem readOutletAndReadLaneReportWhatStands : Obligations.ReadOutletAndReadLaneReportWhatStands := by
  unfold Obligations.ReadOutletAndReadLaneReportWhatStands
  refine ⟨fun s f k steps => ?_, fun s f l steps => ?_, fun s f l steps => ?_⟩
  · intro o head
    have heads : ∀ number refs, headWords number refs = head number refs := by
      intro number refs
      cases refs <;> rfl
    have does : readOutletStep s (.readOutlet (.outlet k)) = some (s, .ok, outletWords s k) := rfl
    refine (singleStep_next steps does).trans ?_
    refine congrArg (fun ws => Host.Outcome.next (s.completeHostStep f (.done .ok ws))) ?_
    simp only [outletWords, heads]
    show _ ++ optionalWords _ o.definition ++ optionalWords _ o.definition ++ _ ++ _ ++ _ ++ _ = _
    cases o.definition with
    | none => simp [optionalWords, OutletEntry.load, o]
    | some d => simp [optionalWords, OutletEntry.load, o]
  · have does : readOutletStep s (.readOutlet (.bin l)) = some (s, .ok, binWords s l) := rfl
    refine (singleStep_next steps does).trans ?_
    refine congrArg (fun ws => Host.Outcome.next (s.completeHostStep f (.done .ok ws))) ?_
    unfold binWords
    cases (s.bin l).expected <;> rfl
  · have does : readLaneStep s (.readLane l) = some (s, .ok, laneWords s l) := rfl
    refine (singleStep_next steps does).trans ?_
    refine congrArg (fun ws => Host.Outcome.next (s.completeHostStep f (.done .ok ws))) ?_
    dsimp only [laneWords]
    cases (s.lane l).inHand with
    | none => rfl
    | some x =>
      cases x with
      | request r => cases r <;> rfl
      | _ => rfl

/-! ### Rules and groups -/

theorem patternWords_eq (p : KeyPattern) :
    patternWords p = word p.positions.length :: p.positions.map (fun b => word ((b.map BitVec.toNat).getD 0)) ++
      [word p.minLength, word p.maxLength] := by
  unfold patternWords
  refine congrArg (fun f => word p.positions.length :: p.positions.map f ++ [word p.minLength, word p.maxLength]) ?_
  funext b
  cases b <;> rfl

theorem toList_of_four {α : Type} (v : Vector α 4) : v.toList = [v[0], v[1], v[2], v[3]] := by
  obtain ⟨⟨xs⟩, size⟩ := v
  match xs, size with
  | [_, _, _, _], _ => rfl

/-- Settles O26: an entry is set whole, and read as it stands. -/
theorem rulesAndGroupsAreWrittenAndReadWhole : Obligations.RulesAndGroupsAreWrittenAndReadWhole := by
  unfold Obligations.RulesAndGroupsAreWrittenAndReadWhole
  refine ⟨fun s f n e steps => ?_, fun s f n steps => ?_, fun s f g members policy overflow steps => ?_,
    fun s f g steps => ?_⟩
  · exact ⟨s.setRule n e, singleStep_next steps rfl, fun m => State.rule_setRule s n m e, rfl⟩
  · refine (singleStep_next (t := s) (status := .ok) (results := ruleWords (s.rule n)) steps rfl).trans ?_
    refine congrArg (fun ws => Host.Outcome.next (s.completeHostStep f (.done .ok ws))) ?_
    simp only [ruleWords, patternWords_eq, List.cons_append, List.nil_append, List.append_assoc]
  · exact ⟨_, singleStep_next steps rfl, fun h => State.group_setGroup s g h _, rfl⟩
  · refine (singleStep_next (t := s) (status := .ok) (results := groupWords (s.group g)) steps rfl).trans ?_
    refine congrArg (fun ws => Host.Outcome.next (s.completeHostStep f (.done .ok ws))) ?_
    rw [groupWords, toList_of_four]
    cases (s.group g).policy <;> cases (s.group g).overflow <;> rfl

end Sys2Proof.Machine
end

section
/-!
PROOF. Obligation O27: how reasons join the attention list (R158), and how its entries are taken and looked at (R160,
R161).
-/
namespace Sys2Proof.Machine

/-! ### Reasons that join the list -/

/-- R156: a reason that stands in the set already changes nothing. -/
theorem insertReason_of_mem {r : Reason} {rs : List Reason} (order : rs.Pairwise fun a b => reasonBit a < reasonBit b)
    (mem : r ∈ rs) : insertReason r rs = rs := by
  induction rs with
  | nil => cases mem
  | cons q qs ih =>
    obtain ⟨first, rest⟩ := List.pairwise_cons.mp order
    unfold insertReason
    rcases List.mem_cons.mp mem with rfl | later
    · simp
    · have after := first r later
      have differ : r ≠ q := by
        rintro rfl
        exact Nat.lt_irrefl _ after
      rw [if_neg (by omega), if_neg differ, ih rest later]

section
variable {subject : Subject} {reason : Reason} {es pre post : List AttentionEntry} {e : AttentionEntry}

theorem addReason_of_absent (absent : ∀ e ∈ es, e.subject ≠ subject) :
    addReason (subject, reason) es = es ++ [{ subject := subject, reasons := [reason] }] := by
  induction es with
  | nil => rfl
  | cons e es ih =>
    obtain ⟨other, others⟩ := List.forall_mem_cons.mp absent
    rw [addReason, if_neg other, ih others]
    rfl

theorem addReason_of_present (before : ∀ x ∈ pre, x.subject ≠ subject) (same : e.subject = subject) :
    addReason (subject, reason) (pre ++ e :: post) =
      pre ++ { subject := subject, reasons := insertReason reason e.reasons } :: post := by
  induction pre with
  | nil =>
    subst same
    simp [addReason]
  | cons x xs ih =>
    obtain ⟨other, others⟩ := List.forall_mem_cons.mp before
    rw [List.cons_append, addReason, if_neg other, ih others]
    rfl

end

/-! ### The order of a step's reasons -/

/-- R158: a list of reasons in the order of their subjects. -/
def bySubject (xs : List (Subject × Reason)) : Prop := xs.Pairwise fun a b => subjectRank a.1 ≤ subjectRank b.1

theorem insertBySubject_perm (x : Subject × Reason) (xs : List (Subject × Reason)) :
    (insertBySubject x xs).Perm (x :: xs) := by
  induction xs with
  | nil => rfl
  | cons y ys ih =>
    unfold insertBySubject
    split
    · rfl
    · exact (ih.cons y).trans (List.Perm.swap x y ys)

theorem insertBySubject_ordered {x : Subject × Reason} {xs : List (Subject × Reason)} (ordered : bySubject xs) :
    bySubject (insertBySubject x xs) := by
  unfold bySubject at ordered ⊢
  induction xs with
  | nil => exact List.pairwise_singleton _ _
  | cons y ys ih =>
    obtain ⟨first, rest⟩ := List.pairwise_cons.mp ordered
    unfold insertBySubject
    split
    next before =>
      refine List.pairwise_cons.mpr ⟨fun z hz => ?_, ordered⟩
      rcases List.mem_cons.mp hz with rfl | hz
      · omega
      · have := first z hz
        omega
    next after =>
      refine List.pairwise_cons.mpr ⟨fun z hz => ?_, ih rest⟩
      rcases mem_insertBySubject.mp hz with rfl | hz
      · omega
      · exact first z hz

/-- R158: a reason comes behind those of its subject that came before. -/
theorem insertBySubject_filter {x : Subject × Reason} {xs : List (Subject × Reason)} (ordered : bySubject xs)
    (subject : Subject) :
    (insertBySubject x xs).filter (fun y => decide (y.1 = subject)) =
      xs.filter (fun y => decide (y.1 = subject)) ++ [x].filter fun y => decide (y.1 = subject) := by
  induction xs with
  | nil => rfl
  | cons y ys ih =>
    obtain ⟨first, rest⟩ := List.pairwise_cons.mp ordered
    unfold insertBySubject
    split
    next before =>
      by_cases same : x.1 = subject
      · have none_ : ∀ z ∈ y :: ys, ¬z.1 = subject := by
          intro z hz e
          have rank : subjectRank z.1 = subjectRank x.1 := by rw [e, same]
          rcases List.mem_cons.mp hz with rfl | hz
          · omega
          · have := first z hz
            omega
        have empty : (y :: ys).filter (fun y => decide (y.1 = subject)) = [] :=
          List.filter_eq_nil_iff.mpr fun z hz => by simpa using none_ z hz
        rw [List.filter_cons_of_pos (by simpa using same), empty]
        simp [same]
      · simp [List.filter_cons, same]
    next after => rw [List.filter_cons, List.filter_cons, ih rest]; split <;> rfl

/-- The reasons of a step are put in order one after the other. -/
theorem inSubjectOrder_spec (xs : List (Subject × Reason)) :
    (inSubjectOrder xs).Perm xs ∧ bySubject (inSubjectOrder xs) ∧
      ∀ subject, (inSubjectOrder xs).filter (fun x => decide (x.1 = subject)) =
        xs.filter fun x => decide (x.1 = subject) := by
  have joined : ∀ acc, bySubject acc →
      (xs.foldl (fun acc x => insertBySubject x acc) acc).Perm (acc ++ xs) ∧
        bySubject (xs.foldl (fun acc x => insertBySubject x acc) acc) ∧
        ∀ subject, (xs.foldl (fun acc x => insertBySubject x acc) acc).filter (fun x => decide (x.1 = subject)) =
          acc.filter (fun x => decide (x.1 = subject)) ++ xs.filter fun x => decide (x.1 = subject) := by
    induction xs with
    | nil => exact fun acc ordered => ⟨by simp, ordered, by simp⟩
    | cons x xs ih =>
      intro acc ordered
      obtain ⟨perm, after, filtered⟩ := ih (insertBySubject x acc) (insertBySubject_ordered ordered)
      refine ⟨?_, after, fun subject => ?_⟩
      · exact perm.trans (((insertBySubject_perm x acc).append_right xs).trans List.perm_middle.symm)
      · rw [List.foldl_cons, filtered, insertBySubject_filter ordered, List.append_assoc, ← List.filter_append]
        rfl
  exact joined [] List.Pairwise.nil

/-! ### Taking and looking -/

section
variable {urgentOnly : Bool} {pre post : List AttentionEntry} {e : AttentionEntry}

/-- R160: the entry chosen, and the list without it, where those before it are passed over. -/
theorem chosenEntry_of_split (passed : ∀ x ∈ pre, urgentOnly = true ∧ x.urgent = false)
    (urgent : urgentOnly = true → e.urgent = true) :
    chosenEntry urgentOnly (pre ++ e :: post) = some e ∧ withoutChosen urgentOnly (pre ++ e :: post) = pre ++ post := by
  cases urgentOnly with
  | false =>
    have none_ : pre = [] := List.eq_nil_iff_forall_not_mem.mpr fun x hx => by simpa using passed x hx
    subst none_
    exact ⟨rfl, rfl⟩
  | true =>
    have others : ∀ x ∈ pre, ¬x.urgent = true := fun x hx => by simp [(passed x hx).2]
    refine ⟨?_, ?_⟩
    · rw [chosenEntry, if_pos rfl, List.find?_append, List.find?_eq_none.mpr others, Option.none_or,
        List.find?_cons_of_pos (urgent rfl)]
    · rw [withoutChosen, if_pos rfl, List.eraseP_append_right _ others, List.eraseP_cons_of_pos (urgent rfl)]

theorem chosenEntry_of_none {es : List AttentionEntry} (passed : ∀ x ∈ es, urgentOnly = true ∧ x.urgent = false) :
    chosenEntry urgentOnly es = none := by
  cases urgentOnly with
  | false =>
    have none_ : es = [] := List.eq_nil_iff_forall_not_mem.mpr fun x hx => by simpa using passed x hx
    rw [none_]
    rfl
  | true =>
    rw [chosenEntry, if_pos rfl]
    exact List.find?_eq_none.mpr fun x hx => by simp [(passed x hx).2]

end

/-- Settles O27: how reasons join the list, and the entry that is taken or looked at. -/
theorem attentionIsTakenInListOrder : Obligations.AttentionIsTakenInListOrder := by
  unfold Obligations.AttentionIsTakenInListOrder
  refine ⟨fun es subject reason => ⟨addReason_of_absent, ?_⟩, fun es xs => ?_, fun s f urgentOnly => ⟨?_, ?_⟩⟩
  · rintro pre e post rfl before same order
    rw [addReason_of_present before same]
    refine ⟨fun mem => ?_, fun _ => ⟨_, fun x => mem_insertReason, insertReason_pairwise reason order, rfl⟩⟩
    rw [insertReason_of_mem order mem, ← same]
  · intro ys rank
    obtain ⟨perm, ordered, filtered⟩ := inSubjectOrder_spec xs
    refine ⟨rfl, perm, fun slots => ?_, filtered⟩
    refine ordered.imp_of_mem fun {a b} ha hb rises => ?_
    have slotA : ∀ ref, a.1 = .item ref → ref.slot < 8192 :=
      fun ref is => slots ref a.2 (is ▸ perm.mem_iff.mp ha)
    have slotB : ∀ ref, b.1 = .item ref → ref.slot < 8192 :=
      fun ref is => slots ref b.2 (is ▸ perm.mem_iff.mp hb)
    cases kindA : a.1 <;> cases kindB : b.1 <;>
      simp [kindA, kindB, subjectRank, Config.slotCount, rank] at rises slotA slotB ⊢ <;> omega
  · intro pre e post split_ passed urgent
    obtain ⟨chosen, without⟩ := chosenEntry_of_split (post := post) passed urgent
    rw [← split_] at chosen without
    refine ⟨fun steps => ?_, fun steps => ?_⟩
    · have does : takeAttentionStep s (.takeAttention urgentOnly) =
          some ((s.setAttention (pre ++ post)).refreshLines, .ok, attentionWords e (pre ++ post)) := by
        simp only [takeAttentionStep, chosen, without]
      exact singleStep_next steps does
    · have does : peekAttentionStep s (.peekAttention urgentOnly) =
          some (s, .ok, attentionWords e s.store.attention) := by
        simp only [peekAttentionStep, chosen]
      exact singleStep_next steps does
  · intro passed
    have chosen := chosenEntry_of_none passed
    refine ⟨fun steps => ?_, fun steps => ?_⟩
    · exact singleStep_next steps (by simp only [takeAttentionStep, chosen])
    · exact singleStep_next steps (by simp only [peekAttentionStep, chosen])

end Sys2Proof.Machine
end

section
/-!
SUPPORT. What the completion of a step comes to in the cases that the statements tell apart (R27, R110, R117, R141):
the routed counts, the FULL and DRAINED reasons, and a completion that adds reasons alone.
-/
namespace Sys2Proof.Machine

/-! ### Routed counts (R33) -/

/-- R33: what an outlet counts toward a lane's routed count. -/
def OutletEntry.reservedOn (l : Lane) (o : OutletEntry) : Nat := if o.definedOn l then o.reserved else 0

theorem OutletEntry.reservedOn_congr {o o' : OutletEntry} (l : Lane) (definition : o'.definition = o.definition)
    (reserved : o'.reserved = o.reserved) : o'.reservedOn l = o.reservedOn l := by
  simp only [OutletEntry.reservedOn, OutletEntry.definedOn_eq, definition, reserved]

theorem OutletEntry.reservedOn_of_zero {o : OutletEntry} (zero : o.reserved = 0) (l : Lane) : o.reservedOn l = 0 := by
  rw [OutletEntry.reservedOn, zero, ite_self]

/-- R22: an outlet is defined on one lane at most. -/
theorem OutletEntry.definedOn_iff_of {o : OutletEntry} {m : Lane} (on : o.definedOn m = true) (l : Lane) :
    o.definedOn l = decide (m = l) := by
  rw [OutletEntry.definedOn_eq, decide_eq_true_eq] at on
  rw [OutletEntry.definedOn_eq, on]
  simp

section
variable {s t : State} {l : Lane}

theorem State.outlets_toList (s : State) : s.store.outlets.toList = List.ofFn s.outlet :=
  List.ext_getElem (by simp) fun i _ _ => by rw [List.getElem_ofFn]; rfl

theorem State.routedCount_eq_sum (s : State) (l : Lane) :
    s.routedCount l = (∑ k : OutletId, (s.outlet k).reservedOn l) + (s.bin l).reserved := by
  unfold State.routedCount
  rw [s.outlets_toList, List.map_ofFn, List.sum_ofFn]
  rfl

theorem State.routedCount_of_same (outlets : ∀ k, (t.outlet k).reservedOn l = (s.outlet k).reservedOn l)
    (bin : (t.bin l).reserved = (s.bin l).reserved) : t.routedCount l = s.routedCount l := by
  simp only [State.routedCount_eq_sum, outlets, bin]

/-- R33: where one outlet alone has changed, the count follows its reserved count. -/
theorem State.routedCount_of_one_outlet (k : OutletId) (others : ∀ j, j ≠ k → t.outlet j = s.outlet j)
    (bin : t.bin l = s.bin l) :
    t.routedCount l + (s.outlet k).reservedOn l = s.routedCount l + (t.outlet k).reservedOn l := by
  have parts (u : State) : u.routedCount l =
      (u.outlet k).reservedOn l + ∑ j ∈ Finset.univ.erase k, (u.outlet j).reservedOn l + (u.bin l).reserved := by
    rw [State.routedCount_eq_sum, Finset.add_sum_erase _ (fun j => (u.outlet j).reservedOn l) (Finset.mem_univ k)]
  have same : ∑ j ∈ Finset.univ.erase k, (t.outlet j).reservedOn l = ∑ j ∈ Finset.univ.erase k, (s.outlet j).reservedOn l :=
    Finset.sum_congr rfl fun j mem => by rw [others j (Finset.ne_of_mem_erase mem)]
  rw [parts, parts s, bin]
  omega

/-- R33: where the bin alone has changed, the count follows its reserved count. -/
theorem State.routedCount_of_bin (outlets : ∀ k, t.outlet k = s.outlet k) (l : Lane) :
    t.routedCount l + (s.bin l).reserved = s.routedCount l + (t.bin l).reserved := by
  simp only [State.routedCount_eq_sum, outlets]
  omega

/-! ### A record's leaving its list -/

/-- R20, R33: the routed count of the lane that a ROUTED record leaves falls by one, and no other. -/
theorem State.leaveLists_routedCount {r : ItemRecord} (placed : s.recordPlaced r) (lists : s.listsLaw) (l : Lane) :
    (s.leaveLists r).routedCount l + (if routedOn l r then 1 else 0) = s.routedCount l := by
  obtain ⟨outlet, bin, -, -⟩ := s.leaveLists_spec r placed
  have kept (elsewhere : routedOn l r = false)
      (outlets : ∀ k, ((s.outlet k).without k r).reservedOn l = (s.outlet k).reservedOn l)
      (bins : ((s.bin l).without l r).reserved = (s.bin l).reserved) :
      (s.leaveLists r).routedCount l + (if routedOn l r then 1 else 0) = s.routedCount l := by
    rw [elsewhere, State.routedCount_of_same (s := s) (fun k => by rw [outlet, outlets]) (by rw [bin, bins])]
    simp
  cases state : r.state with
  | routed p ordinal pending =>
    have kind : routedOn l r = decide (r.lane = some l) := by simp [routedOn, state, stateKind]
    cases p with
    | outlet k =>
      obtain ⟨m, lane, on, mem⟩ : ∃ m, r.lane = some m ∧ (s.outlet k).definedOn m = true ∧ r.ref ∈ (s.outlet k).expected := by
        simpa [State.recordPlaced, state] using placed
      have count := State.routedCount_of_one_outlet (s := s) (t := s.leaveLists r) (l := l) k
        (fun j other => by rw [outlet]; simp [OutletEntry.without, state, Ne.symm other])
        (by rw [bin]; simp [Bin.without, state])
      have left : ((s.leaveLists r).outlet k).reservedOn l = (s.outlet k).reservedOn l - 1 := by
        rw [outlet, OutletEntry.without, state]
        simp only [if_true, OutletEntry.reservedOn, OutletEntry.definedOn_eq]
        split <;> simp
      have some_ : 0 < (s.outlet k).reserved := (lists.1 k).1 ▸ List.length_pos_of_mem mem
      rw [left, OutletEntry.reservedOn, OutletEntry.definedOn_iff_of on] at count
      rw [kind, lane]
      by_cases own : m = l
      · simp only [own, decide_true, if_true] at count ⊢
        omega
      · simp [own] at count ⊢
        exact count
    | bin =>
      obtain ⟨m, lane, mem⟩ : ∃ m, r.lane = some m ∧ r.ref ∈ (s.bin m).expected := by
        simpa [State.recordPlaced, state] using placed
      have count := State.routedCount_of_bin (s := s) (t := s.leaveLists r)
        (fun j => by rw [outlet]; simp [OutletEntry.without, state]) l
      have some_ : 0 < (s.bin m).reserved := lists.2 m ▸ List.length_pos_of_mem mem
      rw [kind, lane]
      rw [bin, Bin.without, state, lane] at count
      by_cases own : m = l
      · subst own
        simp only [if_true, decide_true] at count ⊢
        omega
      · simpa [own] using count
  | sorted k arrival stray =>
    refine kept (by simp [routedOn, state, stateKind]) (fun j => ?_) (by simp [Bin.without, state])
    rw [OutletEntry.without, state]
    dsimp only
    split
    · exact OutletEntry.reservedOn_congr l rfl rfl
    · rfl
  | _ =>
    exact kept (by simp [routedOn, state, stateKind]) (fun j => by simp [OutletEntry.without, state])
      (by simp [Bin.without, state])

/-! ### Drains (R110) -/

@[simp] theorem LaneUnit.without_state (u : LaneUnit) (l : Lane) (r : ItemRecord) : (u.without l r).state = u.state := by
  unfold LaneUnit.without
  split
  · split <;> rfl
  all_goals rfl

/-- R110: where no routed count and no lane state has changed, no drain is complete. -/
theorem State.drainComplete_of_same (law : s.lanesLaw) (state : (t.lane l).state = (s.lane l).state)
    (count : t.routedCount l = s.routedCount l) : t.drainComplete l = false := by
  have some_ := (law l).2
  simp only [State.drainComplete, state, count, decide_eq_false_iff_not, not_and]
  exact fun draining => (some_ draining).ne'

/-- R110: a record's leaving its lane completes the drain of the lane it was the last on. -/
theorem State.drainComplete_of_leaving {r : ItemRecord} (law : s.lanesLaw) (state : (t.lane l).state = (s.lane l).state)
    (count : t.routedCount l + (if routedOn l r then 1 else 0) = s.routedCount l) :
    t.drainComplete l = s.lastOf l r := by
  have some_ := (law l).2
  simp only [State.drainComplete, State.lastOf, state, decide_eq_decide]
  refine and_congr_right fun draining => ?_
  have := some_ draining
  simp only [routedOn, decide_eq_true_eq] at count
  by_cases own : stateKind r.state = .routed ∧ r.lane = some l
  · rw [if_pos own] at count
    simp only [own.1, own.2, true_and]
    omega
  · rw [if_neg own] at count
    constructor
    · omega
    · exact fun h => absurd ⟨h.1, h.2.1⟩ own

theorem State.drainReasons_none (none_ : ∀ l, t.drainComplete l = false) : t.drainReasons = [] := by
  simp [State.drainReasons, none_]

theorem State.drainReasons_of_leaving {r : ItemRecord} (leaving : ∀ l, t.drainComplete l = s.lastOf l r) :
    t.drainReasons = s.drainedBy r := by
  simp only [State.drainReasons, State.drainedBy, funext leaving]

/-! ### FULL (R27) -/

theorem OutletEntry.state_eq_opened_iff (o : OutletEntry) :
    o.state = .opened ↔ ∃ d, o.definition = some d ∧ o.clearing = none ∧ o.closed = false ∧ o.load < d.capacity :=
  o.stateWithLoad_eq_opened_iff o.load

theorem OutletEntry.state_eq_full_iff (o : OutletEntry) :
    o.state = .full ↔ ∃ d, o.definition = some d ∧ o.clearing = none ∧ o.closed = false ∧ d.capacity ≤ o.load := by
  unfold OutletEntry.state OutletEntry.stateWithLoad
  cases o.definition with
  | none => simp
  | some d =>
    cases clearing : o.clearing with
    | some b => simp
    | none =>
      cases closed : o.closed with
      | true => simp
      | false => by_cases full : d.capacity ≤ o.load <;> simp [full]

/-- R27: an outlet whose load has not risen has not become FULL. -/
theorem OutletEntry.not_filled {o o' : OutletEntry} (definition : o'.definition = o.definition) (load : o'.load ≤ o.load) :
    ¬(o.state = .opened ∧ o'.state = .full) := by
  rw [OutletEntry.state_eq_opened_iff, OutletEntry.state_eq_full_iff, definition]
  rintro ⟨⟨d, defined, -, -, below⟩, d', defined', -, -, full⟩
  obtain rfl : d = d' := Option.some.inj (defined.symm.trans defined')
  omega

theorem OutletEntry.without_load_le (o : OutletEntry) (k : OutletId) (r : ItemRecord) :
    (o.without k r).load ≤ o.load := by
  unfold OutletEntry.without OutletEntry.load
  split
  · split <;> simp
  · split <;> simp
  all_goals exact Nat.le_refl _

theorem fullReasons_none (none_ : ∀ k, ¬((s.outlet k).state = .opened ∧ (t.outlet k).state = .full)) :
    fullReasons s t = [] := by
  have empty : (allOutlets.filter fun k => decide ((s.outlet k).state = .opened ∧ (t.outlet k).state = .full)) = [] :=
    List.filter_eq_nil_iff.mpr fun k _ => by simpa using none_ k
  rw [fullReasons, empty, List.map_nil]

theorem fullReasons_of_same (outlets : ∀ k, t.outlet k = s.outlet k) : fullReasons s t = [] :=
  fullReasons_none fun k => by rw [outlets]; exact OutletEntry.not_filled rfl (Nat.le_refl _)

/-- R27: where one outlet alone may have become FULL, the reason is that outlet's. -/
theorem fullReasons_of_one {k : OutletId}
    (others : ∀ j, j ≠ k → ¬((s.outlet j).state = .opened ∧ (t.outlet j).state = .full)) :
    fullReasons s t = filled s t k := by
  unfold filled
  split
  next full =>
    have own : (allOutlets.filter fun j => decide ((s.outlet j).state = .opened ∧ (t.outlet j).state = .full)) = [k] := by
      have only : ∀ j ∈ allOutlets,
          decide ((s.outlet j).state = .opened ∧ (t.outlet j).state = .full) = decide (j = k) := fun j _ => by
        by_cases here : j = k
        · simp only [here, full, and_self, decide_true]
        · simp only [here, others j here, decide_false]
      rw [List.filter_congr only, List.filter_eq, allOutlets,
        List.count_eq_one_of_mem (List.nodup_finRange 48) (List.mem_finRange k)]
      rfl
    rw [fullReasons, own, List.map_singleton]
  next none_ =>
    refine fullReasons_none fun j => ?_
    by_cases here : j = k
    · rwa [here]
    · exact others j here

/-! ### Completions -/

/-- R5: records changed one by one, each keeping its slot and serial, are found changed. -/
theorem State.record?_of_map {g : ItemRecord → ItemRecord} (records : t.store.records = s.store.records.map g)
    (ref : ∀ q, (g q).ref = q.ref) (x : Ref) : t.record? x = (s.record? x).map g := by
  rw [State.record?, State.record?, records, List.find?_map]
  congr 2
  funext q
  simp only [Function.comp, ref]

/-- R137: records that keep slot, serial and state leave the views as they are. -/
theorem State.members_of_map {g : ItemRecord → ItemRecord} (records : t.store.records = s.store.records.map g)
    (ref : ∀ q, (g q).ref = q.ref) (kind : ∀ q ∈ s.store.records, stateKind (g q).state = stateKind q.state)
    (keyIndex : t.store.keyIndex = s.store.keyIndex) (outlets : t.store.outlets = s.store.outlets)
    (bins : t.store.bins = s.store.bins) (v : View) : t.members v = s.members v := by
  have state (k : StateKind) : t.isInState k = s.isInState k := by
    funext x
    rw [State.isInState, State.isInState, State.record?_of_map records ref]
    cases found : s.record? x with
    | none => rfl
    | some q => simp only [Option.map_some, kind q (s.record?_some found).1]
  cases v <;> simp only [State.members, State.outlet, State.bin, keyIndex, outlets, bins, state]

/-- R117: a completion at which no record has left a view and no drain is complete advances revisions and adds the
reasons. -/
theorem commit_stay (stay : ∀ v, ∀ ref ∈ s.members v, ref ∈ t.members v) (noDrain : ∀ l, t.drainComplete l = false)
    (xs : List (Subject × Reason)) :
    commit s t xs = (State.advanceRevisions s t).noteReasons (xs ++ fullReasons s t) := by
  have members (v : View) : (State.advanceRevisions s t).members v = t.members v :=
    State.members_of_map (s := t) (t := State.advanceRevisions s t) rfl (fun q => (revised_keeps s q).1)
      (fun q _ => by rw [(revised_keeps s q).2.2.1]) rfl rfl rfl v
  have slips : settled s t = State.advanceRevisions s t := by
    have same : slipCursor s (State.advanceRevisions s t) = id := by
      funext c
      unfold slipCursor
      split
      next ref on => rw [if_neg fun h => h.2 (members _ ▸ stay _ _ h.1)]; rfl
      next => rfl
    rw [settled, State.slipCursors, same, Vector.map_id]
    rfl
  rw [commit_eq, slips, completionReasons, State.drainReasons_none noDrain,
    State.completeDrains_none (State.advanceRevisions s t) noDrain, List.append_nil]
  rfl

/-- R117: a completion that changes no record, no view and no lane adds the reasons alone. -/
theorem commit_still (law : s.recordsLaw) (records : t.store.records = s.store.records)
    (members : ∀ v, t.members v = s.members v) (noDrain : ∀ l, t.drainComplete l = false) (xs : List (Subject × Reason)) :
    commit s t xs = t.noteReasons (xs ++ fullReasons s t) := by
  have revisions : State.advanceRevisions s t = t := by
    rw [State.advanceRevisions, records, revised_unchanged s law, ← records]
    rfl
  rw [commit_stay (fun v ref mem => (members v).symm ▸ mem) noDrain, revisions]

theorem State.noteReasons_nil (lines : t.linesLaw) : t.noteReasons [] = t := t.refreshLines_eq lines

/-- R158, R162: what a step comes to that adds these reasons and nothing else. -/
theorem State.noteReasons_eq (s : State) (xs : List (Subject × Reason)) :
    s.noteReasons xs =
      ({ s with
          urgentLine := (withReasons s.store.attention xs).any AttentionEntry.urgent
          routineLine := (withReasons s.store.attention xs).any fun e => !e.urgent } : State).setAttention
        (withReasons s.store.attention xs) := rfl

@[simp] theorem State.noteReasons_outlet (s : State) (xs : List (Subject × Reason)) (k : OutletId) :
    (s.noteReasons xs).outlet k = s.outlet k := rfl

@[simp] theorem State.noteReasons_lane (s : State) (xs : List (Subject × Reason)) (l : Lane) :
    (s.noteReasons xs).lane l = s.lane l := rfl

section
variable {a : State} {xs : List (Subject × Reason)}

/-- R141, R162: after the completion of a step the cursors have slipped and the lines show the list. -/
theorem commit_followsUp (outside : s.keepsOutside a) : s.followsUp (commit s a xs) := by
  refine ⟨fun c => ?_, commit_linesLaw s a xs⟩
  have members (v : View) : (commit s a xs).members v = (State.advanceRevisions s a).members v :=
    State.members_congr (by rw [commit_records]; rfl) (by rw [commit_keyIndex]; rfl) (by rw [commit_outlets]; rfl)
      (by rw [commit_bins]; rfl) v
  have same : slipCursor s (commit s a xs) = slipCursor s (State.advanceRevisions s a) := by
    funext c
    simp only [slipCursor, members]
  rw [same]
  simp [State.cursor, outside.cursors]

theorem commit_sameElsewhere (outside : s.keepsOutside a) : s.sameElsewhere (commit s a xs) := by
  refine ⟨?_, ?_, ?_, ?_, ?_, ?_⟩ <;> simp [outside.host, outside.arbiter, outside.timebase, outside.pending,
    outside.resetHeld, outside.rules]

/-- R9: a record whose fields the step has changed advances its revision. -/
theorem revised_of_changed {r new : ItemRecord} (found : s.record? new.ref = some r)
    (changed : { new with revision := r.revision } ≠ r) : revised s new = { new with revision := r.revision + 1 } := by
  unfold revised
  rw [found]
  exact if_neg changed

theorem revised_of_new {r : ItemRecord} (new : s.record? r.ref = none) : revised s r = r := by
  unfold revised
  rw [new]

theorem revised_self {r : ItemRecord} (found : s.record? r.ref = some r) : revised s r = r := by
  unfold revised
  rw [found]
  exact if_pos rfl

/-- R9: the completion of a step whose work has changed one record alone, in its fields. -/
theorem commit_recordBecomes {r new : ItemRecord} (law : s.recordsLaw) (found : s.record? r.ref = some r)
    (ref : new.ref = r.ref) (changed : { new with revision := r.revision } ≠ r)
    (records : a.store.records = s.store.records.map fun q => if q.ref = r.ref then new else q)
    (keyIndex : a.store.keyIndex = s.store.keyIndex) (serial : a.store.serialCounter = s.store.serialCounter)
    (counts : a.store.counts = s.store.counts.move (stateKind r.state) (stateKind new.state)) :
    s.recordBecomes (commit s a xs) r { new with revision := r.revision + 1 } := by
  refine ⟨?_, by rw [commit_keyIndex, keyIndex], by rw [commit_serialCounter, serial], by rw [commit_counts, counts]⟩
  rw [commit_records, records, List.map_map]
  refine List.map_congr_left fun q mem => ?_
  simp only [Function.comp]
  split
  · exact revised_of_changed (ref ▸ found) changed
  · exact revised_self (s.record?_of_mem law mem)

end

end

end Sys2Proof.Machine
end

section
/-!
PROOF. Obligations O28 to O30: the host commands on lanes, and those that change one outlet's entry.
-/
namespace Sys2Proof.Machine

/-! ### Lanes -/

/-- R109: what STOP LANE leaves, and the state it answers with. -/
theorem State.stopLane_running {s : State} {l : Lane} (running : (s.lane l).state = .running) :
    s.stopLane l =
      if 0 < s.routedCount l then s.setLane l { s.lane l with state := .draining }
      else (s.setLane l (s.lane l).reachStopped).noteReasons [(.lane l, .drained)] := by
  simp only [State.stopLane, running]
  split
  next none_ => rw [if_neg (by omega)]
  next some_ => rw [if_pos (by omega)]

/-- Settles O28: the lane state that a command sets, and the parameters by the last that names each. -/
theorem lanesAreStartedStoppedAndSet : Obligations.LanesAreStartedStoppedAndSet := by
  unfold Obligations.LanesAreStartedStoppedAndSet
  refine ⟨fun s f l => ⟨fun steps => ?_, fun steps => ?_⟩, fun s f l ps steps => ?_⟩
  · have does : startLaneStep s (.startLane l) = some (s.setLane l { s.lane l with state := .running }, .ok, [2]) := by
      simp [startLaneStep, laneOk, laneStateNumber, word]
    exact singleStep_next steps does
  · have does : stopLaneStep s (.stopLane l) =
        some (s.stopLane l, .ok, [word (laneStateNumber ((s.stopLane l).lane l).state)]) := rfl
    refine (singleStep_next steps does).trans ?_
    cases state : (s.lane l).state with
    | stopped =>
      have same : s.stopLane l = s := by simp only [State.stopLane, state]
      rw [same, state]
      rfl
    | draining =>
      have same : s.stopLane l = s := by simp only [State.stopLane, state]
      rw [same, state]
      rfl
    | running =>
      rw [State.stopLane_running state]
      by_cases some_ : 0 < s.routedCount l
      · simp only [if_pos some_, State.lane_setLane_self]
        rfl
      · simp only [if_neg some_]
        have stopped : (((s.setLane l (s.lane l).reachStopped).noteReasons [(.lane l, .drained)]).lane l).state = .stopped := by
          rw [State.noteReasons_lane, State.lane_setLane_self]
          rfl
        rw [stopped]
        rfl
  · intro u
    have does : setLaneParametersStep s (.setLaneParameters l ps) =
        some (s.setLane l (ps.foldl LaneUnit.setParameter u), .ok, []) := rfl
    refine (singleStep_next steps does).trans ?_
    refine congrArg (fun v => Host.Outcome.next ((s.setLane l v).completeHostStep f (.done .ok []))) ?_
    clear steps does
    induction ps using List.reverseRecOn with
    | nil => rfl
    | append_singleton ps p ih =>
      rw [List.foldl_append, ih]
      cases p <;> simp [LaneUnit.setParameter]

/-! ### Outlets -/

section
variable {s : State} {k : OutletId} {o : OutletEntry}

theorem State.members_setOutlet (expected : o.expected = (s.outlet k).expected) (content : o.content = (s.outlet k).content)
    (v : View) : (s.setOutlet k o).members v = s.members v := by
  cases v with
  | expected j =>
    simp only [State.members, State.outlet_setOutlet]
    split
    next here => rw [here, expected]
    next => rfl
  | content j =>
    simp only [State.members, State.outlet_setOutlet]
    split
    next here => rw [here, content]
    next => rfl
  | _ => rfl

/-- R117: the completion of a step that changes one outlet's entry, and neither its lists nor any routed count, with
the reasons that the step adds. -/
theorem commit_setOutlet_noting (law : s.orderly) (expected : o.expected = (s.outlet k).expected)
    (content : o.content = (s.outlet k).content) (counts : ∀ l, o.reservedOn l = (s.outlet k).reservedOn l)
    (xs : List (Subject × Reason)) :
    commit s (s.setOutlet k o) xs = (s.setOutlet k o).noteReasons (xs ++ filled s (s.setOutlet k o) k) := by
  obtain ⟨records, lanes, -⟩ := law
  have routed (l : Lane) : (s.setOutlet k o).routedCount l = s.routedCount l := by
    refine State.routedCount_of_same (fun j => ?_) rfl
    rw [State.outlet_setOutlet]
    split
    next here => rw [here, counts]
    next => rfl
  rw [commit_still (t := s.setOutlet k o) records rfl (State.members_setOutlet expected content)
    fun l => State.drainComplete_of_same lanes rfl (routed l), fullReasons_of_one fun j other => ?_]
  rw [State.outlet_setOutlet_ne _ _ other]
  exact OutletEntry.not_filled rfl (Nat.le_refl _)

theorem commit_setOutlet (law : s.orderly) (expected : o.expected = (s.outlet k).expected)
    (content : o.content = (s.outlet k).content) (counts : ∀ l, o.reservedOn l = (s.outlet k).reservedOn l) :
    commit s (s.setOutlet k o) [] = (s.setOutlet k o).noteReasons (filled s (s.setOutlet k o) k) :=
  commit_setOutlet_noting law expected content counts []

/-- R117: the completion is the change alone where the outlet does not become FULL. -/
theorem commit_setOutlet_quiet (law : s.orderly) (expected : o.expected = (s.outlet k).expected)
    (content : o.content = (s.outlet k).content) (counts : ∀ l, o.reservedOn l = (s.outlet k).reservedOn l)
    (unfilled : ¬((s.outlet k).state = .opened ∧ o.state = .full)) :
    commit s (s.setOutlet k o) [] = s.setOutlet k o := by
  rw [commit_setOutlet law expected content counts, filled, State.outlet_setOutlet_self, if_neg unfilled]
  exact State.noteReasons_nil law.2.2

/-- R25: the number of a defined outlet's derived state. -/
theorem outletStateWord_eq {d : OutletDefinition} (defined : o.definition = some d) :
    word (outletStateNumber o.state) =
      if o.clearing.isSome then 2 else if o.closed then 3 else if d.capacity ≤ o.load then 4 else 5 := by
  unfold OutletEntry.state OutletEntry.stateWithLoad
  rw [defined]
  dsimp only
  split
  · rfl
  · split
    · rfl
    · split <;> rfl

/-- R42 to R44: a defined outlet's entry is changed, and the answer carries its derived state. -/
theorem changeOutlet_eq (f : OutletEntry → OutletDefinition → OutletEntry) {d : OutletDefinition}
    (defined : (s.outlet k).definition = some d) {t : State}
    (completes : commit s (s.setOutlet k (f (s.outlet k) d)) [] = t)
    (entry : t.outlet k = f (s.outlet k) d) :
    changeOutlet s k f = some (t, .ok, [word (outletStateNumber (f (s.outlet k) d).state)]) := by
  simp only [changeOutlet, defined, completes, outletOk, entry]

/-- R42 to R44: an outlet that is not defined refuses a change. -/
theorem changeOutlet_undefined (f : OutletEntry → OutletDefinition → OutletEntry) (none_ : (s.outlet k).definition = none) :
    changeOutlet s k f = some (s, .wrongState, []) := by
  simp only [changeOutlet, none_]

theorem closeOutletStep_eq : closeOutletStep s (.closeOutlet k) = changeOutlet s k fun o _ => { o with closed := true } :=
  rfl

theorem openOutletStep_eq : openOutletStep s (.openOutlet k) = changeOutlet s k fun o _ => { o with closed := false } :=
  rfl

theorem setCapacityStep_eq (n : Nat) :
    setCapacityStep s (.setCapacity k n) =
      changeOutlet s k fun o d => { o with definition := some { d with capacity := n } } := rfl

end

/-- Settles O29: the field that each command changes, and the FULL reason of a lowered capacity. -/
theorem outletFieldsAreSet : Obligations.OutletFieldsAreSet := by
  unfold Obligations.OutletFieldsAreSet
  intro s f k law o
  refine ⟨?_, fun d defined => ⟨fun steps => ?_, fun steps => ?_, fun n steps => ?_⟩⟩
  · rintro i c (⟨rfl, rfl⟩ | ⟨rfl, rfl⟩ | ⟨rfl, n, rfl⟩) none_ steps
    · exact singleStep_next steps (closeOutletStep_eq.trans (changeOutlet_undefined _ none_))
    · exact singleStep_next steps (openOutletStep_eq.trans (changeOutlet_undefined _ none_))
    · exact singleStep_next steps ((setCapacityStep_eq n).trans (changeOutlet_undefined _ none_))
  · have completes := commit_setOutlet_quiet (k := k) (o := { o with closed := true }) law rfl rfl
      (fun l => OutletEntry.reservedOn_congr l rfl rfl) (OutletEntry.not_filled rfl (Nat.le_refl _))
    have does : closeOutletStep s (.closeOutlet k) = some (s.setOutlet k { o with closed := true }, .ok,
        [word (outletStateNumber ({ o with closed := true } : OutletEntry).state)]) :=
      closeOutletStep_eq.trans (changeOutlet_eq _ defined completes (by simp [o]))
    refine (singleStep_next steps does).trans ?_
    rw [outletStateWord_eq (o := { o with closed := true }) (d := d) (by exact defined)]
    rfl
  · have completes := commit_setOutlet_quiet (k := k) (o := { o with closed := false }) law rfl rfl
      (fun l => OutletEntry.reservedOn_congr l rfl rfl) (OutletEntry.not_filled rfl (Nat.le_refl _))
    have does : openOutletStep s (.openOutlet k) = some (s.setOutlet k { o with closed := false }, .ok,
        [word (outletStateNumber ({ o with closed := false } : OutletEntry).state)]) :=
      openOutletStep_eq.trans (changeOutlet_eq _ defined completes (by simp [o]))
    refine (singleStep_next steps does).trans ?_
    rw [outletStateWord_eq (o := { o with closed := false }) (d := d) (by exact defined)]
    rfl
  · intro es
    let new : OutletEntry := { o with definition := some { lane := d.lane, capacity := n } }
    have counts : ∀ l, new.reservedOn l = (s.outlet k).reservedOn l := fun l => by
      simp [new, OutletEntry.reservedOn, OutletEntry.definedOn_eq, defined, o]
    have completes := commit_setOutlet (k := k) (o := new) law rfl rfl counts
    have does : setCapacityStep s (.setCapacity k n) =
        some ((s.setOutlet k new).noteReasons (filled s (s.setOutlet k new) k), .ok,
          [word (outletStateNumber new.state)]) :=
      (setCapacityStep_eq n).trans (changeOutlet_eq _ defined completes
        (by rw [State.noteReasons_outlet, State.outlet_setOutlet_self]))
    have fills : ((s.outlet k).state = .opened ∧ ((s.setOutlet k new).outlet k).state = .full) ↔
        o.clearing = none ∧ o.closed = false ∧ o.reserved + o.held + o.foreign < d.capacity ∧
          n ≤ o.reserved + o.held + o.foreign := by
      rw [State.outlet_setOutlet_self, OutletEntry.state_eq_opened_iff, OutletEntry.state_eq_full_iff, defined]
      simp only [Option.some.injEq, exists_eq_left', new]
      show (o.clearing = none ∧ o.closed = false ∧ o.load < d.capacity) ∧ o.clearing = none ∧ o.closed = false ∧ n ≤ o.load ↔ _
      unfold OutletEntry.load
      tauto
    have list : withReasons s.store.attention (filled s (s.setOutlet k new) k) = es := by
      simp only [filled, fills, es]
      split <;> rfl
    refine (singleStep_next steps does).trans ?_
    rw [outletStateWord_eq (o := new) rfl, State.noteReasons_eq]
    rw [State.setOutlet_attention, list]
    rfl

/-! ### Defining outlets -/

theorem OutletEntry.isEmpty_iff (o : OutletEntry) :
    o.isEmpty = false ↔ o.expected ≠ [] ∨ o.content ≠ [] ∨ o.foreign ≠ 0 := by
  rw [← Bool.not_eq_true]
  simp only [OutletEntry.isEmpty, Bool.and_eq_true, List.isEmpty_iff, decide_eq_true_eq]
  tauto

/-- Settles O30: the entry of an outlet that holds nothing is replaced. -/
theorem outletsAreDefinedAndUndefined : Obligations.OutletsAreDefinedAndUndefined := by
  unfold Obligations.OutletsAreDefinedAndUndefined
  intro s f k law lists o holds
  have full : o.isEmpty = false ↔ holds := o.isEmpty_iff
  -- an outlet that holds nothing counts toward no lane's routed count
  have unreserved (none_ : ¬holds) : o.expected = [] ∧ o.content = [] ∧ ∀ l, o.reservedOn l = 0 := by
    obtain ⟨expected, rest⟩ := not_or.mp none_
    have empty : o.expected = [] := not_not.mp expected
    have zero : o.reserved = 0 := (lists.1 k).1.trans (List.length_eq_zero_iff.mpr empty)
    exact ⟨empty, not_not.mp (not_or.mp rest).1, OutletEntry.reservedOn_of_zero zero⟩
  refine ⟨fun l capacity some_ steps => ⟨fun defined held => ?_, fun none_ => ?_⟩, fun steps => ⟨fun undefined => ?_,
    fun defined held => ?_, fun defined none_ => ?_⟩⟩
  · have does : defineOutletStep s (.defineOutlet k l capacity) = some (s, .outletNotEmpty, []) :=
      if_pos ⟨defined, full.mpr held⟩
    exact singleStep_next steps does
  · obtain ⟨expected, content, counts⟩ := unreserved none_
    have open_ : (o.define l capacity).state ≠ .full := by
      rw [Ne, OutletEntry.state_eq_full_iff]
      simp [OutletEntry.define, OutletEntry.load]
      omega
    have completes := commit_setOutlet_quiet (k := k) (o := o.define l capacity) law expected.symm content.symm
      (fun j => (OutletEntry.reservedOn_of_zero rfl j).trans (counts j).symm) fun h => open_ h.2
    have does : defineOutletStep s (.defineOutlet k l capacity) =
        some (s.setOutlet k (o.define l capacity), .ok, [word (outletStateNumber (o.define l capacity).state)]) := by
      refine (if_neg fun h => none_ (full.mp h.2)).trans ?_
      show outletOk (commit s (s.setOutlet k (o.define l capacity)) []) k = _
      rw [completes, outletOk, State.outlet_setOutlet_self]
    refine (singleStep_next steps does).trans ?_
    have below : ¬capacity ≤ (o.define l capacity).load := by
      show ¬capacity ≤ 0
      omega
    rw [outletStateWord_eq (o := o.define l capacity) rfl, if_neg below]
    rfl
  · have does : undefineOutletStep s (.undefineOutlet k) = some (s, .wrongState, []) := if_pos undefined
    exact singleStep_next steps does
  · have does : undefineOutletStep s (.undefineOutlet k) = some (s, .outletNotEmpty, []) :=
      (if_neg (Option.isSome_iff_ne_none.mp defined)).trans (if_pos (full.mpr held))
    exact singleStep_next steps does
  · obtain ⟨expected, content, counts⟩ := unreserved none_
    have completes := commit_setOutlet_quiet (k := k) (o := OutletEntry.reset) law expected.symm content.symm
      (fun j => (OutletEntry.reservedOn_of_zero rfl j).trans (counts j).symm)
      fun h => nomatch h.2
    have does : undefineOutletStep s (.undefineOutlet k) = some (s.setOutlet k OutletEntry.reset, .ok, []) := by
      refine (if_neg (Option.isSome_iff_ne_none.mp defined)).trans ((if_neg fun h => none_ (full.mp h)).trans ?_)
      rw [completes]
    exact singleStep_next steps does

end Sys2Proof.Machine
end

section
/-!
PROOF. Obligation O31: the creation of a record from the host (R3, R4, R12, R13, R133).
-/
namespace Sys2Proof.Machine

section
variable {s : State}

theorem State.freeFrom_none {n fuel : Nat} (none_ : s.freeFrom n fuel = none) {k : Nat} (from_ : n ≤ k) (below : k < n + fuel) :
    s.slotInUse k = true := by
  induction fuel generalizing n with
  | zero => omega
  | succ fuel ih =>
    unfold State.freeFrom at none_
    split at none_
    next used =>
      by_cases here : k = n
      · rwa [here]
      · exact ih none_ (by omega) (by omega)
    next => cases none_

/-- R3: among the first numbers, one more than there are records, one is no slot in use. -/
theorem State.freeFrom_zero_ne_none : s.freeFrom 0 (s.store.records.length + 1) ≠ none := by
  intro none_
  have used : List.range (s.store.records.length + 1) ⊆ s.store.records.map (·.ref.slot) := fun n mem => by
    have inUse := State.freeFrom_none none_ (Nat.zero_le n) (by simpa using mem)
    simpa using (s.slotInUse_iff n).mp inUse
  have fits := (List.subperm_of_subset List.nodup_range used).length_le
  simp at fits

/-- R3: no slot is found only when every slot is in use. -/
theorem State.lowestFreeSlot_none (none_ : s.lowestFreeSlot = none) {n : Nat} (small : n < 8192) :
    ∃ r ∈ s.store.records, r.ref.slot = n := by
  unfold State.lowestFreeSlot at none_
  split at none_
  next m found =>
    split at none_
    · cases none_
    next large =>
      obtain ⟨-, -, used⟩ := s.freeFrom_spec _ _ _ found
      have large : ¬m < 8192 := large
      exact (s.slotInUse_iff n).mp (used n (Nat.zero_le _) (by omega))
  next found => exact absurd found State.freeFrom_zero_ne_none

/-- R3: the lowest free slot is the one that is found. -/
theorem State.lowestFreeSlot_eq {slot : Nat} (small : slot < 8192)
    (free : ∀ r ∈ s.store.records, r.ref.slot ≠ slot)
    (lowest : ∀ n, n < slot → ∃ r ∈ s.store.records, r.ref.slot = n) : s.lowestFreeSlot = some slot := by
  cases found : s.lowestFreeSlot with
  | none =>
    obtain ⟨r, mem, is⟩ := State.lowestFreeSlot_none found small
    exact absurd is (free r mem)
  | some m =>
    obtain ⟨-, freeM, lowestM⟩ := s.lowestFreeSlot_some m found
    rcases Nat.lt_trichotomy m slot with below | rfl | above
    · obtain ⟨r, mem, is⟩ := lowest m below
      exact absurd is (freeM r mem)
    · rfl
    · obtain ⟨r, mem, is⟩ := lowestM slot above
      exact absurd is (free r mem)

/-- R3: no slot is found when none is free. -/
theorem State.lowestFreeSlot_full (full : ∀ n, n < 8192 → ∃ r ∈ s.store.records, r.ref.slot = n) :
    s.lowestFreeSlot = none := by
  cases found : s.lowestFreeSlot with
  | none => rfl
  | some m =>
    obtain ⟨small, free, -⟩ := s.lowestFreeSlot_some m found
    obtain ⟨r, mem, is⟩ := full m small
    exact absurd is (free r mem)

/-! ### The created record -/

section
variable {slot : Nat} {o : Origin} {d : ItemDefinition}

theorem insertRecord_find? {r : ItemRecord} {rs : List ItemRecord} {x : Ref} (other : r.ref ≠ x) :
    (insertRecord r rs).find? (fun q => decide (q.ref = x)) = rs.find? fun q => decide (q.ref = x) := by
  induction rs with
  | nil => simp [insertRecord, other]
  | cons q qs ih =>
    unfold insertRecord
    split
    · simp [other]
    · rw [List.find?_cons, List.find?_cons, ih]

/-- R3: a record that was found is found after a creation. -/
theorem State.record?_createRecord {x : Ref} (other : x.slot ≠ slot) : (s.createRecord slot o d).record? x = s.record? x :=
  insertRecord_find? fun e => other (e ▸ rfl)

/-- R3: the new record has a slot and serial that designated none. -/
theorem State.record?_of_free_slot (free : ∀ r ∈ s.store.records, r.ref.slot ≠ slot) {x : Ref} (new : x.slot = slot) :
    s.record? x = none := by
  rw [← Option.not_isSome_iff_eq_none]
  intro found
  obtain ⟨r, is⟩ := Option.isSome_iff_exists.mp found
  obtain ⟨mem, ref⟩ := s.record?_some is
  exact free r mem (ref ▸ new)

/-- R137: a creation takes no record out of a view. -/
theorem State.members_createRecord (free : ∀ r ∈ s.store.records, r.ref.slot ≠ slot) (v : View) (x : Ref)
    (mem : x ∈ s.members v) : x ∈ (s.createRecord slot o d).members v := by
  have index {x : Ref} (mem : x ∈ s.store.keyIndex.map (·.ref)) :
      x ∈ (s.createRecord slot o d).store.keyIndex.map (·.ref) := by
    obtain ⟨e, stands, rfl⟩ := List.mem_map.mp mem
    exact List.mem_map_of_mem (mem_insertIndex.mpr (.inr stands))
  cases v with
  | key => exact index mem
  | state k =>
    obtain ⟨stands, state⟩ := List.mem_filter.mp mem
    refine List.mem_filter.mpr ⟨index stands, ?_⟩
    have other : x.slot ≠ slot := fun new => by
      simp [State.isInState, State.record?_of_free_slot free new] at state
    rwa [State.isInState, State.record?_createRecord other]
  | expected k => exact mem
  | expectedBin l => exact mem
  | content k => exact mem

/-- R9: a creation advances no revision. -/
theorem advanceRevisions_createRecord (law : s.recordsLaw) (free : ∀ r ∈ s.store.records, r.ref.slot ≠ slot) :
    State.advanceRevisions s (s.createRecord slot o d) = s.createRecord slot o d := by
  have same : (s.createRecord slot o d).store.records.map (revised s) = (s.createRecord slot o d).store.records := by
    conv_rhs => rw [← List.map_id (s.createRecord slot o d).store.records]
    refine List.map_congr_left fun q mem => ?_
    rcases mem_insertRecord.mp mem with rfl | old
    · exact revised_of_new (State.record?_of_free_slot free (by rfl))
    · exact revised_self (s.record?_of_mem law old)
  rw [State.advanceRevisions, same]
  rfl

/-- R13: the completion of a creation is the creation. -/
theorem commit_createRecord (law : s.orderly) (free : ∀ r ∈ s.store.records, r.ref.slot ≠ slot) :
    commit s (s.createRecord slot o d) [] = s.createRecord slot o d := by
  obtain ⟨records, lanes, lines⟩ := law
  rw [commit_stay (State.members_createRecord free) fun l => State.drainComplete_of_same lanes rfl rfl,
    advanceRevisions_createRecord records free, List.nil_append,
    fullReasons_of_same (s := s) (t := s.createRecord slot o d) fun k => rfl]
  exact State.noteReasons_nil lines

end

end

/-! ### CREATE ITEM and LOAD MANIFEST -/

/-- R12, R13, R133: what the creation of one item comes to for the two commands that create. -/
theorem createItem_outcomes {s t : State} {f : InFlight} {d : ItemDefinition} {o : ManifestOutcome}
    (created : s.createItem d = (o, t)) :
    (s.hostSteps f (.createItem d) →
      exec (.createItem .step) s = .next (t.completeHostStep f (.done (createResponse o).1 (createResponse o).2))) ∧
    ∀ items, s.hostSteps f (.loadManifest items) → items[f.progress.outcomes.length]? = some d →
      exec .loadManifestItemStep s = .next (t.completeHostStep f (manifestResult f items o)) := by
  refine ⟨fun steps => ?_, fun items steps item => ?_⟩
  · have does : createItemStep s (.createItem d) = some (t, (createResponse o).1, (createResponse o).2) := by
      simp only [createItemStep, created]
    exact singleStep_next steps does
  · have command : f.command = .loadManifest items := steps.2.2.2
    have does : s.loadManifestItem = t.completeHostStep f (manifestResult f items o) := by
      simp only [State.loadManifestItem, s.steppingCommand_of_hostSteps f _ steps, command, item, created]
    exact congrArg Host.Outcome.next does

/-- Settles O31: the three outcomes of a creation. -/
theorem creationTakesTheLowestFreeSlot : Obligations.CreationTakesTheLowestFreeSlot := by
  unfold Obligations.CreationTakesTheLowestFreeSlot
  intro s f d law free outcome
  have settles (o : ManifestOutcome) (t : State) (created : s.createItem d = (o, t)) : outcome o t := by
    obtain ⟨single, manifest⟩ := createItem_outcomes (f := f) created
    refine ⟨fun steps => (single steps).trans ?_, fun items steps item => (manifest items steps item).trans ?_⟩
    · cases o <;> rfl
    · rw [manifestResult, List.length_append]
      rfl
  refine ⟨fun known => settles .existing s ?_, fun unknown full => settles .full s ?_,
    fun slot unknown isFree lowest => settles (.created _) (s.createRecord slot .manifest d) ?_⟩
  · obtain ⟨r, found⟩ := Option.isSome_iff_exists.mp known
    simp only [State.createItem, found]
  · have none_ : s.lowestFreeSlot = none := State.lowestFreeSlot_full fun n small => by
      by_contra absent
      exact full n ⟨small, fun r mem is => absent ⟨r, mem, is⟩⟩
    simp only [State.createItem, unknown, none_]
  · have found : s.lowestFreeSlot = some slot := State.lowestFreeSlot_eq isFree.1 isFree.2 fun n below => by
      by_contra absent
      exact lowest n below ⟨by have := isFree.1; omega, fun r mem is => absent ⟨r, mem, is⟩⟩
    simp only [State.createItem, unknown, found, commit_createRecord law isFree.2]

end Sys2Proof.Machine
end

section
/-!
SUPPORT. A step that changes one record in its fields, and selection in a state with the same outlets and groups.
-/
namespace Sys2Proof.Machine

section
variable {s t : State}

/-! ### One record changed in its fields -/

/-- The state with one record replaced. -/
def State.withRecord (s : State) (ref : Ref) (new : ItemRecord) : State :=
  s.setRecords (s.store.records.map fun q => if q.ref = ref then new else q)

theorem State.record?_withRecord {ref : Ref} {r new : ItemRecord} (found : s.record? ref = some r) (same : new.ref = ref) :
    (s.withRecord ref new).record? ref = some new := by
  obtain ⟨-, is⟩ := s.record?_some found
  rw [State.record?_of_map (s := s) (g := fun q => if q.ref = ref then new else q) rfl, found, Option.map_some, if_pos is]
  intro q
  split
  next here => rw [same, here]
  next => rfl

/-- R3: a change made on every record of a slot and serial is made on the one record that has them. -/
theorem State.updateRecord_eq (law : s.recordsLaw) {r : ItemRecord} (found : s.record? r.ref = some r)
    (f : ItemRecord → ItemRecord) : s.updateRecord r.ref f = s.withRecord r.ref (f r) := by
  unfold State.updateRecord State.withRecord
  congr 1
  refine List.map_congr_left fun q mem => ?_
  split
  next here =>
    have same : q = r := Option.some.inj ((s.record?_of_mem law mem).symm.trans (here ▸ found))
    rw [same]
  next => rfl

/-- R9, R117: the completion of a step that changes one record in its fields, keeping its state's kind, and neither a
view nor a lane state. -/
theorem commit_withRecord {a : State} {r new : ItemRecord} (law : s.orderly) (found : s.record? r.ref = some r)
    (ref : new.ref = r.ref) (kind : stateKind new.state = stateKind r.state)
    (records : a.store.records = (s.withRecord r.ref new).store.records) (keyIndex : a.store.keyIndex = s.store.keyIndex)
    (outlets : a.store.outlets = s.store.outlets) (bins : a.store.bins = s.store.bins)
    (states : ∀ l, (a.lane l).state = (s.lane l).state) (xs : List (Subject × Reason)) :
    commit s a xs =
      (a.setRecords (s.withRecord r.ref (revised s new)).store.records).noteReasons xs := by
  obtain ⟨recordsLaw, lanes, -⟩ := law
  have outlet (k : OutletId) : a.outlet k = s.outlet k := by simp only [State.outlet, outlets]
  have members := State.members_of_map (s := s) (t := a) (g := fun q => if q.ref = r.ref then new else q) records
    (fun q => by
      split
      next here => rw [ref, here]
      next => rfl)
    (fun q mem => by
      split
      next here => rw [kind, Option.some.inj ((s.record?_of_mem recordsLaw mem).symm.trans (here ▸ found))]
      next => rfl)
    keyIndex outlets bins
  have count (l : Lane) : a.routedCount l = s.routedCount l :=
    State.routedCount_of_same (fun k => by rw [outlet]) (by simp only [State.bin, bins])
  have revisions : a.store.records.map (revised s) = (s.withRecord r.ref (revised s new)).store.records := by
    rw [records, State.withRecord, State.withRecord, State.setRecords_records, State.setRecords_records, List.map_map]
    refine List.map_congr_left fun q mem => ?_
    simp only [Function.comp]
    split
    · rfl
    · exact revised_self (s.record?_of_mem recordsLaw mem)
  rw [commit_stay (fun v x mem => (members v).symm ▸ mem) fun l => State.drainComplete_of_same lanes (states l) (count l),
    State.advanceRevisions, revisions, fullReasons_of_same outlet, List.append_nil]

/-- R2, R11: a record changed in its fields and then in its state, in a state with the records and counts of `s`. -/
theorem State.changeState_updateRecord (law : s.recordsLaw) {r : ItemRecord} (found : s.record? r.ref = some r)
    (records : t.store.records = s.store.records) (counts : t.store.counts = s.store.counts)
    {f : ItemRecord → ItemRecord} (keeps : ∀ q, (f q).ref = q.ref ∧ (f q).state = q.state) (new : ItemState) :
    let a := (t.updateRecord r.ref f).changeState r.ref new
    a.store.records = (s.withRecord r.ref { f r with state := new }).store.records ∧
      a.store.counts = s.store.counts.move (stateKind r.state) (stateKind new) := by
  have same : t.record? r.ref = some r := by rw [State.record?, records]; exact found
  have there := State.record?_updateRecord (fun q => (keeps q).1) same
  have changed : (t.updateRecord r.ref f).store.records = (s.withRecord r.ref (f r)).store.records := by
    rw [State.updateRecord_records, records]
    exact congrArg (fun u : State => u.store.records) (State.updateRecord_eq law found f)
  rw [State.changeState_spec _ _ _ _ there]
  refine ⟨?_, by rw [State.updateRecord_counts, counts, (keeps r).2]⟩
  show (t.updateRecord r.ref f).store.records.map _ = _
  rw [changed, State.withRecord, State.withRecord, State.setRecords_records, State.setRecords_records, List.map_map]
  refine List.map_congr_left fun q _ => ?_
  by_cases here : q.ref = r.ref
  · simp only [Function.comp, if_pos here, (keeps r).1, if_true]
  · simp only [Function.comp, if_neg here]

/-! ### Selection -/

/-- The state with other groups. -/
def State.withGroups (s : State) (groups : Vector GroupEntry 15) : State := s.setStore { s.store with groups := groups }

/-- R36 to R38: a group's choice reads the outlets and the groups alone. -/
theorem State.choose_of_same (outlets : t.store.outlets = s.store.outlets) (groups : t.store.groups = s.store.groups)
    (g : GroupId) (l : Lane) (given : Option OutletId) :
    t.choose g l given = (s.choose g l given).map fun x => (x.1, t.withGroups x.2.store.groups) := by
  have outlet (k : OutletId) : t.outlet k = s.outlet k := by simp only [State.outlet, outlets]
  have group (g : GroupId) : t.group g = s.group g := by simp only [State.group, groups]
  have load (k : OutletId) : t.loadSeen given k = s.loadSeen given k := by rw [State.loadSeen, State.loadSeen, outlet]
  have candidates : t.candidates g l given = s.candidates g l given :=
    List.filter_congr fun k _ => by rw [group, outlet, load]
  have kept : t.withGroups s.store.groups = t := by rw [← groups]; rfl
  have moved (e : GroupEntry) : t.withGroups (s.setGroup g e).store.groups = t.setGroup g e := by
    rw [State.setGroup_groups, ← groups]
    rfl
  cases policy : (s.group g).policy with
  | first =>
    rw [State.choose_of_first l given policy, State.choose_of_first l given ((group g).symm ▸ policy), candidates,
      Option.map_map]
    simp only [Function.comp_def, kept]
  | least =>
    rw [State.choose_of_least l given policy, State.choose_of_least l given ((group g).symm ▸ policy), candidates,
      funext load, Option.map_map]
    simp only [Function.comp_def, kept]
  | rotate =>
    rw [State.choose_of_rotate l given policy, State.choose_of_rotate l given ((group g).symm ▸ policy), candidates,
      group, Option.map_map]
    simp only [Function.comp_def, moved]

/-- R35, R39: selection reads the outlets and the groups alone. -/
theorem State.select_of_same (outlets : t.store.outlets = s.store.outlets) (groups : t.store.groups = s.store.groups)
    (l : Lane) (g : Destination) (given : Option OutletId) :
    t.select l g given =
      ((s.select l g given).1, (s.select l g given).2.1, t.withGroups (s.select l g given).2.2.store.groups) := by
  have group (g : GroupId) : t.group g = s.group g := by simp only [State.group, groups]
  have kept : t.withGroups s.store.groups = t := by rw [← groups]; rfl
  unfold State.select
  cases destinationGroup g with
  | none => simp only [kept]
  | some e =>
    simp only [State.choose_of_same outlets groups, group]
    cases s.choose e l given with
    | some x => rfl
    | none =>
      cases (s.group e).overflow with
      | none => simp only [Option.map_none, kept]
      | some h =>
        dsimp only
        cases s.choose h l given with
        | some x => rfl
        | none => simp only [Option.map_none, kept]

end

end Sys2Proof.Machine
end

section
/-!
PROOF. Obligations O32 to O34: AMEND ITEM and RESTORE ITEM (R16 to R18, R85 to R87).
-/
namespace Sys2Proof.Machine

/-! ### The named changes (R17) -/

/-- R17: of the changes that name a field the last one counts. -/
theorem applyChanges_eq (cs : List Change) (r : ItemRecord) :
    applyChanges cs r =
      { r with
        destination := (cs.reverse.findSome? fun c => match c with
          | .destination g => some g
          | _ => none).getD r.destination
        hold := (cs.reverse.findSome? fun c => match c with
          | .setHold n => some (some n)
          | .clearHold => some none
          | _ => none).getD r.hold
        hostTag := (cs.reverse.findSome? fun c => match c with
          | .setTag tag => some (some tag)
          | .clearTag => some none
          | _ => none).getD r.hostTag } := by
  induction cs using List.reverseRecOn with
  | nil => rfl
  | append_singleton cs c ih =>
    have last : applyChanges (cs ++ [c]) r = applyChange (applyChanges cs r) c := List.foldl_append
    rw [last, ih, List.reverse_concat]
    cases c <;> rfl

theorem applyChanges_revision (cs : List Change) (r : ItemRecord) : (applyChanges cs r).revision = r.revision := by
  rw [applyChanges_eq]

section
variable {s t : State} {r new : ItemRecord}

/-- R9: the record as the completion of a step that has only named changes to it leaves it. -/
theorem revised_applyChanges (found : s.record? r.ref = some r) (cs : List Change) :
    revised s (applyChanges cs r) =
      if applyChanges cs r = r then r else { applyChanges cs r with revision := r.revision + 1 } := by
  have ref := (applyChanges_keeps cs r).1
  have revision : { applyChanges cs r with revision := r.revision } = applyChanges cs r := by
    rw [← applyChanges_revision cs r]
  split
  next same => rw [same]; exact revised_self found
  next changed => exact revised_of_changed (ref.symm ▸ found) (revision.symm ▸ changed)

/-- R17: the answer carries the revision that the record has at the completion. -/
theorem amendOk_eq (found : s.record? r.ref = some r) (same : new.ref = r.ref)
    (records : t.store.records = (s.withRecord r.ref new).store.records) (note : Word) (target : Option Place) :
    amendOk t r.ref note target =
      some (t, .ok, [new.revision, note] ++ (target.map fun p => word (placeNumber p)).toList) := by
  have there : t.record? r.ref = some new := by
    rw [State.record?, records]
    exact State.record?_withRecord found same
  rw [amendOk, State.revisionOf, there]

/-- R17: the completion of a step that has only named changes to a record. -/
theorem commit_applyChanges (law : s.orderly) (found : s.record? r.ref = some r) (cs : List Change) :
    commit s (s.updateRecord r.ref (applyChanges cs)) [] = s.withRecord r.ref (revised s (applyChanges cs r)) := by
  obtain ⟨ref, -, state, -⟩ := applyChanges_keeps cs r
  rw [State.updateRecord_eq law.1 found, commit_withRecord law found ref (by rw [state]) rfl rfl rfl rfl fun l => rfl]
  exact State.noteReasons_nil law.2.2

end

/-- R16: the guard of an amendment lets it pass. -/
theorem guard_passes {a : Amendment} {revision : BitVec 16} (passes : ∀ v, a.guardRevision = some v → v = revision) :
    ¬(a.guardRevision.isSome ∧ a.guardRevision ≠ some revision) := by
  rintro ⟨given, differs⟩
  obtain ⟨v, is⟩ := Option.isSome_iff_exists.mp given
  exact differs (is.trans (congrArg some (passes v is)))

/-- Settles O32: the refusals of AMEND ITEM in their order, and the changes that weigh no redirection. -/
theorem amendChangesTheNamedFields : Obligations.AmendChangesTheNamedFields := by
  unfold Obligations.AmendChangesTheNamedFields
  intro s f a law steps
  refine ⟨fun none_ => singleStep_next steps (by simp only [amendItemStep, none_]), fun r designated =>
    ⟨fun v guard differs => ?_, fun passes => ⟨fun pending => ?_, ?_⟩⟩⟩
  · have stale : a.guardRevision.isSome ∧ a.guardRevision ≠ some r.revision :=
      ⟨by rw [guard]; rfl, by rw [guard]; exact fun e => differs (Option.some.inj e)⟩
    exact singleStep_next steps (by simp only [amendItemStep, designated, if_pos stale])
  · have does : amendItemStep s (.amendItem a) = some (s, .revisePending, []) := by
      simp only [amendItemStep, designated, if_neg (guard_passes passes)]
      cases state : r.state with
      | routed p n target =>
        cases target with
        | some q => rfl
        | none => simp [state, pendingField] at pending
      | _ => simp [state, pendingField] at pending
    exact singleStep_next steps does
  · intro r1 settled_ light r2
    have found := State.record?_of_designated? designated
    have changed : applyChanges a.changes r = r1 := applyChanges_eq a.changes r
    have ref : (revised s r1).ref = r.ref := (revised_keeps s r1).1.trans rfl
    have answers : amendOk (commit s (s.updateRecord r.ref (applyChanges a.changes)) []) r.ref 0 none =
        some (s.withRecord r.ref (revised s r1), .ok, [(revised s r1).revision, 0]) := by
      rw [commit_applyChanges law found, changed, amendOk_eq found ref rfl]
      rfl
    have does : amendItemStep s (.amendItem a) =
        some (s.withRecord r.ref (revised s r1), .ok, [(revised s r1).revision, 0]) := by
      simp only [amendItemStep, designated, if_neg (guard_passes passes)]
      cases state : r.state with
      | routed p n target =>
        obtain rfl : target = none := by simpa [state, pendingField] using settled_
        rcases light with elsewhere | ⟨destination, hold⟩
        · simp [state, stateKind] at elsewhere
        · have weighs : weighsRedirection r (applyChanges a.changes r) = false := by
            simp [changed, weighsRedirection, destination, hold]
          simp only [amendRouted, weighs]
          cases r.lane <;> exact answers
      | _ => exact answers
    have record : revised s r1 = r2 := by
      simp only [r2, ← changed]
      exact revised_applyChanges found a.changes
    rw [record] at does
    exact singleStep_next steps does

/-! ### Redirection (R86, R87) -/

/-- R87: a REVISE that begins to be sent gives up its place to a ninth. -/
theorem LaneUnit.roomForRevise_eq (u : LaneUnit) :
    let full : Bool := u.sending && (u.outbound.head?.bind Message.reviseOrdinal).isSome &&
      decide (8 ≤ u.outbound.countP fun m => m.reviseOrdinal.isSome)
    u.roomForRevise =
      { u with
        outbound := if full then u.outbound.drop 1 else u.outbound
        sending := u.sending && !full
        finishing := if full then u.outbound.head? else u.finishing } := by
  intro full
  have first : u.beingSent.any (fun m => m.reviseOrdinal.isSome) =
      (u.sending && (u.outbound.head?.bind Message.reviseOrdinal).isSome) := by
    unfold LaneUnit.beingSent
    cases u.sending <;> cases u.outbound <;> simp
  have isFull : (u.beingSent.any (fun m => m.reviseOrdinal.isSome) = true ∧
      Config.reviseLimit ≤ u.outbound.countP fun m => m.reviseOrdinal.isSome) ↔ full = true := by
    rw [first]
    simp [full, Config.reviseLimit]
  unfold LaneUnit.roomForRevise
  by_cases h : full = true
  · have sending : u.sending = true := by simp [full] at h; exact h.1.1
    rw [if_pos (isFull.mpr h)]
    simp [h, LaneUnit.unsent, sending]
  · rw [if_neg (isFull.not.mpr h)]
    simp [h]

section
variable {s t : State} {r r1 : ItemRecord} {l : Lane} {assigned : Place}

/-- R86: the place of an outlet that the selection takes as given up. -/
theorem placeOutlet_eq (p : Place) :
    placeOutlet p = match p with
      | .bin => none
      | .outlet k => some k := by
  cases p <;> rfl

/-- R86: the redirection selection, in a state that differs from `s` in its records alone. -/
theorem State.redirect_eq (outlets : t.store.outlets = s.store.outlets) (groups : t.store.groups = s.store.groups)
    (lane : t.lane l = s.lane l) :
    let u := s.lane l
    let selected := s.select l (if r1.hold.isSome then u.holdGroup else r1.destination) (placeOutlet assigned)
    t.redirect l r1 assigned =
      (if u.lapLimit ≤ r1.laps then .bin else selected.1,
        t.withGroups (if u.lapLimit ≤ r1.laps then s else selected.2.2).store.groups) := by
  have kept : t.withGroups s.store.groups = t := by rw [← groups]; rfl
  intro u selected
  simp only [State.redirect, chooseGroup, lane]
  by_cases atLimit : (s.lane l).lapLimit ≤ r1.laps
  · simp only [u, if_pos atLimit, kept]
  · have chosen := State.select_of_same outlets groups l (if r1.hold.isSome then u.holdGroup else r1.destination)
      (placeOutlet assigned)
    simp only [u, selected, if_neg atLimit]
    cases hold : r1.hold with
    | none => simp only [hold, Option.isSome_none, Bool.false_eq_true, if_false] at chosen ⊢; rw [chosen]
    | some n => simp only [hold, Option.isSome_some, if_true] at chosen ⊢; rw [chosen]

end

end Sys2Proof.Machine
end

section
/-!
PROOF. Obligations O33 and O34: AMEND ITEM of a ROUTED record and RESTORE ITEM (R18, R85 to R87).
-/
namespace Sys2Proof.Machine

section
variable {s a : State} {r new : ItemRecord} {l : Lane} {assigned target : Place} {ordinal : Word32}

/-- R87: the lane unit that issues a revision, room made for its REVISE. -/
theorem LaneUnit.issueRevise_eq (u : LaneUnit) (ref : Ref) (expiry : Word32) :
    let full : Bool := u.sending && (u.outbound.head?.bind Message.reviseOrdinal).isSome &&
      decide (8 ≤ u.outbound.countP fun m => m.reviseOrdinal.isSome)
    u.issueRevise ref ordinal target expiry =
      { u with
        pendingCount := u.pendingCount + 1
        reviseEntries := u.reviseEntries ++
          [{ ref := ref, ordinal := ordinal, target := target, expiry := expiry, condition := .waiting }]
        outbound := (if full then u.outbound.drop 1 else u.outbound) ++ [.revise ordinal target]
        sending := u.sending && !full
        finishing := if full then u.outbound.head? else u.finishing } := by
  intro full
  have room := u.roomForRevise_eq
  simp only at room
  rw [LaneUnit.issueRevise, room]

/-- R87: a lane has room for one revision more below both limits of 8. -/
theorem LaneUnit.mayRevise_iff (u : LaneUnit) :
    u.mayRevise = true ↔ u.pendingCount < 8 ∧
      u.reviseEntries.countP (fun e => decide (e.condition = .waiting)) + u.workList.countP isReviseItem < 8 := by
  simp only [LaneUnit.mayRevise, Bool.and_eq_true, decide_eq_true_eq]
  exact Iff.rfl

/-- R9: the named changes of a ROUTED record that weigh a redirection have changed it. -/
theorem applyChanges_ne_of_weighs {cs : List Change}
    (weighs : weighsRedirection r (applyChanges cs r) = true) : applyChanges cs r ≠ r := by
  intro same
  simp [same, weighsRedirection] at weighs

/-- R86, R117: the completion of an amendment whose redirection selection issues no revision. -/
theorem commit_amended (law : s.orderly) (found : s.record? r.ref = some r) {cs : List Change}
    (changed : applyChanges cs r ≠ r) (gs : Vector GroupEntry 15) :
    commit s ((s.updateRecord r.ref (applyChanges cs)).withGroups gs) [] =
      (s.withRecord r.ref { applyChanges cs r with revision := r.revision + 1 }).withGroups gs := by
  obtain ⟨ref, -, state, -⟩ := applyChanges_keeps cs r
  have differs : { applyChanges cs r with revision := r.revision } ≠ r := by
    rw [← applyChanges_revision cs r]; exact changed
  rw [State.updateRecord_eq law.1 found,
    commit_withRecord (a := (s.withRecord r.ref (applyChanges cs r)).withGroups gs) (new := applyChanges cs r) law found ref
      (by rw [state]) rfl rfl rfl rfl fun _ => rfl,
    revised_of_changed (ref.symm ▸ found) differs]
  exact State.noteReasons_nil law.2.2

/-- R87, R117: the completion of an amendment that issues a revision. -/
theorem commit_revising (law : s.orderly) (found : s.record? r.ref = some r) {cs : List Change}
    (routed : r.state = .routed assigned ordinal none) (gs : Vector GroupEntry 15) :
    commit s (((s.updateRecord r.ref (applyChanges cs)).withGroups gs).issueRevision l r.ref assigned ordinal target) [] =
      (((s.withRecord r.ref
        { applyChanges cs r with
          revision := r.revision + 1, state := .routed assigned ordinal (some target) }).withGroups gs).setLane l
        ((s.lane l).issueRevise r.ref ordinal target (expiryAfter s.timebase (s.lane l).reviseWindow))) := by
  obtain ⟨ref, -⟩ := applyChanges_keeps cs r
  let new : ItemRecord := { applyChanges cs r with state := .routed assigned ordinal (some target) }
  let u := (s.lane l).issueRevise r.ref ordinal target (expiryAfter s.timebase (s.lane l).reviseWindow)
  have differs : { new with revision := r.revision } ≠ r := fun same => by
    have state := congrArg ItemRecord.state same
    simp [new, routed] at state
  have is : ((s.updateRecord r.ref (applyChanges cs)).withGroups gs).issueRevision l r.ref assigned ordinal target =
      ((s.withRecord r.ref new).withGroups gs).setLane l u := by
    have records : ((s.withRecord r.ref (applyChanges cs r)).updateRecord r.ref fun q =>
        { q with state := .routed assigned ordinal (some target) }) = s.withRecord r.ref new := by
      refine congrArg s.setRecords ((List.map_map ..).trans (List.map_congr_left fun q _ => ?_))
      by_cases here : q.ref = r.ref
      · simp only [Function.comp, if_pos here]
        exact if_pos ref
      · simp only [Function.comp, if_neg here]
    rw [State.updateRecord_eq law.1 found]
    exact congrArg (fun v : State => (v.withGroups gs).setLane l u) records
  have states (m : Lane) : ((((s.withRecord r.ref new).withGroups gs).setLane l u).lane m).state = (s.lane m).state := by
    rw [State.lane_setLane]
    split
    next here => rw [here]; exact ((s.lane l).issueRevise_sameRegister ..).state
    next => rfl
  rw [is, commit_withRecord (a := ((s.withRecord r.ref new).withGroups gs).setLane l u) (new := new) law found ref (by rw [routed]; rfl) rfl rfl rfl rfl states,
    revised_of_changed (new := new) (ref.symm ▸ found) differs]
  exact State.noteReasons_nil law.2.2

end

/-- Settles O33: the redirection selection of R86, and the revision that is issued when there is room. -/
theorem amendOfARoutedRecordIssuesARevision : Obligations.AmendOfARoutedRecordIssuesARevision := by
  unfold Obligations.AmendOfARoutedRecordIssuesARevision
  intro s f a r assigned ordinal l law steps designated passes routed onLane r1 heavy u given selected target full changed
  have found := State.record?_of_designated? designated
  have is : applyChanges a.changes r = r1 := applyChanges_eq a.changes r
  have weighs : weighsRedirection r (applyChanges a.changes r) = true := by
    simpa [is, weighsRedirection] using heavy
  have differs := applyChanges_ne_of_weighs weighs
  let gs := (if u.lapLimit ≤ r1.laps then s else selected.2.2).store.groups
  have redirects : (s.updateRecord r.ref (applyChanges a.changes)).redirect l r1 assigned =
      (target, (s.updateRecord r.ref (applyChanges a.changes)).withGroups gs) := by
    have all := State.redirect_eq (s := s) (t := s.updateRecord r.ref (applyChanges a.changes)) (r1 := r1) (l := l)
      (assigned := assigned) rfl rfl rfl
    have outlet : placeOutlet assigned = given := placeOutlet_eq assigned
    simp only [outlet] at all
    exact all
  have work : amendItemStep s (.amendItem a) =
      if target = assigned then
        amendOk (commit s ((s.updateRecord r.ref (applyChanges a.changes)).withGroups gs) []) r.ref 0 none
      else if u.mayRevise then
        amendOk (commit s (((s.updateRecord r.ref (applyChanges a.changes)).withGroups gs).issueRevision l r.ref assigned
          ordinal target) []) r.ref 0 (some target)
      else amendOk (commit s ((s.updateRecord r.ref (applyChanges a.changes)).withGroups gs) []) r.ref 1 (some target) := by
    simp only [amendItemStep, designated, if_neg (guard_passes passes), routed, amendRouted, onLane, weighs]
    rw [is, redirects]
    rfl
  have plain : commit s ((s.updateRecord r.ref (applyChanges a.changes)).withGroups gs) [] =
      changed { r1 with revision := r.revision + 1 } := by
    rw [commit_amended law found differs, is]
    rfl
  by_cases stays : target = assigned
  · have does : amendItemStep s (.amendItem a) =
        some (changed { r1 with revision := r.revision + 1 }, .ok, [r.revision + 1, 0]) := by
      rw [work, if_pos stays, plain]
      exact amendOk_eq (s := s) (t := changed { r1 with revision := r.revision + 1 })
          (new := { r1 with revision := r.revision + 1 }) found rfl rfl 0 none
    rw [if_pos stays]
    exact singleStep_next steps does
  · rw [if_neg stays]
    by_cases room : u.mayRevise = true
    · rw [if_pos (u.mayRevise_iff.mp room)]
      have does : amendItemStep s (.amendItem a) =
          some ((changed
              { r1 with revision := r.revision + 1, state := .routed assigned ordinal (some target) }).setLane l
            (u.issueRevise r.ref ordinal target (expiryAfter s.timebase u.reviseWindow)), .ok,
            [r.revision + 1, 0, word (placeNumber target)]) := by
        rw [work, if_neg stays, if_pos room, commit_revising law found routed, is]
        exact amendOk_eq (s := s) (t := (changed
              { r1 with revision := r.revision + 1, state := .routed assigned ordinal (some target) }).setLane l
            (u.issueRevise r.ref ordinal target (expiryAfter s.timebase u.reviseWindow)))
          (new := { r1 with revision := r.revision + 1, state := .routed assigned ordinal (some target) }) found rfl rfl 0
          (some target)
      have unit := u.issueRevise_eq (ordinal := ordinal) (target := target) r.ref (expiryAfter s.timebase u.reviseWindow)
      simp only at unit
      rw [unit] at does
      exact singleStep_next steps does
    · rw [if_neg (u.mayRevise_iff.not.mp room)]
      have does : amendItemStep s (.amendItem a) =
          some (changed { r1 with revision := r.revision + 1 }, .ok, [r.revision + 1, 1, word (placeNumber target)]) := by
        rw [work, if_neg stays, if_neg room, plain]
        exact amendOk_eq (s := s) (t := changed { r1 with revision := r.revision + 1 })
          (new := { r1 with revision := r.revision + 1 }) found rfl rfl 1 (some target)
      exact singleStep_next steps does

/-! ### RESTORE ITEM (R18) -/

/-- R110: where no drain is complete, the completion of a step leaves the lane units as its work did. -/
theorem commit_lanes_of_no_drain {s a : State} (noDrain : ∀ l, a.drainComplete l = false) (xs : List (Subject × Reason)) :
    (commit s a xs).lanes = a.lanes := by
  have drains : (settled s a).completeDrains = settled s a := State.completeDrains_none _ noDrain
  rw [commit_eq, drains]
  rfl

/-- R158: the attention list after the completion of a step. -/
theorem commit_withReasons {s a : State} (attention : a.store.attention = s.store.attention)
    (xs : List (Subject × Reason)) :
    (commit s a xs).store.attention = withReasons s.store.attention (completionReasons s a xs) := by
  rw [commit_attention, attention, withReasons]

/-- R18: the record that RESTORE ITEM has restored, and its counts. -/
theorem State.restore_record {s : State} (law : s.recordsLaw) {r : ItemRecord} (found : s.record? r.ref = some r) :
    (s.restore r.ref).store.records =
        (s.withRecord r.ref { r with state := .expected, laps := 0, lane := none }).store.records ∧
      (s.restore r.ref).store.counts = s.store.counts.move (stateKind r.state) .expected :=
  State.changeState_updateRecord (t := s) law found rfl rfl (f := fun q => { q with laps := 0, lane := none })
    (fun _ => ⟨rfl, rfl⟩) .expected

/-- Settles O34: the refusals of RESTORE ITEM, and the record that is EXPECTED again. -/
theorem restoreReturnsToExpected : Obligations.RestoreReturnsToExpected := by
  unfold Obligations.RestoreReturnsToExpected
  intro s f d law steps
  refine ⟨fun none_ => singleStep_next steps (by simp only [restoreItemStep, none_]), fun r designated =>
    ⟨fun moving refused => ?_, fun restorable => ?_⟩⟩
  · have does : restoreItemStep s (.restoreItem d) = some (s, .wrongState, []) := by
      simp only [restoreItemStep, designated]
      cases state : r.state with
      | recirculating => exact absurd state moving
      | rejected => exact absurd state refused
      | _ => rfl
    exact singleStep_next steps does
  · have found := State.record?_of_designated? designated
    obtain ⟨records, counts⟩ := State.restore_record law.1 found
    have outlets : (s.restore r.ref).store.outlets = s.store.outlets := by simp [State.restore]
    have bins : (s.restore r.ref).store.bins = s.store.bins := by simp [State.restore]
    have lanes : (s.restore r.ref).lanes = s.lanes := by simp [State.restore]
    have outside := (StoreChange.restored r found restorable).keepsOutside
    have differs : { r with state := .expected, laps := 0, lane := none, revision := r.revision } ≠ r := fun same => by
      have state := congrArg ItemRecord.state same
      rcases restorable with is | is <;> simp [is] at state
    have becomes : s.recordBecomes (commit s (s.restore r.ref) []) r
        { r with state := .expected, laps := 0, lane := none, revision := r.revision + 1 } :=
      commit_recordBecomes (new := { r with state := .expected, laps := 0, lane := none }) law.1 found rfl differs records
        (by simp [State.restore]) (by simp [State.restore]) counts
    have noDrain (l : Lane) : (s.restore r.ref).drainComplete l = false :=
      State.drainComplete_of_same law.2.1 (by simp only [State.lane, lanes])
        (by simp only [State.routedCount, State.bin, outlets, bins])
    have quiet : completionReasons s (s.restore r.ref) [] = [] := by
      rw [completionReasons, State.drainReasons_none noDrain,
        fullReasons_of_same fun k => by simp only [State.outlet, outlets]]
      rfl
    have answer : (commit s (s.restore r.ref) []).revisionOf r.ref = r.revision + 1 := by
      have there : (commit s (s.restore r.ref) []).record? r.ref =
          some { r with state := .expected, laps := 0, lane := none, revision := r.revision + 1 } := by
        rw [State.record?, becomes.1]
        exact State.record?_withRecord found rfl
      rw [State.revisionOf, there]
    have does : restoreItemStep s (.restoreItem d) = some (commit s (s.restore r.ref) [], .ok, [r.revision + 1]) := by
      simp only [restoreItemStep, designated]
      rcases restorable with is | is <;> simp only [is, answer]
    refine ⟨_, singleStep_next steps does, becomes, fun k => by simp only [State.outlet, commit_outlets, outlets],
      fun l => by simp only [State.bin, commit_bins, bins], (commit_lanes_of_no_drain noDrain []).trans lanes,
      by simp [State.restore], ?_, commit_sameElsewhere outside, commit_followsUp outside⟩
    rw [commit_withReasons (by simp [State.restore]), quiet]
    rfl

end Sys2Proof.Machine
end

section
/-!
SUPPORT. The completion of a step in which one record has left its list and its lane (R20, R72, R94, R110).
-/
namespace Sys2Proof.Machine

section
variable {s a : State} {r : ItemRecord} {xs : List (Subject × Reason)}

/-- R110: the unit of a lane after the completion of a step in which a record has left its place. -/
theorem commit_laneWithout (drains : ∀ l, a.drainComplete l = s.lastOf l r) {l : Lane}
    (unit : a.lane l = (s.lane l).without l r) : (commit s a xs).lane l = s.laneWithout l r := by
  rw [commit_lane, State.drained, drains, unit]
  rfl

/-- R27, R110: the reasons of a step in which a record has left its place. -/
theorem completionReasons_of_leaving (drains : ∀ l, a.drainComplete l = s.lastOf l r) {full : List (Subject × Reason)}
    (fills : fullReasons s a = full) : completionReasons s a xs = xs ++ full ++ s.drainedBy r := by
  rw [completionReasons, fills, State.drainReasons_of_leaving drains]

/-- R27: an outlet that a record leaves has not become FULL by it. -/
theorem not_filled_of_leaving {k : OutletId} (entry : a.outlet k = (s.outlet k).without k r) :
    ¬((s.outlet k).state = .opened ∧ (a.outlet k).state = .full) := by
  rw [entry]
  exact OutletEntry.not_filled (OutletEntry.without_definition _ _ _) (OutletEntry.without_load_le _ _ _)

theorem filled_commit (k : OutletId) : filled s (commit s a xs) k = filled s a k := by
  rw [filled, filled, commit_outlet]

theorem filledAt_commit (p : Place) : filledAt s (commit s a xs) p = filledAt s a p := by
  cases p <;> simp only [filledAt, filled_commit]

/-- R110: a drain is complete exactly where the record was the last, in a state that differs in its lists from one the
record has just left in no routed count. -/
theorem State.drainComplete_of_left (law : s.listed) (mem : r ∈ s.store.records) {l : Lane}
    (state : (a.lane l).state = (s.lane l).state) (count : a.routedCount l = (s.leaveLists r).routedCount l) :
    a.drainComplete l = s.lastOf l r := by
  obtain ⟨⟨-, lanes, -⟩, lists, placed, -⟩ := law
  refine State.drainComplete_of_leaving lanes state ?_
  rw [count]
  exact State.leaveLists_routedCount (placed r mem) lists l

/-! ### Retiring (R20) -/

@[simp] theorem State.retireRecord_outlet (s : State) (r : ItemRecord) (k : OutletId) :
    (s.retireRecord r).outlet k = (s.leaveLists r).outlet k := rfl

@[simp] theorem State.retireRecord_bin (s : State) (r : ItemRecord) (l : Lane) :
    (s.retireRecord r).bin l = (s.leaveLists r).bin l := rfl

@[simp] theorem State.retireRecord_lane (s : State) (r : ItemRecord) (l : Lane) :
    (s.retireRecord r).lane l = (s.lane l).without l r := s.leaveLists_lane r l

/-- R20: the completion of a step that retires a record. -/
theorem commit_retires (law : s.listed) (found : s.record? r.ref = some r) :
    s.retires (commit s (s.retireRecord r) []) r := by
  obtain ⟨mem, -⟩ := s.record?_some found
  obtain ⟨outlet, bin, -, -⟩ := s.leaveLists_spec r (law.2.2.1 r mem)
  have drains (l : Lane) : (s.retireRecord r).drainComplete l = s.lastOf l r :=
    State.drainComplete_of_left law mem (by simp) rfl
  have outside := s.retireRecord_keepsOutside r
  have attention : (s.retireRecord r).store.attention =
      s.store.attention.filter fun e => decide (e.subject ≠ .item r.ref) := by simp [State.retireRecord]
  have reasons : completionReasons s (s.retireRecord r) [] = s.drainedBy r :=
    completionReasons_of_leaving (xs := []) (full := []) drains (fullReasons_none fun k => not_filled_of_leaving (outlet k))
  refine ⟨?_, by simp [State.retireRecord], by simp [State.retireRecord], ?_,
    fun k => by rw [commit_outlet, State.retireRecord_outlet, outlet],
    fun l => by rw [commit_bin, State.retireRecord_bin, bin], fun l => commit_laneWithout drains (by simp),
    by simp [State.retireRecord], by simp [State.retireRecord], commit_sameElsewhere outside, commit_followsUp outside⟩
  · have records : (s.retireRecord r).store.records = s.store.records.filter fun q => decide (q.ref ≠ r.ref) := by
      simp [State.retireRecord]
    rw [commit_records, records]
    conv_rhs => rw [← List.map_id (s.store.records.filter fun q => decide (q.ref ≠ r.ref))]
    exact List.map_congr_left fun q there =>
      revised_self (s.record?_of_mem law.1.1 (List.mem_of_mem_filter there))
  · rw [commit_attention, attention, reasons, withReasons]

/-! ### A record that moves -/

/-- R9, R27, R110: the record, the counts and the attention list after the completion of a step in which a record has
left its place and become `new`. -/
theorem commit_moves {new : ItemRecord} (law : s.listed) (found : s.record? r.ref = some r) (ref : new.ref = r.ref)
    (changed : { new with revision := r.revision } ≠ r)
    (records : a.store.records = s.store.records.map fun q => if q.ref = r.ref then new else q)
    (keyIndex : a.store.keyIndex = s.store.keyIndex) (serial : a.store.serialCounter = s.store.serialCounter)
    (counts : a.store.counts = s.store.counts.move (stateKind r.state) (stateKind new.state))
    (attention : a.store.attention = s.store.attention)
    (drains : ∀ l, a.drainComplete l = s.lastOf l r) {full : List (Subject × Reason)} (fills : fullReasons s a = full) :
    s.recordBecomes (commit s a xs) r { new with revision := r.revision + 1 } ∧
      (commit s a xs).store.attention = withReasons s.store.attention (xs ++ full ++ s.drainedBy r) := by
  refine ⟨commit_recordBecomes law.1.1 found ref changed records keyIndex serial counts, ?_⟩
  rw [commit_withReasons attention, completionReasons_of_leaving drains fills]

end

end Sys2Proof.Machine
end

section
/-!
PROOF. Obligations O35, O40 and O41: RETIRE ITEM, CLEAR OUTLET and RESET DIRECTORY (R19, R20, chapter 10).
-/
namespace Sys2Proof.Machine

/-- Settles O35: the refusals of RETIRE ITEM, and everything that leaves with the record. -/
theorem retireRemovesTheRecord : Obligations.RetireRemovesTheRecord := by
  unfold Obligations.RetireRemovesTheRecord
  intro s f d force law steps
  refine ⟨fun none_ => singleStep_next steps (by simp only [retireItemStep, none_]), fun r designated =>
    ⟨fun routed gentle => ?_, fun may => ?_⟩⟩
  · have does : retireItemStep s (.retireItem d force) = some (s, .inTransit, []) := by
      simp only [retireItemStep, designated, routed, gentle, and_self, if_true]
    exact singleStep_next steps does
  · have passes : ¬(stateKind r.state = .routed ∧ force = false) := by
      rintro ⟨routed, gentle⟩
      rcases may with other | forced
      · exact other routed
      · simp [gentle] at forced
    have does : retireItemStep s (.retireItem d force) =
        some (commit s (s.retireRecord r) [], .ok, refWords r.ref ++ [word (stateNumber (stateKind r.state))]) := by
      simp only [retireItemStep, designated, if_neg passes]
    exact ⟨_, commit_retires law (State.record?_of_designated? designated), singleStep_next steps does⟩

/-! ### CLEAR OUTLET (chapter 10) -/

section
variable {s : State} {k : OutletId}

/-- R148: the start of a clearing is the change of its outlet's entry. -/
theorem commit_startClearing (law : s.orderly) :
    commit s (s.setOutlet k (s.outlet k).startClearing) [] = s.setOutlet k (s.outlet k).startClearing := by
  refine commit_setOutlet_quiet law rfl rfl (fun l => OutletEntry.reservedOn_congr l rfl rfl) ?_
  rw [OutletEntry.state_eq_full_iff]
  rintro ⟨-, d, -, none_, -⟩
  simp [OutletEntry.startClearing] at none_

/-- R150, R152: the end of a clearing is the change of its outlet's entry, with the reasons of the step. -/
theorem commit_stopClearing (law : s.orderly) {boundary : Word32} (clearing : (s.outlet k).clearing = some boundary)
    (xs : List (Subject × Reason)) : commit s (s.stopClearing k) xs = (s.stopClearing k).noteReasons xs := by
  have unfilled : filled s (s.setOutlet k { s.outlet k with clearing := none }) k = [] := by
    refine if_neg ?_
    rw [OutletEntry.state_eq_opened_iff]
    rintro ⟨⟨d, -, none_, -⟩, -⟩
    simp [clearing] at none_
  rw [State.stopClearing,
    commit_setOutlet_noting (o := { s.outlet k with clearing := none }) law rfl rfl (fun l => OutletEntry.reservedOn_congr l rfl rfl), unfilled,
    List.append_nil]

/-- R150: the record that a clearing retires next is the head of the content list, below the boundary. -/
theorem State.toRetire_of_head {ref : Ref} {rest : List Ref} {boundary : Word32} {r : ItemRecord}
    (clearing : (s.outlet k).clearing = some boundary) (content : (s.outlet k).content = ref :: rest)
    (found : s.record? ref = some r) (below : (s.arrivalOf ref).toNat < boundary.toNat) : s.toRetire k = some r := by
  simp only [State.toRetire, content, clearing, if_pos below, found]

/-- R150: where the head lies at or above the boundary, a clearing retires nothing more. -/
theorem State.toRetire_none {boundary : Word32} (clearing : (s.outlet k).clearing = some boundary)
    (above : ∀ ref, (s.outlet k).content.head? = some ref → boundary.toNat ≤ (s.arrivalOf ref).toNat) :
    s.toRetire k = none := by
  unfold State.toRetire
  cases content : (s.outlet k).content with
  | nil => rfl
  | cons ref rest =>
    have least : boundary.toNat ≤ (s.arrivalOf ref).toNat := above ref (by rw [content]; rfl)
    simp only [clearing]
    exact if_neg (by omega)

end

/-- Settles O40: the four kinds of step of CLEAR OUTLET. -/
theorem clearingRetiresBelowTheBoundary : Obligations.ClearingRetiresBelowTheBoundary := by
  unfold Obligations.ClearingRetiresBelowTheBoundary
  intro s f k law o
  refine ⟨fun steps fresh => ⟨fun none_ => ?_, fun some_ => ?_⟩, ?_⟩
  · have does : s.clearStart = s.completeHostStep f (.done .wrongState []) := by
      simp only [State.clearStart, s.steppingCommand_of_hostSteps f _ steps, steps.2.2.2, clearingOutlet, fresh]
      exact if_pos none_
    exact congrArg Host.Outcome.next does
  · have does : s.clearStart = (s.setOutlet k (s.outlet k).startClearing).completeHostStep f
        (.more { f.progress with foreignAside := (s.outlet k).foreign }) := by
      simp only [State.clearStart, s.steppingCommand_of_hostSteps f _ steps, steps.2.2.2, clearingOutlet, fresh,
        commit_startClearing law.1]
      exact if_neg fun none_ => by simp [o, none_] at some_
    exact congrArg Host.Outcome.next does
  · intro boundary clearing told es
    refine ⟨fun ref rest r steps later content found below => ?_, fun steps later above => ?_,
      fun busy flight ending command => ?_⟩
    · obtain ⟨n, count⟩ := Nat.exists_eq_succ_of_ne_zero later
      have is := (s.record?_some found).2
      refine ⟨_, commit_retires law (is ▸ found), congrArg Host.Outcome.next ?_⟩
      simp only [State.clearRetire, s.steppingCommand_of_hostSteps f _ steps, steps.2.2.2, clearingOutlet, count,
        State.toRetire_of_head clearing content found below]
    · obtain ⟨n, count⟩ := Nat.exists_eq_succ_of_ne_zero later
      have does : s.clearFinish = ((s.stopClearing k).noteReasons [(.outlet k, .clearDone)]).completeHostStep f
          (.done .ok (clearingWords s k f)) := by
        simp only [State.clearFinish, s.steppingCommand_of_hostSteps f _ steps, steps.2.2.2, clearingOutlet, count,
          State.toRetire_none clearing above, commit_stopClearing law.1 clearing]
      have words : clearingWords s k f = told := by
        rw [clearingWords, clearing]
        rfl
      refine (congrArg Host.Outcome.next does).trans ?_
      rw [words]
      rfl
    · have does : s.clearEnding = (s.stopClearing k).completeHostStep f (.done .aborted (clearingWords s k f)) := by
        have stays : (s.stopClearing k).noteReasons [] = s.stopClearing k := State.noteReasons_nil law.1.2.2
        simp only [State.clearEnding, State.endingCommand, busy, flight, ending, if_true, command, clearingOutlet,
          commit_stopClearing law.1 clearing, stays]
      have words : clearingWords s k f = told := by
        rw [clearingWords, clearing]
        rfl
      refine (congrArg Host.Outcome.next does).trans ?_
      rw [words]
      rfl

/-! ### RESET DIRECTORY (R153, R154) -/

section
variable {s : State} {f : InFlight}

theorem State.resettingCommand_of_hostSteps (steps : s.hostSteps f .resetDirectory) : s.resettingCommand = some f := by
  simp only [State.resettingCommand, s.steppingCommand_of_hostSteps f _ steps, steps.2.2.2, if_true]

theorem State.allStopped_iff : s.allStopped = true ↔ ∀ l, (s.lane l).state = .stopped := by
  simp [State.allStopped, allLanes, Fin.forall_fin_succ]

theorem State.resetRefused_iff : s.resetRefused f = true ↔ f.stepsDone = 0 ∧ ∃ l, (s.lane l).state ≠ .stopped := by
  rw [State.resetRefused, Bool.and_eq_true, decide_eq_true_eq, Bool.not_eq_true', ← Bool.not_eq_true,
    State.allStopped_iff]
  simp

end

/-- Settles O41: the refusal of RESET DIRECTORY, its retiring step and its finish step. -/
theorem resetDirectoryRetiresEveryRecord : Obligations.ResetDirectoryRetiresEveryRecord := by
  unfold Obligations.ResetDirectoryRetiresEveryRecord
  intro s f law steps
  have resetting := State.resettingCommand_of_hostSteps steps
  refine ⟨fun fresh going => ?_, fun stopped => ?_⟩
  · have refused := State.resetRefused_iff.mpr ⟨fresh, going⟩
    exact congrArg Host.Outcome.next (by simp only [State.resetRetire, resetting, refused, if_true])
  · have passes : ¬s.resetRefused f = true := fun refused => by
      obtain ⟨fresh, l, going⟩ := State.resetRefused_iff.mp refused
      exact going (stopped fresh l)
    refine ⟨fun r mem least => ?_, fun empty => ?_⟩
    · obtain ⟨order, -⟩ := law.1.1
      have found := s.record?_of_mem law.1.1 mem
      have head : ∃ rest, s.store.records = r :: rest := by
        cases records : s.store.records with
        | nil => simp [records] at mem
        | cons q rest =>
          rw [records] at order mem
          rcases List.mem_cons.mp mem with rfl | later
          · exact ⟨rest, rfl⟩
          · have above := (List.pairwise_cons.mp order).1 r later
            have below := least q (by rw [records]; exact List.mem_cons_self)
            omega
      obtain ⟨rest, records⟩ := head
      exact ⟨_, commit_retires law found, congrArg Host.Outcome.next
        (by simp only [State.resetRetire, resetting, if_neg passes, records])⟩
    · refine ⟨s.finishReset, congrArg Host.Outcome.next
        (by simp only [State.resetFinish, resetting, if_neg passes, empty]), fun k => ?_, fun c => ?_, rfl, rfl, rfl,
        empty, rfl, rfl, fun l => rfl, rfl, rfl, rfl, rfl, rfl, rfl, rfl, rfl, rfl⟩
      · simp only [State.finishReset_outlet, OutletEntry.finishReset]
      · simp [State.finishReset, State.cursor, Cursor.finishReset]

end Sys2Proof.Machine
end

section
/-!
PROOF. Obligations O53 to O56: the CONFIRM and MISS steps (chapter 4).
-/
namespace Sys2Proof.Machine

section
variable {s t : State} {l : Lane} {takeUp : Bool} {key : Key} {outcome : NoteOutcome}

/-- R71, R73: the completion of a CONFIRM step, by what the CONFIRM came to. -/
theorem exec_confirmStep {outlet : Byte} (steps : s.laneSteps l (.request (.confirm key outlet)))
    (serves : s.serveConfirm l key outlet = (outcome, t)) :
    exec (.confirmStep l takeUp) s = .next (t.completeLaneStep l (some (.note (key.take 4) outcome)) takeUp) := by
  have does : exec (.confirmStep l takeUp) s = execConfirmStep l takeUp s := rfl
  rw [does]
  unfold execConfirmStep
  rw [s.laneStepping_of_laneSteps l _ steps]
  simp only [serves, keyDigest]

/-- R71, R82: the completion of a MISS step, by what the MISS came to. -/
theorem exec_missStep (steps : s.laneSteps l (.request (.miss key))) (serves : s.serveMiss l key = (outcome, t)) :
    exec (.missStep l takeUp) s = .next (t.completeLaneStep l (some (.note (key.take 4) outcome)) takeUp) := by
  have does : exec (.missStep l takeUp) s = execMissStep l takeUp s := rfl
  rw [does]
  unfold execMissStep
  rw [s.laneStepping_of_laneSteps l _ steps]
  simp only [serves, keyDigest]

/-- R73: the outlets that a CONFIRM of this lane can name. -/
theorem outletOf_eq_some {n : Nat} {k : OutletId} : outletOf n = some k ↔ n = k.val + 1 := by
  unfold outletOf
  constructor
  · intro is
    split at is
    · cases is
      simp only
      omega
    · cases is
  · rintro rfl
    rw [dif_pos ⟨by omega, by omega⟩]
    rfl

/-- R2, R11: the counts after a change of state. -/
theorem State.changeState_counts {ref : Ref} {r : ItemRecord} (found : t.record? ref = some r) (new : ItemState) :
    (t.changeState ref new).store.counts = t.store.counts.move (stateKind r.state) (stateKind new) := by
  rw [State.changeState_spec _ _ _ _ found]

end

section
variable {s a : State} {r new : ItemRecord} {xs : List (Subject × Reason)}

/-- R71, R80, R83: the completion of a step in which a record has left its list and its lane for none. -/
theorem commit_left (law : s.listed) (found : s.record? r.ref = some r) (ref : new.ref = r.ref)
    (changed : { new with revision := r.revision } ≠ r)
    (records : a.store.records = s.store.records.map fun q => if q.ref = r.ref then new else q)
    (counts : a.store.counts = s.store.counts.move (stateKind r.state) (stateKind new.state))
    (rest : a = ((s.leaveLists r).setRecords a.store.records).setCounts a.store.counts) :
    let t := commit s a xs
    s.recordBecomes t r { new with revision := r.revision + 1 } ∧
      (∀ k, t.outlet k = (s.outlet k).without k r) ∧ (∀ j, t.bin j = (s.bin j).without j r) ∧
      (∀ j, t.lane j = s.laneWithout j r) ∧ t.store.groups = s.store.groups ∧
      t.store.attention = withReasons s.store.attention (xs ++ s.drainedBy r) ∧ s.sameElsewhere t ∧ s.followsUp t := by
  obtain ⟨mem, -⟩ := s.record?_some found
  obtain ⟨outlet, bin, -, -⟩ := s.leaveLists_spec r (law.2.2.1 r mem)
  have outlet (k : OutletId) : a.outlet k = (s.outlet k).without k r := by rw [rest, ← outlet]; rfl
  have bin (l : Lane) : a.bin l = (s.bin l).without l r := by rw [rest, ← bin]; rfl
  have lane (l : Lane) : a.lane l = (s.lane l).without l r := by rw [rest, ← State.leaveLists_lane]; rfl
  have drains (l : Lane) : a.drainComplete l = s.lastOf l r :=
    State.drainComplete_of_left law mem (by rw [lane, LaneUnit.without_state]) (by rw [rest]; rfl)
  have outside : s.keepsOutside a := by
    rw [rest]
    exact (s.leaveLists_keepsOutside r).trans ⟨rfl, rfl, rfl, rfl, rfl, rfl, rfl⟩
  obtain ⟨becomes, attention⟩ := commit_moves (xs := xs) law found ref changed records (by rw [rest]; simp)
    (by rw [rest]; simp) counts (by rw [rest]; simp) drains (fullReasons_none fun k => not_filled_of_leaving (outlet k))
  rw [List.append_nil] at attention
  exact ⟨becomes, fun k => by rw [commit_outlet, outlet], fun l => by rw [commit_bin, bin],
    fun l => commit_laneWithout drains (lane l), by rw [commit_groups, rest]; simp, attention,
    commit_sameElsewhere outside, commit_followsUp outside⟩

/-- R80: the completion of a step that makes a record REJECTED. -/
theorem commit_rejects (law : s.listed) (found : s.record? r.ref = some r) (elsewhere : r.state ≠ .rejected) :
    let t := commit s ((s.leaveLists r).changeState r.ref .rejected) [(.item r.ref, .rejected)]
    s.recordBecomes t r { r with state := .rejected, revision := r.revision + 1 } ∧
      (∀ k, t.outlet k = (s.outlet k).without k r) ∧ (∀ j, t.bin j = (s.bin j).without j r) ∧
      (∀ j, t.lane j = s.laneWithout j r) ∧ t.store.groups = s.store.groups ∧
      t.store.attention = withReasons s.store.attention ((.item r.ref, .rejected) :: s.drainedBy r) ∧
      s.sameElsewhere t ∧ s.followsUp t := by
  have there : (s.leaveLists r).record? r.ref = some r := by rw [State.record?, State.leaveLists_records]; exact found
  have counts : ((s.leaveLists r).changeState r.ref .rejected).store.counts =
      s.store.counts.move (stateKind r.state) .rejected := by
    rw [State.changeState_counts there, State.leaveLists_counts]
    rfl
  have differs : { r with state := .rejected, revision := r.revision } ≠ r := fun same =>
    elsewhere (congrArg ItemRecord.state same).symm
  have records : ((s.leaveLists r).changeState r.ref .rejected).store.records =
      s.store.records.map fun q => if q.ref = r.ref then { r with state := .rejected } else q := by
    rw [State.changeState_records, State.leaveLists_records]
    exact congrArg (fun u : State => u.store.records)
      (State.updateRecord_eq law.1.1 found fun q => { q with state := .rejected })
  exact commit_left (new := { r with state := .rejected }) (xs := [(.item r.ref, .rejected)]) law found rfl differs records
    counts (by rw [State.changeState_spec _ _ _ _ there]; rfl)

end

/-! ### CONFIRM at a wrong outlet, of an unknown key, and at the bin (R73, R79, R80) -/

/-- R79: a foreign arrival is counted up to the limit. -/
theorem OutletEntry.addForeign_eq {o : OutletEntry} (small : o.foreign ≤ 4095) :
    o.addForeign = { o with foreign := min 4095 (o.foreign + 1) } := by
  unfold OutletEntry.addForeign
  split
  next below =>
    have least : min 4095 (o.foreign + 1) = o.foreign + 1 := Nat.min_eq_right below
    rw [least]
  next full =>
    have least : min 4095 (o.foreign + 1) = o.foreign := by simp [Config.foreignMax] at full; omega
    rw [least]

section
variable {s : State} {l : Lane} {key : Key} {outlet : Byte}

theorem State.serveConfirm_bin : s.serveConfirm l key 0 = s.confirmAtBin key := rfl

/-- R73: an outlet that is not the lane's. -/
theorem State.serveConfirm_wrong (some_ : outlet ≠ 0)
    (wrong : ∀ k, ¬(outlet.toNat = k.val + 1 ∧ ∃ d, (s.outlet k).definition = some d ∧ d.lane = l)) :
    s.serveConfirm l key outlet = (.badOutlet, s.noteReasons [(.lane l, .linkFault)]) := by
  unfold State.serveConfirm
  rw [if_neg some_]
  cases names : outletOf outlet.toNat with
  | none => rfl
  | some k =>
    have elsewhere : ¬(s.outlet k).definedOn l = true := fun on =>
      wrong k ⟨outletOf_eq_some.mp names, ((s.outlet k).definedOn_iff l).mp on⟩
    simp only [if_neg elsewhere]

/-- R73: an outlet of the lane passes the check. -/
theorem State.serveConfirm_own {k : OutletId} (names : outlet.toNat = k.val + 1)
    (own : ∃ d, (s.outlet k).definition = some d ∧ d.lane = l) :
    s.serveConfirm l key outlet = s.confirmAtOutlet l k key := by
  have some_ : outlet ≠ 0 := by
    rintro rfl
    simp at names
  unfold State.serveConfirm
  rw [if_neg some_, outletOf_eq_some.mpr names]
  exact if_pos (((s.outlet k).definedOn_iff l).mpr own)

end

/-- Settles O55: what a CONFIRM comes to that files nothing in a content list. -/
theorem confirmOfBadOutletForeignOrBin : Obligations.ConfirmOfBadOutletForeignOrBin := by
  unfold Obligations.ConfirmOfBadOutletForeignOrBin
  intro s l takeUp key outlet steps law notes withList belongs
  refine ⟨fun some_ wrong => ?_, fun k own unknown => ?_, fun bin => ?_⟩
  · exact exec_confirmStep steps (State.serveConfirm_wrong some_ wrong)
  · intro o t small
    obtain ⟨names, on⟩ := own
    have does : s.confirmAtOutlet l k key =
        (.foreign, withList t (withReasons s.store.attention ((.outlet k, .foreign) :: filled s t k))) := by
      have counted : (s.outlet k).addForeign = { o with foreign := min 4095 (o.foreign + 1) } :=
        OutletEntry.addForeign_eq small
      have commits : commit s t [(.outlet k, .foreign)] =
          withList t (withReasons s.store.attention ((.outlet k, .foreign) :: filled s t k)) :=
        commit_setOutlet_noting (k := k) (o := { o with foreign := min 4095 (o.foreign + 1) }) law.1 rfl rfl
          (fun l => OutletEntry.reservedOn_congr l rfl rfl) [(.outlet k, .foreign)]
      simp only [State.confirmAtOutlet, unknown, counted]
      rw [← commits]
    exact exec_confirmStep steps ((State.serveConfirm_own names on).trans does)
  · subst bin
    refine ⟨fun unknown => exec_confirmStep steps ?_, fun r found => ⟨fun rejected => exec_confirmStep steps ?_,
      fun elsewhere => ?_⟩⟩
    · simp only [State.serveConfirm_bin, State.confirmAtBin, unknown]
    · simp only [State.serveConfirm_bin, State.confirmAtBin, found, rejected, stateKind, if_true]
    · have kind : stateKind r.state ≠ .rejected := by
        cases state : r.state <;> simp [state, stateKind] at elsewhere ⊢
      refine ⟨_, exec_confirmStep steps ?_, commit_rejects law (State.record?_of_recordOfKey? found) elsewhere⟩
      simp only [State.serveConfirm_bin, State.confirmAtBin, found, if_neg kind]

/-! ### MISS (R82, R83) -/

/-- R83: the completion of a step that makes a record of the lane RECIRCULATING. -/
theorem State.recirculate_moves {s : State} {l : Lane} {r : ItemRecord} (law : s.listed)
    (found : s.record? r.ref = some r) (routed : stateKind r.state = .routed) :
    let t := s.recirculate l r
    s.recordBecomes t r
        { r with state := .recirculating, laps := nextLaps r.laps, revision := r.revision + 1 } ∧
      (∀ k, t.outlet k = (s.outlet k).without k r) ∧ (∀ j, t.bin j = (s.bin j).without j r) ∧
      (∀ j, t.lane j = s.laneWithout j r) ∧ t.store.groups = s.store.groups ∧
      t.store.attention = withReasons s.store.attention
        ((if (s.lane l).lapLimit ≤ nextLaps r.laps then [(.item r.ref, .lapLimit)] else []) ++ s.drainedBy r) ∧
      s.sameElsewhere t ∧ s.followsUp t := by
  let f : ItemRecord → ItemRecord := fun q => { q with laps := nextLaps q.laps }
  obtain ⟨records, counts⟩ := State.changeState_updateRecord (t := s.leaveLists r) law.1.1 found (s.leaveLists_records r)
    (s.leaveLists_counts r) (f := f) (fun _ => ⟨rfl, rfl⟩) .recirculating
  have there : ((s.leaveLists r).updateRecord r.ref f).record? r.ref = some (f r) :=
    State.record?_updateRecord (fun _ => rfl) (by rw [State.record?, State.leaveLists_records]; exact found)
  have differs : { r with state := .recirculating, laps := nextLaps r.laps, revision := r.revision } ≠ r := fun same => by
    have state := congrArg ItemRecord.state same
    simp [← state, stateKind] at routed
  exact commit_left (new := { r with state := .recirculating, laps := nextLaps r.laps }) law found rfl differs records
    counts (by rw [State.changeState_spec _ _ _ _ there]; rfl)

/-- Settles O56: the three outcomes of a MISS. -/
theorem missRecirculatesTheRecord : Obligations.MissRecirculatesTheRecord := by
  unfold Obligations.MissRecirculatesTheRecord
  intro s l takeUp key steps law notes
  refine ⟨fun unknown => exec_missStep steps (by simp only [State.serveMiss, unknown]), fun r found =>
    ⟨fun elsewhere => exec_missStep steps (by simp only [State.serveMiss, found, if_neg elsewhere]),
      fun routed lane => ?_⟩⟩
  intro laps
  exact ⟨_, exec_missStep steps (by simp only [State.serveMiss, found, if_pos (And.intro routed lane)]),
    State.recirculate_moves law (State.record?_of_recordOfKey? found) routed⟩

end Sys2Proof.Machine
end

section
/-!
PROOF. Obligations O53 and O54: the arrival of a record at an outlet of the lane (R31, R74 to R78).
-/
namespace Sys2Proof.Machine

section
variable {s : State} {k : OutletId}

/-! ### Renumbering (R31) -/

theorem State.renumberIfDue_of_room (room : (s.outlet k).arrivalCounter ≠ 0xFFFFFFFF) : s.renumberIfDue k = s :=
  if_neg room

theorem State.renumberIfDue_of_last (last : (s.outlet k).arrivalCounter = 0xFFFFFFFF) :
    s.renumberIfDue k = s.renumberContent k := if_pos last

theorem State.renumbering_of_room (room : (s.outlet k).arrivalCounter ≠ 0xFFFFFFFF) (q : ItemRecord) :
    s.renumbering k q = q := if_neg room

theorem State.renumbering_of_last (last : (s.outlet k).arrivalCounter = 0xFFFFFFFF) (q : ItemRecord) :
    s.renumbering k q = renumbered (s.outlet k).content q := if_pos last

theorem State.renumberIfDue_outlet_ne {j : OutletId} (other : j ≠ k) : (s.renumberIfDue k).outlet j = s.outlet j := by
  unfold State.renumberIfDue
  split
  · exact State.outlet_setOutlet_ne _ _ other
  · rfl

/-- R31: the lists, the counts of members and the definition stay, as do the bins, the lanes and everything else. -/
theorem State.renumberIfDue_kept (s : State) (k : OutletId) :
    ((s.renumberIfDue k).outlet k).reserved = (s.outlet k).reserved ∧ (s.renumberIfDue k).store.bins = s.store.bins ∧
      (s.renumberIfDue k).store.keyIndex = s.store.keyIndex ∧
      (s.renumberIfDue k).store.serialCounter = s.store.serialCounter ∧
      (s.renumberIfDue k).store.counts = s.store.counts ∧ (s.renumberIfDue k).store.groups = s.store.groups := by
  unfold State.renumberIfDue
  split
  · exact ⟨by simp [State.renumberContent], rfl, rfl, rfl, rfl, rfl⟩
  · exact ⟨rfl, rfl, rfl, rfl, rfl, rfl⟩

/-- R31: a renumbering changes the state of a SORTED record alone, which stays SORTED. -/
theorem State.renumbering_state (q : ItemRecord) :
    stateKind (s.renumbering k q).state = stateKind q.state ∧ { s.renumbering k q with state := q.state } = q := by
  unfold State.renumbering
  split
  · unfold renumbered
    split
    next state _ => exact ⟨by rw [state]; rfl, rfl⟩
    next => exact ⟨rfl, rfl⟩
  · exact ⟨rfl, rfl⟩

/-! ### Arrival (R75) -/

theorem State.arrive_records (s : State) (k : OutletId) (ref : Ref) (stray : Bool) :
    (s.arrive k ref stray).store.records = s.store.records.map fun q =>
      if q.ref = ref then
        { s.renumbering k q with state := .sorted k ((s.renumberIfDue k).outlet k).arrivalCounter stray }
      else s.renumbering k q := by
  have records : (s.arrive k ref stray).store.records = (s.renumberIfDue k).store.records.map fun q =>
      if q.ref = ref then { q with state := .sorted k ((s.renumberIfDue k).outlet k).arrivalCounter stray } else q := by
    rw [State.arrive, State.changeState_records]
    rfl
  rw [records, State.renumberIfDue_records, List.map_map]
  refine List.map_congr_left fun q _ => ?_
  simp only [Function.comp, (State.renumbering_keeps k q).1]

theorem State.arrive_kept (s : State) (k : OutletId) (ref : Ref) (stray : Bool) :
    (s.arrive k ref stray).store.keyIndex = s.store.keyIndex ∧
      (s.arrive k ref stray).store.serialCounter = s.store.serialCounter ∧
      (s.arrive k ref stray).store.groups = s.store.groups := by
  obtain ⟨-, -, keyIndex, serial, -, groups⟩ := s.renumberIfDue_kept k
  refine ⟨?_, ?_, ?_⟩ <;> simp [State.arrive, keyIndex, serial, groups]

/-- R11, R75: the counts follow the record that arrives. -/
theorem State.arrive_counts {r : ItemRecord} (found : s.record? r.ref = some r) (stray : Bool) :
    (s.arrive k r.ref stray).store.counts = s.store.counts.move (stateKind r.state) .sorted := by
  have there : (s.renumberIfDue k).record? r.ref = some (s.renumbering k r) := by
    rw [State.record?_of_map (s := s) (s.renumberIfDue_records k) fun q => (State.renumbering_keeps k q).1, found]
    rfl
  have counts := (s.renumberIfDue_kept k).2.2.2.2.1
  refine (State.changeState_counts (t := (s.renumberIfDue k).setOutlet k _) (r := s.renumbering k r) there _).trans ?_
  rw [(State.renumbering_state r).1]
  exact congrArg (fun c : Counts => c.move (stateKind r.state) .sorted) counts

/-- R33: an arrival changes no routed count. -/
theorem State.arrive_routedCount (s : State) (k : OutletId) (ref : Ref) (stray : Bool) (l : Lane) :
    (s.arrive k ref stray).routedCount l = s.routedCount l := by
  refine State.routedCount_of_same (fun j => ?_) (by rw [State.arrive_bin])
  refine OutletEntry.reservedOn_congr l (s.arrive_definition k j ref stray) ?_
  rw [State.arrive_outlet]
  split
  next here => rw [here]; exact (s.renumberIfDue_kept k).1
  next other => rw [State.renumberIfDue_outlet_ne other]

/-- R9, R75: the record that arrives advances its revision, unless it stands there already. -/
theorem revised_arrived {r : ItemRecord} (found : s.record? r.ref = some r)
    (elsewhere : ∀ arrival stray, r.state ≠ .sorted k arrival stray) {u : State} (n : Word32) (stray : Bool) :
    revised s { u.renumbering k r with state := .sorted k n stray } =
      { r with state := .sorted k n stray, revision := r.revision + 1 } := by
  have same : { u.renumbering k r with state := .sorted k n stray } = { r with state := .sorted k n stray } := by
    conv_rhs => rw [← (State.renumbering_state (s := u) (k := k) r).2]
  rw [same]
  refine revised_of_changed (r := r) (new := { r with state := .sorted k n stray }) found fun is => ?_
  exact elsewhere n stray (congrArg ItemRecord.state is).symm

/-- R20, R31, R75: everything that the completion of a step does in which a record arrives at an outlet. -/
theorem State.fileArrival_spec {r : ItemRecord} (law : s.listed) (found : s.record? r.ref = some r)
    (elsewhere : ∀ arrival stray, r.state ≠ .sorted k arrival stray) (stray : Bool) :
    let t := s.fileArrival k r stray
    let u := s.leaveLists r
    let o := (u.renumberIfDue k).outlet k
    t.store.records = s.store.records.map (fun q =>
        if q.ref = r.ref then { r with state := .sorted k o.arrivalCounter stray, revision := r.revision + 1 }
        else revised s (u.renumbering k q)) ∧
      t.store.keyIndex = s.store.keyIndex ∧ t.store.serialCounter = s.store.serialCounter ∧
      t.store.counts = s.store.counts.move (stateKind r.state) .sorted ∧
      t.outlet k =
        { o with content := o.content ++ [r.ref], held := o.held + 1, arrivalCounter := o.arrivalCounter + 1 } ∧
      (∀ j, j ≠ k → t.outlet j = (s.outlet j).without j r) ∧
      (∀ j, t.bin j = (s.bin j).without j r) ∧ (∀ j, t.lane j = s.laneWithout j r) ∧
      t.store.groups = s.store.groups ∧
      t.store.attention = withReasons s.store.attention
        ((if stray then [(.item r.ref, .stray)] else []) ++ filled s t k ++ s.drainedBy r) ∧
      s.sameElsewhere t ∧ s.followsUp t := by
  intro t u o
  let a := u.arrive k r.ref stray
  have is : t = commit s a (if stray then [(.item r.ref, .stray)] else []) := rfl
  clear_value t
  subst is
  obtain ⟨mem, -⟩ := s.record?_some found
  obtain ⟨outlet, bin, -, -⟩ := s.leaveLists_spec r (law.2.2.1 r mem)
  obtain ⟨keyIndex, serial, groups⟩ := u.arrive_kept k r.ref stray
  have there : u.record? r.ref = some r := by rw [State.record?, State.leaveLists_records]; exact found
  have lane (l : Lane) : a.lane l = (s.lane l).without l r := by
    rw [← State.leaveLists_lane]
    simp only [a, State.lane, State.arrive_lanes, u]
  have drains (l : Lane) : a.drainComplete l = s.lastOf l r :=
    State.drainComplete_of_left law mem (by rw [lane, LaneUnit.without_state]) (u.arrive_routedCount k r.ref stray l)
  have others (j : OutletId) (other : j ≠ k) : a.outlet j = (s.outlet j).without j r := by
    rw [State.arrive_outlet, if_neg other, State.renumberIfDue_outlet_ne other, outlet]
  have fills : fullReasons s a = filled s a k := fullReasons_of_one fun j other => not_filled_of_leaving (others j other)
  have outside : s.keepsOutside a := (s.leaveLists_keepsOutside r).trans (u.arrive_keepsOutside k r.ref stray)
  refine ⟨?_, by rw [commit_keyIndex, keyIndex, State.leaveLists_keyIndex],
    by rw [commit_serialCounter, serial, State.leaveLists_serialCounter],
    by rw [commit_counts, State.arrive_counts there, State.leaveLists_counts],
    by rw [commit_outlet, State.arrive_outlet, if_pos rfl], fun j other => by rw [commit_outlet]; exact others j other,
    fun j => by rw [commit_bin, State.arrive_bin, bin], fun j => commit_laneWithout drains (lane j),
    by rw [commit_groups, groups, State.leaveLists_groups], ?_, commit_sameElsewhere outside, commit_followsUp outside⟩
  · rw [commit_records, State.arrive_records, State.leaveLists_records, List.map_map]
    refine List.map_congr_left fun q here => ?_
    simp only [Function.comp]
    split
    next is =>
      obtain rfl : q = r := Option.some.inj ((s.record?_of_mem law.1.1 here).symm.trans (is ▸ found))
      exact revised_arrived found elsewhere _ _
    next => rfl
  · rw [commit_withReasons (by rw [State.arrive_attention, State.leaveLists_attention]),
      completionReasons_of_leaving drains fills, filled_commit]

end

theorem OutletEntry.without_arrivalCounter (o : OutletEntry) (k : OutletId) (r : ItemRecord) :
    (o.without k r).arrivalCounter = o.arrivalCounter := by
  unfold OutletEntry.without
  split
  · split <;> rfl
  · split <;> rfl
  all_goals rfl

/-! ### The outcome of a CONFIRM (R74 to R78) -/

/-- R74: a CONFIRM for a record that is not SORTED at the outlet files it there, as a stray or not by its outcome. -/
theorem State.confirmRecord_eq {s : State} {l : Lane} {k : OutletId} {r : ItemRecord}
    (elsewhere : ∀ arrival stray, r.state ≠ .sorted k arrival stray) :
    s.confirmRecord l k r =
      (s.arrivalOutcome l k r, s.fileArrival k r (decide (s.arrivalOutcome l k r = .stray))) := by
  unfold State.confirmRecord State.arrivalOutcome
  cases state : r.state with
  | sorted j arrival stray =>
    have other : j ≠ k := fun is => elsewhere arrival stray (is ▸ state)
    simp only [if_neg other]
    rfl
  | routed assigned ordinal pending =>
    dsimp only
    split
    · unfold State.confirmRouted
      split
      · split <;> rfl
      · split <;> rfl
    · rfl
  | _ => rfl

/-- R74: a CONFIRM at an outlet of the lane for a key with a record. -/
theorem exec_confirmStep_of_record {s t : State} {l : Lane} {takeUp : Bool} {key : Key} {k : OutletId}
    {d : OutletDefinition} {r : ItemRecord} {outcome : NoteOutcome}
    (steps : s.laneSteps l (.request (.confirm key (BitVec.ofNat 8 (k.val + 1)))))
    (defined : (s.outlet k).definition = some d) (own : d.lane = l) (found : s.recordOfKey? key = some r)
    (comes : s.confirmRecord l k r = (outcome, t)) :
    exec (.confirmStep l takeUp) s = .next (t.completeLaneStep l (some (.note (key.take 4) outcome)) takeUp) := by
  have names : (BitVec.ofNat 8 (k.val + 1)).toNat = k.val + 1 := by
    have := k.isLt
    simp only [BitVec.toNat_ofNat]
    omega
  refine exec_confirmStep steps ?_
  simp only [State.serveConfirm_own names ⟨d, defined, own⟩, State.confirmAtOutlet, found, comes]

/-- Settles O53: a record that is SORTED at the outlet stays, and another is filed there. -/
theorem confirmFilesTheArrival : Obligations.ConfirmFilesTheArrival := by
  unfold Obligations.ConfirmFilesTheArrival
  intro s l takeUp key k d r steps law defined own found notes
  have found' := State.record?_of_recordOfKey? found
  refine ⟨fun ⟨arrival, stray, state⟩ => ?_, fun elsewhere room => ?_⟩
  · exact exec_confirmStep_of_record steps defined own found (by simp only [State.confirmRecord, state, if_true])
  · intro outcome
    obtain ⟨records, keyIndex, serial, counts, outlet, others, bins, lanes, groups, attention, same, follows⟩ :=
      State.fileArrival_spec law found' elsewhere (decide (outcome = .stray))
    obtain ⟨mem, -⟩ := s.record?_some found'
    have entry (j : OutletId) : (s.leaveLists r).outlet j = (s.outlet j).without j r :=
      (s.leaveLists_spec r (law.2.2.1 r mem)).1 j
    have counter : ((s.outlet k).without k r).arrivalCounter = (s.outlet k).arrivalCounter :=
      OutletEntry.without_arrivalCounter _ _ _
    have stillRoom : ((s.leaveLists r).outlet k).arrivalCounter ≠ 0xFFFFFFFF := by rw [entry, counter]; exact room
    rw [State.renumberIfDue_of_room stillRoom, entry] at outlet
    refine ⟨s.fileArrival k r (decide (outcome = .stray)),
      exec_confirmStep_of_record steps defined own found (State.confirmRecord_eq elsewhere),
      ⟨?_, keyIndex, serial, counts⟩, fun j => ?_, bins, lanes, groups, ?_, same, follows⟩
    · rw [records, State.renumberIfDue_of_room stillRoom, entry, counter]
      refine List.map_congr_left fun q here => ?_
      split
      · rfl
      · rw [State.renumbering_of_room stillRoom]
        exact revised_self (s.record?_of_mem law.1.1 here)
    · dsimp only
      split
      next is => subst is; exact outlet
      next other => exact others j other
    · rw [attention]
      simp only [decide_eq_true_eq]

/-! ### Arrival at the last ordinal (R31) -/

section
variable {s : State} {k : OutletId}

/-- R31: what renumbering a content list makes of its outlet, of its members and of the other records. -/
theorem State.renumberContent_spec (members : s.membershipLaw)
    (few : (s.outlet k).content.length ≤ 8192) :
    (∀ i ref, (s.outlet k).content[i]? = some ref → ((s.renumberContent k).arrivalOf ref).toNat = i) ∧
      (∀ ref, ref ∉ (s.outlet k).content → (s.renumberContent k).record? ref = s.record? ref) := by
  have found (ref : Ref) :
      (s.renumberContent k).record? ref = (s.record? ref).map (renumbered (s.outlet k).content) :=
    State.record?_of_map (s := s) rfl (fun q => (renumbered_keeps _ q).1) ref
  refine ⟨fun i ref at_ => ?_, fun ref out => ?_⟩
  · obtain ⟨-, outlets, -⟩ := members
    obtain ⟨-, sorted, -, nodup⟩ := outlets k
    obtain ⟨inside, is⟩ := List.getElem?_eq_some_iff.mp at_
    obtain ⟨r, there, arrival, stray, state⟩ := sorted ref (is ▸ List.getElem_mem inside)
    have own := (s.record?_some there).2
    rw [State.arrivalOf, found, there, Option.map_some,
      renumbered_of_getElem nodup inside (is.trans own.symm) state]
    simp only [BitVec.toNat_ofNat]
    omega
  · rw [found]
    cases there : s.record? ref with
    | none => rfl
    | some r =>
      have own := (s.record?_some there).2
      rw [Option.map_some, renumbered_of_not_mem (own ▸ out)]

/-- R9, R31: a member whose ordinal a renumbering changes advances its revision. -/
theorem revised_renumbered {content : List Ref} {q : ItemRecord} (found : s.record? q.ref = some q) :
    revised s (renumbered content q) =
      match q.state, content.findIdx? (fun ref => decide (ref = q.ref)) with
      | .sorted j arrival stray, some i =>
        if arrival = BitVec.ofNat 32 i then q
        else { q with state := .sorted j (BitVec.ofNat 32 i) stray, revision := q.revision + 1 }
      | _, _ => q := by
  unfold renumbered
  cases state : q.state with
  | sorted j arrival stray =>
    cases content.findIdx? (fun ref => decide (ref = q.ref)) with
    | none => exact revised_self found
    | some i =>
      dsimp only
      split
      next is =>
        have same : { q with state := .sorted j (BitVec.ofNat 32 i) stray } = q := by rw [← is, ← state]
        rw [same]
        exact revised_self found
      next differs =>
        refine revised_of_changed (new := { q with state := .sorted j (BitVec.ofNat 32 i) stray }) found fun same => ?_
        have is := congrArg ItemRecord.state same
        rw [state] at is
        injection is with _ number
        exact differs number.symm
  | _ => exact revised_self found

end

/-- Settles O54: the renumbering of a content list, and the arrival that it precedes. -/
theorem contentIsRenumberedAtTheLastOrdinal : Obligations.ContentIsRenumberedAtTheLastOrdinal := by
  unfold Obligations.ContentIsRenumberedAtTheLastOrdinal
  refine ⟨fun s k _ members few => ?_, ?_⟩
  · intro o t
    refine ⟨fun room => State.renumberIfDue_of_room room, fun last => ?_⟩
    have is : t = s.renumberContent k := State.renumberIfDue_of_last last
    obtain ⟨positions, others⟩ := State.renumberContent_spec members few
    rw [is]
    refine ⟨State.outlet_setOutlet_self _ _ _, positions, others, fun ref r found => ⟨renumbered o.content r, ?_, ?_, ?_⟩,
      fun j other => State.outlet_setOutlet_ne _ _ other, rfl⟩
    · rw [State.record?_of_map (s := s) (t := s.renumberContent k) rfl fun q => (renumbered_keeps _ q).1, found]
      rfl
    · exact (renumbered_keeps _ r).2.2.1
    · rw [← State.renumbering_of_last last]
      exact (State.renumbering_state r).2
  · intro s l takeUp key k d r steps law defined own found elsewhere last o n outcome arrived renumber
    have found' := State.record?_of_recordOfKey? found
    obtain ⟨records, keyIndex, serial, counts, outlet, others, bins, lanes, groups, attention, same, follows⟩ :=
      State.fileArrival_spec law found' elsewhere (decide (outcome = .stray))
    obtain ⟨mem, -⟩ := s.record?_some found'
    have entry : (s.leaveLists r).outlet k = o := (s.leaveLists_spec r (law.2.2.1 r mem)).1 k
    have stillLast : ((s.leaveLists r).outlet k).arrivalCounter = 0xFFFFFFFF := by
      rw [entry]
      exact (OutletEntry.without_arrivalCounter _ _ _).trans last
    have arrivals : (s.leaveLists r).arrivalOf = s.arrivalOf := by
      funext ref
      simp only [State.arrivalOf, State.record?, State.leaveLists_records]
    have renumbers : ((s.leaveLists r).renumberIfDue k).outlet k =
        { o with
          arrivalCounter := BitVec.ofNat 32 n
          clearing := o.clearing.map fun b =>
            BitVec.ofNat 32 (o.content.countP fun q => decide ((s.arrivalOf q).toNat < b.toNat)) } := by
      rw [State.renumberIfDue_of_last stillLast, State.renumberContent, State.outlet_setOutlet_self, entry, arrivals]
    have next : BitVec.ofNat 32 n + 1 = BitVec.ofNat 32 (n + 1) := (BitVec.ofNat_add ..).symm
    rw [renumbers] at records outlet
    refine ⟨s.fileArrival k r (decide (outcome = .stray)),
      exec_confirmStep_of_record steps defined own found (State.confirmRecord_eq elsewhere),
      ?_, keyIndex, serial, counts, ?_, others, bins, lanes, groups, ?_, same, follows⟩
    · rw [records]
      refine List.map_congr_left fun q here => ?_
      split
      · rfl
      · rw [State.renumbering_of_last stillLast, entry]
        refine (revised_renumbered (s.record?_of_mem law.1.1 here)).trans ?_
        unfold renumber
        cases q.state <;> cases o.content.findIdx? (fun ref => decide (ref = q.ref)) <;> rfl
    · rw [outlet, ← next]
    · rw [attention]
      simp only [decide_eq_true_eq]

end Sys2Proof.Machine
end

section
/-!
SUPPORT. A record's joining an expected list: the entries, the routed counts and the FULL reasons (R27, R29, R33).
-/
namespace Sys2Proof.Machine

section
variable {s t : State} {l : Lane} {p : Place}

/-- R29: a change of an expected list is one of its outlet's entry, or of its bin's. -/
theorem State.setExpected_outlet (l : Lane) (p : Place) (refs : List Ref) (n : Nat) (k : OutletId) :
    (s.setExpected l p refs n).outlet k =
      if p = .outlet k then { s.outlet k with reserved := n, expected := refs } else s.outlet k := by
  cases p with
  | bin => rw [if_neg (by simp)]; rfl
  | outlet j =>
    simp only [State.setExpected, State.outlet_setOutlet, Place.outlet.injEq, @eq_comm _ j k]
    split
    next here => rw [here]
    next => rfl

theorem State.setExpected_bin (l : Lane) (p : Place) (refs : List Ref) (n : Nat) (j : Lane) :
    (s.setExpected l p refs n).bin j = if p = .bin ∧ j = l then { reserved := n, expected := refs } else s.bin j := by
  cases p with
  | bin => simp only [State.setExpected, State.bin_setBin, true_and]
  | outlet k => rw [if_neg (by simp)]; rfl

/-- R29, R33: a record's joining an expected list raises the routed count of its lane by one, and no other. -/
theorem State.setExpected_routedCount (on : s.targetOnLane l p = true) (refs : List Ref) (j : Lane) :
    (s.setExpected l p refs (s.reserved l p + 1)).routedCount j = s.routedCount j + if j = l then 1 else 0 := by
  cases p with
  | bin =>
    have count := State.routedCount_of_bin (s := s) (t := s.setExpected l .bin refs (s.reserved l .bin + 1))
      (fun k => rfl) j
    rw [State.setExpected_bin] at count
    by_cases own : j = l
    · subst own
      simp only [and_self, if_true, State.reserved] at count ⊢
      omega
    · simp only [own, and_false, if_false] at count ⊢
      omega
  | outlet k =>
    have count := State.routedCount_of_one_outlet (s := s) (t := s.setExpected l (.outlet k) refs (s.reserved l (.outlet k) + 1))
      (l := j) k (fun i other => by rw [State.setExpected_outlet, if_neg (by simpa using Ne.symm other)]) rfl
    have own : (s.outlet k).definedOn l = true := on
    rw [State.setExpected_outlet, if_pos rfl] at count
    have counts (o : OutletEntry) (same : o.definition = (s.outlet k).definition) :
        o.reservedOn j = if j = l then o.reserved else 0 := by
      have defined : o.definedOn j = decide (l = j) := by
        rw [OutletEntry.definedOn_eq, same, ← OutletEntry.definedOn_eq, OutletEntry.definedOn_iff_of own]
      simp only [OutletEntry.reservedOn, defined, decide_eq_true_eq, @eq_comm _ l j]
    rw [counts (s.outlet k) rfl, counts _ (by rfl)] at count
    simp only [State.reserved] at count ⊢
    split
    next here => rw [if_pos here, if_pos here] at count; omega
    next other => rw [if_neg other, if_neg other] at count; omega

/-- R27: of a record that joins a place, the place's outlet alone may become FULL. -/
theorem fullReasons_of_join (others : ∀ k, p ≠ .outlet k →
    ¬((s.outlet k).state = .opened ∧ (t.outlet k).state = .full)) : fullReasons s t = filledAt s t p := by
  cases p with
  | bin => exact fullReasons_none fun k => others k (by simp)
  | outlet j => exact fullReasons_of_one fun k other => others k (by simpa using Ne.symm other)

end

end Sys2Proof.Machine
end

section
/-!
PROOF. Obligations O58 to O60: the notices and the revise items of the internal work list (R90 to R95, R100, R107).
-/
namespace Sys2Proof.Machine

section
variable {s t : State} {l : Lane} {takeUp : Bool}

theorem State.itemStepping_of_itemSteps {w : WorkItem} (steps : s.itemSteps l w) : s.itemStepping l = some w := by
  obtain ⟨steps, head⟩ := steps
  unfold State.itemStepping
  rw [s.laneStepping_of_laneSteps l _ steps]
  exact head

theorem State.reviseStepping_of_itemSteps {e : ReviseEntry} (steps : s.itemSteps l (.revise e)) {c : ReviseCondition}
    (condition : e.condition = c) : s.reviseStepping l c = some e := by
  unfold State.reviseStepping
  rw [State.itemStepping_of_itemSteps steps]
  exact if_pos condition

/-- Settles O58: the reason of a notice, and the late notice of a key without a record. -/
theorem noticesAddTheirReason : Obligations.NoticesAddTheirReason := by
  unfold Obligations.NoticesAddTheirReason
  intro s l takeUp adds
  refine ⟨fun key ticket steps => ?_, fun steps => ?_⟩
  · have does : exec (.lateNoticeStep l takeUp) s = .next ((s.serveLateNotice key).completeLaneStep l none takeUp) := by
      have is : exec (.lateNoticeStep l takeUp) s = execLateNoticeStep l takeUp s := rfl
      rw [is]
      unfold execLateNoticeStep
      rw [State.itemStepping_of_itemSteps steps]
    refine ⟨fun unknown => does.trans ?_, fun r found => does.trans ?_⟩
    · simp only [State.serveLateNotice, unknown]
    · have adds_ : s.serveLateNotice key = adds (.item r.ref, .late) := by
        simp only [State.serveLateNotice, found]
        rfl
      rw [adds_]
  · have is : exec (.linkFaultNoticeStep l takeUp) s = execLinkFaultNoticeStep l takeUp s := rfl
    rw [is]
    unfold execLinkFaultNoticeStep
    rw [State.itemStepping_of_itemSteps steps]
    rfl

/-! ### Revise items (R90 to R95) -/

theorem exec_answeredTakenStep {e : ReviseEntry} (steps : s.itemSteps l (.revise e))
    (condition : e.condition = .answeredTaken) :
    exec (.answeredTakenStep l takeUp) s = .next ((s.serveTaken l e).completeLaneStep l none takeUp) := by
  have is : exec (.answeredTakenStep l takeUp) s = execAnsweredTakenStep l takeUp s := rfl
  rw [is]
  unfold execAnsweredTakenStep
  rw [State.reviseStepping_of_itemSteps steps condition]

theorem exec_answeredTooLateStep {e : ReviseEntry} (steps : s.itemSteps l (.revise e))
    (condition : e.condition = .answeredTooLate) :
    exec (.answeredTooLateStep l takeUp) s = .next ((s.serveTooLate l e).completeLaneStep l none takeUp) := by
  have is : exec (.answeredTooLateStep l takeUp) s = execAnsweredTooLateStep l takeUp s := rfl
  rw [is]
  unfold execAnsweredTooLateStep
  rw [State.reviseStepping_of_itemSteps steps condition]

theorem exec_expiredStep {e : ReviseEntry} (steps : s.itemSteps l (.revise e)) (condition : e.condition = .expired) :
    exec (.expiredStep l takeUp) s = .next ((s.serveExpired l e).completeLaneStep l none takeUp) := by
  have is : exec (.expiredStep l takeUp) s = execExpiredStep l takeUp s := rfl
  rw [is]
  unfold execExpiredStep
  rw [State.reviseStepping_of_itemSteps steps condition]

section
variable {e : ReviseEntry}

/-- R95: an item finds its revision on the record of its entry, ROUTED on the lane with the entry's ordinal. -/
theorem State.stillPending_eq {r : ItemRecord} {assigned pending : Place} (found : s.record? e.ref = some r)
    (lane : r.lane = some l) (state : r.state = .routed assigned e.ordinal (some pending)) :
    s.stillPending l e = some assigned := by
  unfold State.stillPending
  rw [found]
  simp only [state, lane, and_self, if_true]

/-- R95: an item finds none where another step has cleared it. -/
theorem State.stillPending_none (cleared : ∀ r assigned pending, s.record? e.ref = some r → r.lane = some l →
    r.state ≠ .routed assigned e.ordinal (some pending)) : s.stillPending l e = none := by
  cases still : s.stillPending l e with
  | none => rfl
  | some p =>
    obtain ⟨r, target, found, state, lane⟩ := State.stillPending_inv still
    exact absurd state (cleared r p target found lane)

/-- R91 to R93: the completion of a step that clears a pending revision and leaves the record at its place. -/
theorem commit_settleRevision {r : ItemRecord} {assigned pending : Place} (law : s.orderly)
    (found : s.record? e.ref = some r) (state : r.state = .routed assigned e.ordinal (some pending))
    (xs : List (Subject × Reason)) :
    commit s (s.settleRevision l e assigned) xs =
      ((s.withRecord r.ref { r with state := .routed assigned e.ordinal none, revision := r.revision + 1 }).setLane l
        ((s.lane l).settled e.ref e.ordinal)).noteReasons xs := by
  obtain ⟨-, ref⟩ := s.record?_some found
  have found' : s.record? r.ref = some r := ref.symm ▸ found
  let new : ItemRecord := { r with state := .routed assigned e.ordinal none }
  have differs : { new with revision := r.revision } ≠ r := fun same => by
    have is := congrArg ItemRecord.state same
    simp [new, state] at is
  have is : s.settleRevision l e assigned =
      (s.withRecord r.ref new).setLane l ((s.lane l).settled e.ref e.ordinal) := by
    rw [State.settleRevision, LaneUnit.dropRevision_eq, ← ref, State.updateRecord_eq law.1 found']
  have states (j : Lane) : (((s.withRecord r.ref new).setLane l ((s.lane l).settled e.ref e.ordinal)).lane j).state =
      (s.lane j).state := by
    rw [State.lane_setLane]
    split
    next here => rw [here]; rfl
    next => rfl
  rw [is, commit_withRecord (a := (s.withRecord r.ref new).setLane l ((s.lane l).settled e.ref e.ordinal)) (new := new) law
    found' rfl (by rw [state]; rfl) rfl rfl rfl rfl states, revised_of_changed (new := new) found' differs]
  rfl

end

end

/-- Settles O60: the items whose revision has gone, and the two that leave the record at its place. -/
theorem otherRevisionsLeaveTheRecord : Obligations.OtherRevisionsLeaveTheRecord := by
  unfold Obligations.OtherRevisionsLeaveTheRecord
  intro s l takeUp e steps runs
  refine ⟨fun cleared => ⟨fun condition => ?_, fun condition => ?_, fun condition => ?_⟩,
    fun r assigned pending law found lane state => ?_⟩
  · refine (exec_answeredTakenStep steps condition).trans ?_
    simp only [State.serveTaken, State.stillPending_none cleared]
  · refine (exec_answeredTooLateStep steps condition).trans ?_
    simp only [State.serveTooLate, State.stillPending_none cleared]
  · refine (exec_expiredStep steps condition).trans ?_
    simp only [State.serveExpired, State.stillPending_none cleared]
  · have still := State.stillPending_eq found lane state
    intro settles
    refine ⟨fun condition => (exec_answeredTooLateStep steps condition).trans ?_,
      fun condition => (exec_expiredStep steps condition).trans ?_⟩
    · simp only [State.serveTooLate, still, State.refuseRevision, commit_settleRevision law found state]
      rfl
    · simp only [State.serveExpired, still, commit_settleRevision law found state]
      rfl

end Sys2Proof.Machine
end

section
/-!
PROOF. Obligation O59: the step of an ANSWERED TAKEN entry (R90, R91).
-/
namespace Sys2Proof.Machine

section
variable {s : State} {l : Lane} {e : ReviseEntry} {r : ItemRecord} {assigned old : Place}

theorem Counts.move_self (c : Counts) (k : StateKind) : c.move k k = c := if_pos rfl

theorem State.targetOnLane_iff (s : State) (l : Lane) (p : Place) :
    s.targetOnLane l p = true ↔ ∀ k, p = .outlet k → ∃ d, (s.outlet k).definition = some d ∧ d.lane = l := by
  cases p with
  | bin => simp [State.targetOnLane]
  | outlet j =>
    simp only [State.targetOnLane, OutletEntry.definedOn_iff, Place.outlet.injEq]
    exact ⟨fun own k is => is ▸ own, fun all => all j rfl⟩

/-- R72: a record ROUTED on the lane leaves its expected list as it leaves its lists. -/
theorem State.removeExpected_of_routed {ordinal : Word32} {pending : Option Place}
    (state : r.state = .routed assigned ordinal pending) (lane : r.lane = some l) :
    (s.removeExpected l assigned r.ref).store = (s.leaveLists r).store := by
  unfold State.leaveLists
  rw [state, lane]
  simp only [State.clearPending_spec]
  rfl

/-- R90: the state in which the record has moved to its target, before the completion. -/
def State.taken (s : State) (l : Lane) (e : ReviseEntry) (assigned : Place) : State :=
  ((s.removeExpected l assigned e.ref).insertExpected l e.target e.ref e.ordinal).settleRevision l e e.target

/-- R90: the entries and the units once a record has moved to the target of its revision. -/
theorem State.taken_spec (law : s.listed) (found : s.record? r.ref = some r) (ref : r.ref = e.ref)
    (state : r.state = .routed assigned e.ordinal (some old)) (lane : r.lane = some l)
    (on : s.targetOnLane l e.target = true) :
    let a := s.taken l e assigned
    (∀ k, a.outlet k =
        let o := (s.outlet k).without k r
        if e.target = .outlet k then
          { o with reserved := o.reserved + 1, expected := insertByOrdinal s.ordinalOf e.ref e.ordinal o.expected }
        else o) ∧
      (∀ j, a.bin j =
        let b := (s.bin j).without j r
        if e.target = .bin ∧ j = l then
          { reserved := b.reserved + 1, expected := insertByOrdinal s.ordinalOf e.ref e.ordinal b.expected }
        else b) ∧
      (∀ j, a.lane j = if j = l then (s.lane l).settled e.ref e.ordinal else s.lane j) ∧
      ∀ j, a.routedCount j = s.routedCount j := by
  intro a
  obtain ⟨mem, -⟩ := s.record?_some found
  obtain ⟨outlet, bin, -, -⟩ := s.leaveLists_spec r (law.2.2.1 r mem)
  let u := s.removeExpected l assigned e.ref
  have store : u.store = (s.leaveLists r).store := by
    rw [← State.removeExpected_of_routed state lane, ref]
  have ordinals : u.ordinalOf = s.ordinalOf := by
    funext q
    simp only [State.ordinalOf, State.record?, u, State.removeExpected_records]
  have entry (k : OutletId) : u.outlet k = (s.outlet k).without k r := by
    rw [← outlet]
    exact congrArg (fun x : Store => x.outlets[k]) store
  have entry' (j : Lane) : u.bin j = (s.bin j).without j r := by
    rw [← bin]
    exact congrArg (fun x : Store => x.bins[j]) store
  have on' : u.targetOnLane l e.target = true := by
    rw [State.targetOnLane_congr (s := s) fun k => by rw [entry, OutletEntry.without_definition]]
    exact on
  have counts (j : Lane) : u.routedCount j = (s.leaveLists r).routedCount j :=
    State.routedCount_of_same (fun k => by rw [entry, outlet]) (by rw [entry', bin])
  have units (j : Lane) : u.lane j = s.lane j := by simp only [u, State.lane, State.removeExpected_lanes]
  have joined (j : Lane) : (u.insertExpected l e.target e.ref e.ordinal).lane j = s.lane j := by
    rw [← units j]
    simp only [State.lane, State.insertExpected, State.setExpected_lanes]
  refine ⟨fun k => ?_, fun j => ?_, fun j => ?_, fun j => ?_⟩
  · have is : a.outlet k = (u.insertExpected l e.target e.ref e.ordinal).outlet k := rfl
    rw [is, State.insertExpected, State.setExpected_outlet, ordinals]
    simp only [← entry]
    by_cases here : e.target = .outlet k
    · simp only [here, if_true]
      rfl
    · simp only [here, if_false]
  · have is : a.bin j = (u.insertExpected l e.target e.ref e.ordinal).bin j := rfl
    rw [is, State.insertExpected, State.setExpected_bin, ordinals]
    simp only [← entry']
    by_cases here : e.target = .bin ∧ j = l
    · obtain ⟨bin_, rfl⟩ := here
      simp only [bin_, and_self, if_true]
      rfl
    · simp only [here, if_false]
  · have is : a.lane j = if j = l then ((u.insertExpected l e.target e.ref e.ordinal).lane l).dropRevision e.ref e.ordinal
        else (u.insertExpected l e.target e.ref e.ordinal).lane j := State.lane_setLane _ _ _ _
    rw [is, joined, joined, LaneUnit.dropRevision_eq]
  · have is : a.routedCount j = (u.insertExpected l e.target e.ref e.ordinal).routedCount j := rfl
    have left := State.leaveLists_routedCount (law.2.2.1 r mem) law.2.1 j
    have own : routedOn j r = decide (j = l) := by simp [routedOn, state, stateKind, lane, eq_comm]
    rw [is, State.insertExpected, State.setExpected_routedCount on', counts]
    simpa only [own, decide_eq_true_eq] using left

theorem State.taken_kept (s : State) (l : Lane) (e : ReviseEntry) (assigned : Place) :
    (s.taken l e assigned).store.records =
        (s.store.records.map fun q => if q.ref = e.ref then { q with state := .routed e.target e.ordinal none } else q) ∧
      (s.taken l e assigned).store.keyIndex = s.store.keyIndex ∧
      (s.taken l e assigned).store.serialCounter = s.store.serialCounter ∧
      (s.taken l e assigned).store.counts = s.store.counts ∧
      (s.taken l e assigned).store.groups = s.store.groups ∧
      (s.taken l e assigned).store.attention = s.store.attention := by
  refine ⟨?_, ?_, ?_, ?_, ?_, ?_⟩ <;> simp [State.taken, State.settleRevision, State.insertExpected]

/-- R90: the completion of a step that moves a record to the target of its revision. -/
theorem commit_taken (law : s.listed) (found : s.record? e.ref = some r)
    (state : r.state = .routed assigned e.ordinal (some old)) (lane : r.lane = some l)
    (on : s.targetOnLane l e.target = true) :
    let t := commit s (s.taken l e assigned) []
    s.recordBecomes t r { r with state := .routed e.target e.ordinal none, revision := r.revision + 1 } ∧
      (∀ k, t.outlet k = (s.taken l e assigned).outlet k) ∧ (∀ j, t.bin j = (s.taken l e assigned).bin j) ∧
      (∀ j, t.lane j = if j = l then (s.lane l).settled e.ref e.ordinal else s.lane j) ∧
      t.store.groups = s.store.groups ∧ t.store.attention = withReasons s.store.attention (filledAt s t e.target) ∧
      s.sameElsewhere t ∧ s.followsUp t := by
  intro t
  have is : t = commit s (s.taken l e assigned) [] := rfl
  clear_value t
  subst is
  obtain ⟨-, ref⟩ := s.record?_some found
  have found' : s.record? r.ref = some r := ref.symm ▸ found
  obtain ⟨outlet, -, unit, count⟩ := State.taken_spec law found' ref state lane on
  obtain ⟨records, keyIndex, serial, counts, groups, attention⟩ := s.taken_kept l e assigned
  have outside : s.keepsOutside (s.taken l e assigned) :=
    (StoreChange.revisionTaken l e assigned (State.stillPending_eq found lane state) on).keepsOutside
  have units (j : Lane) : ((s.taken l e assigned).lane j).state = (s.lane j).state := by
    rw [unit]
    split
    next here => rw [here]; rfl
    next => rfl
  have noDrain (j : Lane) : (s.taken l e assigned).drainComplete j = false :=
    State.drainComplete_of_same law.1.2.1 (units j) (count j)
  have fills : fullReasons s (s.taken l e assigned) = filledAt s (s.taken l e assigned) e.target :=
    fullReasons_of_join fun k other => not_filled_of_leaving (by rw [outlet]; exact if_neg other)
  have differs : { r with state := .routed e.target e.ordinal none, revision := r.revision } ≠ r := fun same => by
    have is := congrArg ItemRecord.state same
    simp [state] at is
  refine ⟨commit_recordBecomes (new := { r with state := .routed e.target e.ordinal none }) law.1.1 found' rfl differs ?_
    keyIndex serial ?_, fun k => commit_outlet _ _ _ _, fun j => commit_bin _ _ _ _, fun j => ?_,
    by rw [commit_groups, groups], ?_, commit_sameElsewhere outside, commit_followsUp outside⟩
  · rw [records, ← ref]
    exact congrArg (fun u : State => u.store.records)
      (State.updateRecord_eq law.1.1 found' fun q => { q with state := .routed e.target e.ordinal none })
  · rw [counts, state]
    exact (Counts.move_self _ _).symm
  · rw [← unit j]
    exact congrArg (fun ls : Vector LaneUnit 4 => ls[j]) (commit_lanes_of_no_drain noDrain [])
  · rw [commit_withReasons attention, completionReasons, State.drainReasons_none noDrain, fills, filledAt_commit,
      List.append_nil, List.nil_append]

end

/-- Settles O59: the record moves to a target that is the lane's, and stays where it was otherwise. -/
theorem takenRevisionMovesTheRecord : Obligations.TakenRevisionMovesTheRecord := by
  unfold Obligations.TakenRevisionMovesTheRecord
  intro s l takeUp e r assigned old steps condition law found state lane u onLane
  have still := State.stillPending_eq found lane state
  by_cases on : s.targetOnLane l e.target = true
  · have own : onLane := (s.targetOnLane_iff l e.target).mp on
    obtain ⟨becomes, outlets, bins, units, groups, attention, same, follows⟩ := commit_taken law found state lane on
    obtain ⟨-, ref⟩ := s.record?_some found
    obtain ⟨outlet, bin, -, -⟩ := State.taken_spec law (ref.symm ▸ found) ref state lane on
    refine ⟨commit s (s.taken l e assigned) [], (exec_answeredTakenStep steps condition).trans ?_, units, groups, same,
      follows, fun _ => ⟨becomes, fun k => (outlets k).trans (outlet k), fun j => (bins j).trans (bin j), attention⟩,
      fun away => absurd own away⟩
    simp only [State.serveTaken, still, if_pos on]
    rfl
  · have away : ¬onLane := fun own => on ((s.targetOnLane_iff l e.target).mpr own)
    have outside := (StoreChange.revisionDropped l e assigned .reviseRefused still).keepsOutside
    have commits := commit_settleRevision (l := l) law.1 found state [(.item e.ref, .reviseRefused)]
    refine ⟨commit s (s.settleRevision l e assigned) [(.item e.ref, .reviseRefused)],
      (exec_answeredTakenStep steps condition).trans ?_, fun j => ?_, by rw [commits]; rfl, commit_sameElsewhere outside,
      commit_followsUp outside, fun own => absurd own away, fun _ => ⟨⟨by rw [commits]; rfl, by rw [commits]; rfl,
      by rw [commits]; rfl, ?_⟩, fun k => by rw [commits]; rfl, fun j => by rw [commits]; rfl, by rw [commits]; rfl⟩⟩
    · simp only [State.serveTaken, still, if_neg on]
      rfl
    · rw [commits, State.noteReasons_lane, State.lane_setLane]
      rfl
    · rw [commits, state]
      exact (Counts.move_self _ _).symm

end Sys2Proof.Machine
end

section
/-!
PROOF. Obligations O50 and O51: the LOOKUP step of a key with a record, and the answers without a route (R50 to R63).
-/
namespace Sys2Proof.Machine

section
variable {s t : State} {l : Lane} {takeUp : Bool} {key : Key} {tag : Word} {expiry : Word32} {lapLimit : Nat}
  {holdGroup : Destination}

/-- R51, R63: the completion of a LOOKUP step, by what the LOOKUP came to. -/
theorem exec_lookupStep (steps : s.laneSteps l (.request (.lookup key tag expiry lapLimit holdGroup))) {p : Place}
    {reason : AnswerReason}
    (serves : s.serveLookup l key lapLimit holdGroup = { place := p, reason := reason, state := t }) :
    exec (.lookupStep l takeUp) s = .next (t.completeLaneStep l (some (.answer tag p reason none)) takeUp) := by
  have is : exec (.lookupStep l takeUp) s = execLookupStep l takeUp s := rfl
  rw [is]
  unfold execLookupStep
  rw [s.laneStepping_of_laneSteps l _ steps]
  simp only [serves]

/-- R50, R51: a RUNNING lane serves a LOOKUP by its key. -/
theorem State.serveLookup_running (running : (s.lane l).state = .running) :
    s.serveLookup l key lapLimit holdGroup =
      match s.recordOfKey? key with
      | none => s.lookupUnknown l key
      | some r => s.lookupFound l r lapLimit holdGroup := by
  unfold State.serveLookup
  rw [running]
  cases s.recordOfKey? key <;> rfl

/-- R55: a record that is not ROUTED on the lane is routed there. -/
theorem State.lookupFound_elsewhere {r : ItemRecord} (elsewhere : ¬(stateKind r.state = .routed ∧ r.lane = some l)) :
    s.lookupFound l r lapLimit holdGroup = s.lookupRoute l r lapLimit holdGroup := by
  unfold State.lookupFound
  cases state : r.state with
  | routed p n pending => exact if_neg fun lane => elsewhere ⟨by rw [state]; rfl, lane⟩
  | _ => rfl

end

/-- Settles O50: what a LOOKUP is answered that routes nothing. -/
theorem lookupAnswersWithoutRouting : Obligations.LookupAnswersWithoutRouting := by
  unfold Obligations.LookupAnswersWithoutRouting
  intro s l takeUp key tag expiry lapLimit holdGroup steps u answers
  refine ⟨fun stopped => exec_lookupStep steps ?_, fun draining => exec_lookupStep steps ?_, fun running =>
    ⟨fun unknown => ⟨fun none_ => exec_lookupStep steps ?_, fun some_ => ?_⟩, fun r found =>
      ⟨fun p ordinal pending state lane => exec_lookupStep steps ?_,
        fun elsewhere exhausted => exec_lookupStep steps ?_⟩⟩⟩
  · have refuses : (s.lane l).state = .stopped := stopped
    simp only [State.serveLookup, refuses, LaneState.refusal, answerOnly]
  · have refuses : (s.lane l).state = .draining := draining
    simp only [State.serveLookup, refuses, LaneState.refusal, answerOnly]
  · rw [State.serveLookup_running running, unknown]
    simp only [State.lookupUnknown, none_, answerOnly]
  · obtain ⟨n, wins⟩ := Option.isSome_iff_exists.mp some_
    refine ⟨fun full => ?_, fun slot small free exhausted => exec_lookupStep steps ?_⟩
    · have none_ := State.lowestFreeSlot_full full
      have serves : s.serveLookup l key lapLimit holdGroup =
          { place := .bin, reason := .directoryFull, state := s.noteReasons [(.directory, .directoryFull)] } := by
        rw [State.serveLookup_running running, unknown]
        simp only [State.lookupUnknown, wins, none_, answerOnly]
      exact exec_lookupStep steps serves
    · rw [State.serveLookup_running running, unknown]
      have used : (s.lane l).exhausted = true := exhausted
      obtain ⟨m, lowest⟩ : ∃ m, s.lowestFreeSlot = some m := by
        cases lowest : s.lowestFreeSlot with
        | some m => exact ⟨m, rfl⟩
        | none =>
          obtain ⟨r, mem, is⟩ := s.lowestFreeSlot_none lowest small
          exact absurd is (free r mem)
      simp only [State.lookupUnknown, wins, lowest, used, if_true, answerOnly]
  · rw [State.serveLookup_running running, found]
    simp only [State.lookupFound, state, lane, if_true, answerOnly]
  · have used : (s.lane l).exhausted = true := exhausted
    rw [State.serveLookup_running running, found]
    simp only [State.lookupFound_elsewhere elsewhere, State.lookupRoute, used, if_true, answerOnly]

/-! ### Routing (R60, R61) -/

section
variable {s t : State} {l : Lane} {p : Place} {ref : Ref}

/-- R60: the entries and the counts once a record has joined the tail of its place's expected list. -/
theorem State.route_spec (s : State) (l : Lane) (ref : Ref) (p : Place) :
    (∀ k, (s.route l ref p).outlet k =
        let o := s.outlet k
        if p = .outlet k then { o with reserved := o.reserved + 1, expected := o.expected ++ [ref] } else o) ∧
      (∀ j, (s.route l ref p).bin j =
        let b := s.bin j
        if p = .bin ∧ j = l then { reserved := b.reserved + 1, expected := b.expected ++ [ref] } else b) ∧
      (s.route l ref p).store.keyIndex = s.store.keyIndex ∧
      (s.route l ref p).store.serialCounter = s.store.serialCounter ∧
      (s.route l ref p).store.groups = s.store.groups ∧ (s.route l ref p).store.attention = s.store.attention := by
  have outlets : (s.route l ref p).store.outlets = (s.appendExpected l p ref).store.outlets := by simp [State.route]
  have bins : (s.route l ref p).store.bins = (s.appendExpected l p ref).store.bins := by simp [State.route]
  refine ⟨fun k => ?_, fun j => ?_, ?_, ?_, ?_, s.route_attention l ref p⟩
  · have is : (s.route l ref p).outlet k = (s.appendExpected l p ref).outlet k := by simp only [State.outlet, outlets]
    rw [is, State.appendExpected, State.setExpected_outlet]
    by_cases here : p = .outlet k
    · subst here
      rfl
    · simp only [here, if_false]
  · have is : (s.route l ref p).bin j = (s.appendExpected l p ref).bin j := by simp only [State.bin, bins]
    rw [is, State.appendExpected, State.setExpected_bin]
    by_cases here : p = .bin ∧ j = l
    · obtain ⟨rfl, rfl⟩ := here
      rfl
    · simp only [here, if_false]
  all_goals simp [State.route, State.appendExpected]

/-- R60, R11: the counts follow the record that is routed. -/
theorem State.route_counts {r : ItemRecord} (found : s.record? r.ref = some r) :
    (s.route l r.ref p).store.counts = s.store.counts.move (stateKind r.state) .routed := by
  let f : ItemRecord → ItemRecord := fun q => { q with lane := some l }
  let b := (s.appendExpected l p r.ref).setLane l (s.lane l).issueOrdinal
  have same : b.record? r.ref = some r := by
    rw [← found]
    simp only [State.record?, b, State.setLane_store, State.appendExpected, State.setExpected_records]
  have there : (b.updateRecord r.ref f).record? r.ref = some (f r) := State.record?_updateRecord (fun _ => rfl) same
  refine (State.changeState_counts (t := b.updateRecord r.ref f) (r := f r) there _).trans ?_
  simp only [State.updateRecord_counts, b, State.setLane_store, State.appendExpected, State.setExpected_counts]
  rfl

/-- R33, R60: a route raises the routed count of its lane by one, and no other. -/
theorem State.route_routedCount (on : s.targetOnLane l p = true) (ref : Ref) (j : Lane) :
    (s.route l ref p).routedCount j = s.routedCount j + if j = l then 1 else 0 := by
  have outlets : (s.route l ref p).store.outlets = (s.appendExpected l p ref).store.outlets := by simp [State.route]
  have bins : (s.route l ref p).store.bins = (s.appendExpected l p ref).store.bins := by simp [State.route]
  have same : (s.route l ref p).routedCount j = (s.appendExpected l p ref).routedCount j :=
    State.routedCount_of_same (fun k => by simp only [State.outlet, outlets]) (by simp only [State.bin, bins])
  rw [same]
  exact State.setExpected_routedCount on _ j

/-- R61: the unit of a RUNNING lane that has issued an ordinal. -/
theorem LaneUnit.issueOrdinal_running {u : LaneUnit} (running : u.state = .running) :
    u.issueOrdinal =
      if u.ordinalCounter = 0xFFFFFFFF then { u with exhausted := true, state := .draining }
      else { u with ordinalCounter := u.ordinalCounter + 1 } := by
  unfold LaneUnit.issueOrdinal
  rw [running]
  rfl

/-- R33, R110: a lane that has just routed a record has not drained. -/
theorem State.drainComplete_of_routed (on : s.targetOnLane l p = true) (ref : Ref) :
    (s.route l ref p).drainComplete l = false := by
  have count := State.route_routedCount on ref l
  simp only [if_true] at count
  simp only [State.drainComplete, decide_eq_false_iff_not]
  rintro ⟨-, none_⟩
  omega

/-- R58 to R60: a found record is routed by the lap test, and else by selection from its hold's or its destination's
group. -/
theorem routeRecord_eq (before b : State) (l : Lane) (r : ItemRecord) (lapLimit : Nat) (holdGroup : Destination) :
    let selected := b.select l (if r.hold.isSome then holdGroup else r.destination) none
    let p := if lapLimit ≤ r.laps then .bin else selected.1
    routeRecord before b l r lapLimit holdGroup =
      { place := p
        reason :=
          if lapLimit ≤ r.laps then .lapLimit
          else match selected.2.1 with
            | .primary | .rejectGroup => if r.hold.isSome then .held else .direct
            | .overflow => .overflow
            | .noOutlet => .noOutlet
        state := commit before ((if lapLimit ≤ r.laps then b else selected.2.2).route l r.ref p)
          ((if lapLimit ≤ r.laps then [(.item r.ref, .lapLimit)] else []) ++ (b.lane l).exhaustReasons l) } := by
  intro selected p
  unfold routeRecord chooseGroup
  by_cases atLimit : lapLimit ≤ r.laps
  · simp only [p, if_pos atLimit]
    rfl
  · simp only [p, selected, if_neg atLimit]
    cases hold : r.hold with
    | none =>
      simp only [Option.isSome_none, Bool.false_eq_true, if_false, routeFromGroup]
      cases (b.select l r.destination none).2.1 <;> rfl
    | some n =>
      simp only [Option.isSome_some, if_true, routeFromGroup]
      cases (b.select l holdGroup none).2.1 <;> rfl

end

end Sys2Proof.Machine
end

section
/-!
PROOF. Obligations O51 and O52: the LOOKUP step that routes a record (R14, R52, R54 to R63).
-/
namespace Sys2Proof.Machine

section
variable {s t : State} {l : Lane} {p : Place} {r : ItemRecord} {xs : List (Subject × Reason)}

/-- R37: a pointer that selection sets leaves the key index, the serial counter and the counts. -/
theorem PointersMoved.directory (moved : PointersMoved s t) :
    t.store.keyIndex = s.store.keyIndex ∧ t.store.serialCounter = s.store.serialCounter ∧
      t.store.counts = s.store.counts := by
  cases moved <;> exact ⟨rfl, rfl, rfl⟩

/-- R55: a record that is not ROUTED on the lane leaves nothing of the lane's unit. -/
theorem LaneUnit.without_elsewhere (u : LaneUnit) (elsewhere : ¬(stateKind r.state = .routed ∧ r.lane = some l)) :
    u.without l r = u := by
  unfold LaneUnit.without
  cases state : r.state with
  | routed q n pending =>
    cases pending with
    | none => rfl
    | some target => exact if_neg fun lane => elsewhere ⟨by rw [state]; rfl, lane⟩
  | _ => rfl

/-- R54 to R61: everything that the completion of a step does in which a found record is routed on a RUNNING lane, `t`
being the state with the record out of its lists and the rotation pointer of a selection set. -/
theorem commit_routes (law : s.listed) (found : s.record? r.ref = some r) (running : (s.lane l).state = .running)
    (elsewhere : ¬(stateKind r.state = .routed ∧ r.lane = some l)) (moved : PointersMoved (s.leaveLists r) t)
    (on : (s.leaveLists r).targetOnLane l p = true) (xs : List (Subject × Reason)) :
    let u := s.lane l
    let v := commit s (t.route l r.ref p) xs
    s.recordBecomes v r
        { r with state := .routed p u.ordinalCounter none, lane := some l, revision := r.revision + 1 } ∧
      (∀ k, v.outlet k =
        let o := (s.outlet k).without k r
        if p = .outlet k then { o with reserved := o.reserved + 1, expected := o.expected ++ [r.ref] } else o) ∧
      (∀ j, v.bin j =
        let b := (s.bin j).without j r
        if p = .bin ∧ j = l then { reserved := b.reserved + 1, expected := b.expected ++ [r.ref] } else b) ∧
      (∀ j, v.lane j =
        if j = l then
          if u.ordinalCounter = 0xFFFFFFFF then { u with exhausted := true, state := .draining }
          else { u with ordinalCounter := u.ordinalCounter + 1 }
        else s.laneWithout j r) ∧
      v.store.groups = t.store.groups ∧
      v.store.attention = withReasons s.store.attention (xs ++ filledAt s v p ++ s.drainedBy r) ∧
      s.sameElsewhere v ∧ s.followsUp v := by
  intro u v
  have is : v = commit s (t.route l r.ref p) xs := rfl
  clear_value v
  subst is
  obtain ⟨mem, -⟩ := s.record?_some found
  obtain ⟨outletLeft, binLeft, -, -⟩ := s.leaveLists_spec r (law.2.2.1 r mem)
  obtain ⟨outlet, bin, keyIndex, serial, groups, attention⟩ := t.route_spec l r.ref p
  obtain ⟨keyIndexMoved, serialMoved, countsMoved⟩ := moved.directory
  have unit (j : Lane) : t.lane j = (s.lane j).without j r := (moved.lane j).trans (s.leaveLists_lane r j)
  have own : t.lane l = u := (unit l).trans (LaneUnit.without_elsewhere _ elsewhere)
  have records : t.store.records = s.store.records := moved.records.trans (s.leaveLists_records r)
  have there : t.record? r.ref = some r := by rw [State.record?, records]; exact found
  have on' : t.targetOnLane l p = true := (moved.targetOnLane l p).trans on
  have count (j : Lane) : t.routedCount j = (s.leaveLists r).routedCount j :=
    State.routedCount_of_same (fun k => by rw [moved.outlet]) (by rw [moved.bin])
  have drains (j : Lane) : (t.route l r.ref p).drainComplete j = s.lastOf j r := by
    by_cases here : j = l
    · subst here
      rw [State.drainComplete_of_routed on']
      simp [State.lastOf, running]
    · refine State.drainComplete_of_left law mem ?_ ?_
      · rw [State.route_lane, if_neg here, unit, LaneUnit.without_state]
      · rw [State.route_routedCount on', if_neg here, Nat.add_zero, count]
  have fills : fullReasons s (t.route l r.ref p) = filledAt s (t.route l r.ref p) p :=
    fullReasons_of_join fun k other => not_filled_of_leaving (by
      rw [outlet, moved.outlet, outletLeft]; exact if_neg other)
  have outside : s.keepsOutside (t.route l r.ref p) :=
    ((s.leaveLists_keepsOutside r).trans moved.keepsOutside).trans (t.route_keepsOutside l r.ref p)
  let new : ItemRecord := { r with lane := some l, state := .routed p u.ordinalCounter none }
  have differs : { new with revision := r.revision } ≠ r := fun same =>
    elsewhere ⟨congrArg (fun q : ItemRecord => stateKind q.state) same.symm, congrArg ItemRecord.lane same.symm⟩
  have newRecords : (t.route l r.ref p).store.records =
      s.store.records.map fun q => if q.ref = r.ref then new else q := by
    rw [State.route_records, records, own]
    exact congrArg (fun w : State => w.store.records) (State.updateRecord_eq law.1.1 found fun q =>
      { q with lane := some l, state := .routed p u.ordinalCounter none })
  have newCounts : (t.route l r.ref p).store.counts = s.store.counts.move (stateKind r.state) (stateKind new.state) := by
    have same : t.store.counts = s.store.counts := countsMoved.trans (s.leaveLists_counts r)
    rw [State.route_counts there, same]
    rfl
  obtain ⟨becomes, list⟩ := commit_moves (xs := xs) law found (new := new) rfl differs newRecords
    (by rw [keyIndex, keyIndexMoved, State.leaveLists_keyIndex])
    (by rw [serial, serialMoved, State.leaveLists_serialCounter]) newCounts
    (by rw [attention, moved.attention, State.leaveLists_attention]) drains fills
  refine ⟨becomes, fun k => by rw [commit_outlet, outlet, moved.outlet, outletLeft],
    fun j => by rw [commit_bin, bin, moved.bin, binLeft], fun j => ?_, by rw [commit_groups, groups],
    by rw [filledAt_commit]; exact list, commit_sameElsewhere outside, commit_followsUp outside⟩
  split
  next here =>
    rw [here, commit_lane, State.drained, State.drainComplete_of_routed on', State.route_lane, if_pos rfl, own]
    exact LaneUnit.issueOrdinal_running running
  next other => exact commit_laneWithout drains (by rw [State.route_lane, if_neg other, unit])

end

/-- Settles O51: the place of the route, its reason, and everything that follows the record there. -/
theorem lookupRoutesTheRecord : Obligations.LookupRoutesTheRecord := by
  unfold Obligations.LookupRoutesTheRecord
  intro s l takeUp key tag expiry lapLimit holdGroup r steps law running found elsewhere unused u last selected p reason
  have found' := State.record?_of_recordOfKey? found
  have own : (s.leaveLists r).lane l = u := by
    rw [State.leaveLists_lane]
    exact LaneUnit.without_elsewhere _ elsewhere
  let t := if lapLimit ≤ r.laps then s.leaveLists r else selected.2.2
  let xs : List (Subject × Reason) := (if lapLimit ≤ r.laps then [(.item r.ref, .lapLimit)] else []) ++
    (if last then [(.lane l, .ordinalExhausted)] else [])
  obtain ⟨onSelected, movedSelected⟩ := State.select_inv (s := s.leaveLists r) (t := selected.2.2) (p := selected.1)
    (o := selected.2.1) (l := l) (g := if r.hold.isSome then holdGroup else r.destination) (given := none) rfl
  have on : (s.leaveLists r).targetOnLane l p = true := by
    simp only [p]
    split
    · rfl
    · exact onSelected
  have moved : PointersMoved (s.leaveLists r) t := by
    simp only [t]
    split
    · exact .kept
    · exact movedSelected
  have serves : s.serveLookup l key lapLimit holdGroup =
      { place := p, reason := reason, state := commit s (t.route l r.ref p) xs } := by
    have routes := routeRecord_eq s (s.leaveLists r) l r lapLimit holdGroup
    rw [own] at routes
    have notUsed : ¬(s.lane l).exhausted = true := by rw [unused]; exact Bool.false_ne_true
    rw [State.serveLookup_running running, found]
    simp only [State.lookupFound_elsewhere elsewhere, State.lookupRoute, if_neg notUsed]
    refine routes.trans ?_
    simp only [reason, selected]
    cases ((s.leaveLists r).select l (if r.hold.isSome then holdGroup else r.destination) none).2.1 <;> rfl
  obtain ⟨becomes, outlets, bins, lanes, groups, attention, same, follows⟩ :=
    commit_routes law found' running elsewhere moved on xs
  refine ⟨_, exec_lookupStep steps serves, becomes, outlets, bins, lanes, groups.trans ?_, attention, same, follows⟩
  simp only [t]
  split
  · exact s.leaveLists_groups r
  · rfl

/-! ### Creation and routing (R14, R52) -/

section
variable {s t : State} {l : Lane} {p : Place} {slot : Nat} {o : Origin} {d : ItemDefinition}

theorem insertRecord_map {g : ItemRecord → ItemRecord} (ref : ∀ q, (g q).ref = q.ref) (x : ItemRecord)
    (rs : List ItemRecord) : (insertRecord x rs).map g = insertRecord (g x) (rs.map g) := by
  induction rs with
  | nil => rfl
  | cons q qs ih =>
    simp only [insertRecord, List.map_cons, ref]
    split
    · simp only [List.map_cons]
    · rw [List.map_cons, ih]

theorem insertRecord_find?_self {x : ItemRecord} {rs : List ItemRecord} (new : ∀ q ∈ rs, q.ref ≠ x.ref) :
    (insertRecord x rs).find? (fun q => decide (q.ref = x.ref)) = some x := by
  induction rs with
  | nil => simp [insertRecord]
  | cons q qs ih =>
    unfold insertRecord
    split
    · simp
    · have other := new q List.mem_cons_self
      simp only [List.find?_cons, other, decide_false]
      exact ih fun r mem => new r (List.mem_cons_of_mem _ mem)

/-- R11: the counts once a record is created and routed. -/
theorem Counts.add_expected_move_routed (c : Counts) :
    (c.add .expected).move .expected .routed = { c with inUse := c.inUse + 1, routed := c.routed + 1 } := by
  simp [Counts.add, Counts.move, Counts.at]

/-- R14, R52, R60: everything that the completion of a step does in which a record is created in a free slot and routed
on a RUNNING lane, `t` being the state with the record created and the rotation pointer of the selection set. -/
theorem commit_createRoutes (law : s.orderly) (free : ∀ r ∈ s.store.records, r.ref.slot ≠ slot)
    (running : (s.lane l).state = .running) (moved : PointersMoved (s.createRecord slot o d) t)
    (on : s.targetOnLane l p = true) (xs : List (Subject × Reason)) :
    let u := s.lane l
    let ref : Ref := { slot := slot, serial := s.store.serialCounter }
    let v := commit s (t.route l ref p) xs
    v.store.records = insertRecord
        { ref := ref, key := d.key, origin := o, state := .routed p u.ordinalCounter none, destination := d.destination,
          hold := d.hold, hostTag := d.hostTag, laps := 0, lane := some l, revision := 0 } s.store.records ∧
      v.store.keyIndex = insertIndex { key := d.key, ref := ref } s.store.keyIndex ∧
      v.store.serialCounter = (if s.store.serialCounter = 0xFFFFFFFF then 1 else s.store.serialCounter + 1) ∧
      v.store.counts = { s.store.counts with inUse := s.store.counts.inUse + 1, routed := s.store.counts.routed + 1 } ∧
      (∀ k, v.outlet k =
        let o := s.outlet k
        if p = .outlet k then { o with reserved := o.reserved + 1, expected := o.expected ++ [ref] } else o) ∧
      (∀ j, v.bin j =
        let b := s.bin j
        if p = .bin ∧ j = l then { reserved := b.reserved + 1, expected := b.expected ++ [ref] } else b) ∧
      (∀ j, v.lane j =
        if j = l then
          if u.ordinalCounter = 0xFFFFFFFF then { u with exhausted := true, state := .draining }
          else { u with ordinalCounter := u.ordinalCounter + 1 }
        else s.lane j) ∧
      v.store.groups = t.store.groups ∧
      v.store.attention = withReasons s.store.attention (xs ++ filledAt s v p) ∧ s.sameElsewhere v ∧ s.followsUp v := by
  intro u ref v
  have is : v = commit s (t.route l ref p) xs := rfl
  clear_value v
  subst is
  let new : ItemRecord :=
    { ref := ref, key := d.key, origin := o, state := .expected, destination := d.destination, hold := d.hold,
      hostTag := d.hostTag, laps := 0, lane := none, revision := 0 }
  obtain ⟨outlet, bin, keyIndex, serial, groups, attention⟩ := t.route_spec l ref p
  obtain ⟨keyIndexMoved, serialMoved, countsMoved⟩ := moved.directory
  have unit (j : Lane) : t.lane j = s.lane j := moved.lane j
  have entry (k : OutletId) : t.outlet k = s.outlet k := moved.outlet k
  have entry' (j : Lane) : t.bin j = s.bin j := moved.bin j
  have unused (q : ItemRecord) (mem : q ∈ s.store.records) : q.ref ≠ ref := fun same =>
    free q mem (congrArg Ref.slot same)
  have there : t.record? new.ref = some new := by
    rw [State.record?, moved.records]
    exact insertRecord_find?_self unused
  have on' : t.targetOnLane l p = true := (moved.targetOnLane l p).trans on
  have count (j : Lane) : t.routedCount j = s.routedCount j :=
    State.routedCount_of_same (fun k => by rw [entry]) (by rw [entry'])
  have noDrain (j : Lane) : (t.route l ref p).drainComplete j = false := by
    by_cases here : j = l
    · rw [here]
      exact State.drainComplete_of_routed on' ref
    · refine State.drainComplete_of_same law.2.1 ?_ ?_
      · rw [State.route_lane, if_neg here, unit]
      · rw [State.route_routedCount on', if_neg here, Nat.add_zero, count]
  have fills : fullReasons s (t.route l ref p) = filledAt s (t.route l ref p) p :=
    fullReasons_of_join fun k other => by
      have same : (t.route l ref p).outlet k = s.outlet k := by rw [outlet, entry]; exact if_neg other
      rw [same]
      exact OutletEntry.not_filled rfl (Nat.le_refl _)
  have outside : s.keepsOutside (t.route l ref p) :=
    ((s.createRecord_keepsOutside slot o d).trans moved.keepsOutside).trans (t.route_keepsOutside l ref p)
  refine ⟨?_, by rw [commit_keyIndex, keyIndex, keyIndexMoved]; rfl,
    by rw [commit_serialCounter, serial, serialMoved]; rfl, ?_, fun k => by rw [commit_outlet, outlet, entry],
    fun j => by rw [commit_bin, bin, entry'], fun j => ?_, by rw [commit_groups, groups], ?_,
    commit_sameElsewhere outside, commit_followsUp outside⟩
  · have created : t.store.records = insertRecord new s.store.records := moved.records
    have kept : (s.store.records.map fun q =>
        revised s (if q.ref = ref then { q with lane := some l, state := .routed p u.ordinalCounter none } else q)) =
        s.store.records := by
      conv_rhs => rw [← List.map_id s.store.records]
      refine List.map_congr_left fun q mem => ?_
      rw [if_neg (unused q mem)]
      exact revised_self (s.record?_of_mem law.1 mem)
    rw [commit_records, State.route_records, created, List.map_map, insertRecord_map, unit]
    · refine congrArg₂ insertRecord ?_ kept
      simp only [Function.comp, new, if_true]
      exact revised_of_new (State.record?_of_free_slot free (by rfl))
    · intro q
      simp only [Function.comp, (revised_keeps s _).1]
      split <;> rfl
  · rw [commit_counts, State.route_counts (r := new) there, countsMoved]
    exact s.store.counts.add_expected_move_routed
  · have same : (commit s (t.route l ref p) xs).lane j = (t.route l ref p).lane j :=
      congrArg (fun ls : Vector LaneUnit 4 => ls[j]) (commit_lanes_of_no_drain noDrain xs)
    rw [same, State.route_lane]
    split
    · rw [unit]
      exact LaneUnit.issueOrdinal_running running
    · exact unit j
  · have list : (t.route l ref p).store.attention = s.store.attention := attention.trans moved.attention
    rw [commit_withReasons list, completionReasons, State.drainReasons_none noDrain, fills, List.append_nil,
      filledAt_commit]

end

/-- Settles O52: the record that the winning rule creates, and its route. -/
theorem lookupCreatesFromTheWinningRule : Obligations.LookupCreatesFromTheWinningRule := by
  unfold Obligations.LookupCreatesFromTheWinningRule
  intro s l takeUp key tag expiry lapLimit holdGroup n slot steps law running unknown wins small free lowest unused u last
    ref selected p c
  let d : ItemDefinition := { key := key, destination := (s.rule n).group, hold := none, hostTag := none }
  let created := s.createRecord slot (.rule n) d
  have selects : created.select l (s.rule n).group none =
      (selected.1, selected.2.1, created.withGroups selected.2.2.store.groups) :=
    State.select_of_same (s := s) (t := created) rfl rfl l (s.rule n).group none
  obtain ⟨on, -⟩ := State.select_inv (s := s) (t := selected.2.2) (p := selected.1) (o := selected.2.1) (l := l)
    (g := (s.rule n).group) (given := none) rfl
  obtain ⟨-, moved⟩ := State.select_inv selects
  have found : s.lowestFreeSlot = some slot := State.lowestFreeSlot_eq small free lowest
  have notUsed : ¬(s.lane l).exhausted = true := by rw [unused]; exact Bool.false_ne_true
  have serves : s.serveLookup l key lapLimit holdGroup =
      { place := p, reason := answerReason .rule selected.2.1,
        state := commit s ((created.withGroups selected.2.2.store.groups).route l ref p) (u.exhaustReasons l) } := by
    rw [State.serveLookup_running running, unknown]
    simp only [State.lookupUnknown, wins, found, if_neg notUsed, routeFromGroup]
    rw [selects]
    rfl
  have answer : exec (.lookupStep l takeUp) s = .next
      ((commit s ((created.withGroups selected.2.2.store.groups).route l ref p) (u.exhaustReasons l)).completeLaneStep l
        (some (.answer tag p (answerReason .rule selected.2.1) none)) takeUp) := exec_lookupStep steps serves
  obtain ⟨records, keyIndex, serial, counts, outlets, bins, lanes, groups, attention, same, follows⟩ :=
    commit_createRoutes law free running moved on (u.exhaustReasons l)
  refine ⟨_, answer.trans ?_, records, keyIndex, serial, counts, outlets, bins, lanes, groups, attention, same, follows⟩
  cases selected.2.1 <;> rfl

end Sys2Proof.Machine
end

section
/-!
PROOF. Obligation O57: the RESTART step (R110, R112).
-/
namespace Sys2Proof.Machine

section
variable {s : State} {l : Lane} {r : ItemRecord}

/-- R112: the revisions that a lane unit drops, with the REVISEs that it has not begun to send. -/
theorem LaneUnit.abandonRevisions_eq (u : LaneUnit) :
    let replies := fun ms : List Message => ms.filter fun m => m.reviseOrdinal.isNone
    u.abandonRevisions =
      { u with
        pendingCount := 0
        reviseEntries := []
        outbound := if u.sending then u.outbound.take 1 ++ replies (u.outbound.drop 1) else replies u.outbound } := by
  intro replies
  cases sending : u.sending <;>
    simp [LaneUnit.abandonRevisions, LaneUnit.withdraw, LaneUnit.beingSent, LaneUnit.unsent, sending, replies]

/-- R112: an outlet's entry, by whether the outlet is defined on the lane. -/
theorem OutletEntry.abandon_eq (o : OutletEntry) (l : Lane) :
    o.abandon l = if ∃ d, o.definition = some d ∧ d.lane = l then { o with reserved := 0, expected := [] } else o := by
  simp only [OutletEntry.abandon, OutletEntry.definedOn_iff]

/-- R33, R112: no record is ROUTED on a lane that a RESTART has emptied. -/
theorem State.abandonLane_routedCount_self : (s.abandonLane l).routedCount l = 0 := by
  have outlets (k : OutletId) : ((s.abandonLane l).outlet k).reservedOn l = 0 := by
    rw [State.abandonLane_outlet, OutletEntry.abandon]
    split
    next => exact OutletEntry.reservedOn_of_zero rfl l
    next other => rw [OutletEntry.reservedOn, if_neg other]
  rw [State.routedCount_eq_sum, Finset.sum_eq_zero fun k _ => outlets k, State.abandonLane_bin, if_pos rfl]
  rfl

theorem State.abandonLane_routedCount_ne {j : Lane} (other : j ≠ l) : (s.abandonLane l).routedCount j = s.routedCount j := by
  refine State.routedCount_of_same (fun k => ?_) (by rw [State.abandonLane_bin, if_neg other])
  rw [State.abandonLane_outlet, OutletEntry.abandon]
  split
  next own =>
    have elsewhere : (s.outlet k).definedOn j = false := by
      rw [OutletEntry.definedOn_iff_of own]
      exact decide_eq_false (Ne.symm other)
    rw [OutletEntry.reservedOn_of_zero rfl, OutletEntry.reservedOn, elsewhere]
    rfl
  next => rfl

/-- R110, R112: a RESTART completes the drain of its lane alone. -/
theorem State.abandonLane_drainComplete (law : s.lanesLaw) (j : Lane) :
    (s.abandonLane l).drainComplete j = decide (j = l ∧ (s.lane l).state = .draining) := by
  have unit : (s.abandonLane l).lane j = if j = l then (s.lane l).abandonRevisions else s.lane j :=
    State.lane_setLane _ _ _ _
  by_cases own : j = l
  · subst own
    simp only [State.drainComplete, unit, if_true, State.abandonLane_routedCount_self, and_true, true_and]
    rfl
  · have none_ : (s.abandonLane l).drainComplete j = false :=
      State.drainComplete_of_same law (by rw [unit, if_neg own]) (State.abandonLane_routedCount_ne own)
    simp [none_, own]

/-- R9, R112: a record that a RESTART recirculates advances its revision. -/
theorem revised_recirculated (found : s.record? r.ref = some r) :
    revised s (recirculated l r) =
      if routedOn l r then { r with state := .recirculating, revision := r.revision + 1 } else r := by
  unfold recirculated
  split
  next on =>
    refine revised_of_changed (new := { r with state := .recirculating }) found fun same => ?_
    have kind := routedOn_kind on
    rw [← same] at kind
    cases kind
  next => exact revised_self found

end

/-- Settles O57: the records, the lists, the unit and the reasons that a RESTART step leaves. -/
theorem restartStepRecirculatesTheLane : Obligations.RestartStepRecirculatesTheLane := by
  unfold Obligations.RestartStepRecirculatesTheLane
  intro s l takeUp steps law u there n c replies v
  have does : exec (.restartStep l takeUp) s = .next ((s.serveRestart l).completeLaneStep l (some .restartDone) takeUp) := by
    have is : exec (.restartStep l takeUp) s = execRestartStep l takeUp s := rfl
    rw [is]
    unfold execRestartStep
    rw [s.laneStepping_of_laneSteps l _ steps]
  have outside := s.abandonLane_keepsOutside l
  have drains := State.abandonLane_drainComplete (l := l) law.2.1
  refine ⟨s.serveRestart l, does, ?_, commit_keyIndex _ _ _, commit_serialCounter _ _ _, commit_counts _ _ _, fun k => ?_,
    fun j => ?_, fun j => ?_, commit_groups _ _ _, ?_, commit_sameElsewhere outside, commit_followsUp outside⟩
  · have records : (s.abandonLane l).store.records = s.store.records.map (recirculated l) := rfl
    rw [State.serveRestart, commit_records, records, List.map_map]
    exact List.map_congr_left fun r mem => revised_recirculated (s.record?_of_mem law.1 mem)
  · rw [State.serveRestart, commit_outlet, State.abandonLane_outlet, OutletEntry.abandon_eq]
  · rw [State.serveRestart, commit_bin, State.abandonLane_bin]
  · have unit : (s.abandonLane l).lane j = if j = l then (s.lane l).abandonRevisions else s.lane j :=
      State.lane_setLane _ _ _ _
    rw [State.serveRestart, commit_lane, State.drained, drains, unit]
    by_cases own : j = l
    · simp only [own, true_and, if_true, decide_eq_true_eq, LaneUnit.abandonRevisions_eq]
      rfl
    · simp [own]
  · have fills : fullReasons s (s.abandonLane l) = [] := fullReasons_none fun k => by
      rw [State.abandonLane_outlet, OutletEntry.abandon]
      split
      · exact OutletEntry.not_filled rfl (by simp [OutletEntry.load])
      · exact OutletEntry.not_filled rfl (Nat.le_refl _)
    have drained : (s.abandonLane l).drainReasons = if u.state = .draining then [(.lane l, .drained)] else [] := by
      have only : allLanes.filter (s.abandonLane l).drainComplete = if u.state = .draining then [l] else [] := by
        by_cases draining : u.state = .draining
        · have same : (s.abandonLane l).drainComplete = fun j => decide (j = l) :=
            funext fun j => by rw [drains]; simp [show (s.lane l).state = .draining from draining]
          rw [same, if_pos draining]
          match l with
          | 0 => rfl
          | 1 => rfl
          | 2 => rfl
          | 3 => rfl
        · have same : (s.abandonLane l).drainComplete = fun _ => false :=
            funext fun j => by rw [drains]; simp [show ¬(s.lane l).state = .draining from draining]
          rw [same, if_neg draining, List.filter_false]
      rw [State.drainReasons, only]
      split <;> rfl
    rw [State.serveRestart, commit_withReasons (by rfl), completionReasons, fills, drained, List.append_nil]
    rfl

end Sys2Proof.Machine
end

section
/-!
PROOF. Obligations O44 to O47: the requests, answers and RESTARTs of a lane link, and the queues of a lane unit
(R88, R89, R93, R99 to R106, R111).
-/
namespace Sys2Proof.Machine

/-! ### Received frames (R99 to R102) -/

section
variable {s : State} {l : Lane} {key : Key}

theorem keyValid_iff : keyValid key = true ↔ 4 ≤ key.length ∧ key.length ≤ 20 ∧ ∀ b ∈ key, 33 ≤ b.toNat ∧ b.toNat ≤ 126 := by
  simp [keyValid, and_assoc]

theorem State.setLane_lane_self (s : State) (l : Lane) : s.setLane l (s.lane l) = s := by
  simp [State.setLane, State.lane]

theorem LaneUnit.markLinkFault_eq (u : LaneUnit) :
    u.markLinkFault =
      { u with workList := if .linkFault ∈ u.workList then u.workList else u.workList ++ [.linkFault] } := by
  unfold LaneUnit.markLinkFault
  split <;> rfl

/-- R99, R101: a request with a valid key joins the queue below the limit. -/
theorem State.receive_joins (released : s.resetHeld = false) (valid : keyValid key = true)
    (room : (s.lane l).outstanding < 8) (r : Request) :
    s.receive l key r = s.setLane l { s.lane l with requests := (s.lane l).requests ++ [r] } := by
  rw [State.receive, State.fromLink_of_released _ _ released, State.onLane, if_pos valid]
  exact congrArg (s.setLane l) (if_pos room)

/-- R99, R100, R101: another request marks a link fault. -/
theorem State.receive_faults (released : s.resetHeld = false)
    (refused : ¬keyValid key = true ∨ 8 ≤ (s.lane l).outstanding) (r : Request) :
    s.receive l key r = s.setLane l (s.lane l).markLinkFault := by
  rw [State.receive, State.fromLink_of_released _ _ released, State.onLane]
  split
  next valid =>
    refine congrArg (s.setLane l) (if_neg fun room => ?_)
    rcases refused with invalid | full
    · exact invalid valid
    · exact absurd room (Nat.not_lt.mpr full)
  next => rfl

end

/-- Settles O44: the requests that join the queue, and the frames that mark a link fault. -/
theorem requestsJoinTheQueueWithinTheLimit : Obligations.RequestsJoinTheQueueWithinTheLimit := by
  unfold Obligations.RequestsJoinTheQueueWithinTheLimit
  intro s l key u valid joined faulted frame
  have faults : s.setLane l u.markLinkFault = faulted := congrArg (s.setLane l) u.markLinkFault_eq
  refine ⟨fun released isValid room => ?_, fun released refused => ?_, fun kind length rest released whole fails => ?_,
    fun bytes noFrame => ?_, fun asserted => ?_⟩
  · have joins (r : Request) : s.receive l key r = joined r := State.receive_joins released (keyValid_iff.mpr isValid) room r
    exact ⟨fun tag => congrArg Host.Outcome.next (joins _), fun outlet => congrArg Host.Outcome.next (joins _),
      congrArg Host.Outcome.next (joins _)⟩
  · have marks (r : Request) : s.receive l key r = faulted :=
      (State.receive_faults released (refused.imp_left keyValid_iff.not.mpr) r).trans faults
    exact ⟨fun tag => congrArg Host.Outcome.next (marks _), fun outlet => congrArg Host.Outcome.next (marks _),
      congrArg Host.Outcome.next (marks _)⟩
  · have isWhole : wholeLaneFrame (frame kind length rest) = true := by simp [frame, wholeLaneFrame, whole]
    have marks : s.fromLink (if wholeLaneFrame (frame kind length rest) ∧ judgeLaneFrame (frame kind length rest) = none then
        s.onLane l LaneUnit.markLinkFault else s) = faulted := by
      rw [State.fromLink_of_released _ _ released, if_pos ⟨isWhole, fails⟩]
      exact faults
    exact congrArg Host.Outcome.next marks
  · have noWhole : ¬wholeLaneFrame bytes = true := fun isWhole => by
      unfold wholeLaneFrame at isWhole
      split at isWhole
      next delimiter kind length rest =>
        obtain ⟨rfl, whole⟩ := of_decide_eq_true isWhole
        exact noFrame kind length rest rfl whole
      next => cases isWhole
    have stays : s.fromLink (if wholeLaneFrame bytes ∧ judgeLaneFrame bytes = none then
        s.onLane l LaneUnit.markLinkFault else s) = s := by
      rw [if_neg fun h => noWhole h.1, State.fromLink, ite_self]
    exact congrArg Host.Outcome.next stays
  · have lost (t : State) : s.fromLink t = s := State.fromLink_of_asserted s t asserted
    exact ⟨fun tag => congrArg Host.Outcome.next (lost _), fun outlet => congrArg Host.Outcome.next (lost _),
      congrArg Host.Outcome.next (lost _), fun bytes => congrArg Host.Outcome.next (lost _),
      fun ordinal reply => congrArg Host.Outcome.next (lost _), congrArg Host.Outcome.next (lost _)⟩

/-! ### Revise entries (R88, R89, R93) -/

section
variable {u : LaneUnit} {p : ReviseEntry → Bool}

/-- R89: the first entry picked takes its condition and joins the internal work list. -/
theorem LaneUnit.settleEntry_of_split {pre post : List ReviseEntry} {e : ReviseEntry}
    (entries : u.reviseEntries = pre ++ e :: post) (none_ : ∀ q ∈ pre, p q = false) (picked : p e = true) (once : e ∉ post)
    (c : ReviseCondition) :
    u.settleEntry p c =
      { u with
        reviseEntries := pre ++ { e with condition := c } :: post
        workList := u.workList ++ [.revise { e with condition := c }] } := by
  have found : u.reviseEntries.find? p = some e := by
    rw [entries, List.find?_append, List.find?_eq_none.mpr fun q mem => by simp [none_ q mem], Option.none_or,
      List.find?_cons, picked]
  have away : e ∉ pre := fun mem => by simp [none_ e mem] at picked
  have others (es : List ReviseEntry) (out : e ∉ es) :
      (es.map fun q => if q = e then { e with condition := c } else q) = es := by
    conv_rhs => rw [← List.map_id es]
    refine List.map_congr_left fun q mem => if_neg ?_
    rintro rfl
    exact out mem
  unfold LaneUnit.settleEntry
  simp only [found]
  rw [entries, List.map_append, List.map_cons, if_pos rfl, others pre away, others post once]

theorem LaneUnit.settleEntry_of_none (none_ : ∀ q ∈ u.reviseEntries, p q = false) (c : ReviseCondition) :
    u.settleEntry p c = u := by
  have found : u.reviseEntries.find? p = none := List.find?_eq_none.mpr fun q mem => by simp [none_ q mem]
  unfold LaneUnit.settleEntry
  rw [found]

end

/-- Settles O45: the answer and the timer of the first WAITING entry of an ordinal. -/
theorem answersAndTimersSettleTheWaitingEntry : Obligations.AnswersAndTimersSettleTheWaitingEntry := by
  unfold Obligations.AnswersAndTimersSettleTheWaitingEntry
  intro s l ordinal u waits
  have waiting_false {e : ReviseEntry} (h : ¬waits e) : waitingFor ordinal e = false := decide_eq_false h
  have waiting_true {e : ReviseEntry} (h : waits e) : waitingFor ordinal e = true := decide_eq_true h
  have stays (p : ReviseEntry → Bool) (none_ : ∀ q ∈ u.reviseEntries, p q = false) (c : ReviseCondition) :
      s.onLane l (fun u => u.settleEntry p c) = s := by
    rw [State.onLane, LaneUnit.settleEntry_of_none none_]
    exact s.setLane_lane_self l
  refine ⟨fun pre e post entries earlier waiting once => ?_, fun none_ reply => ?_, fun running => ?_⟩
  · intro settled
    have settles (p : ReviseEntry → Bool) (none_ : ∀ q ∈ pre, p q = false) (picked : p e = true) (c : ReviseCondition) :
        s.onLane l (fun u => u.settleEntry p c) = settled c :=
      congrArg (s.setLane l) (LaneUnit.settleEntry_of_split entries none_ picked once c)
    have answers (released : s.resetHeld = false) (c : ReviseCondition) :
        s.fromLink (s.onLane l fun u => u.settleEntry (waitingFor ordinal) c) = settled c := by
      rw [State.fromLink_of_released _ _ released]
      exact settles _ (fun q mem => waiting_false (earlier q mem)) (waiting_true waiting) c
    refine ⟨fun released => ⟨congrArg Host.Outcome.next (answers released _),
      congrArg Host.Outcome.next (answers released _)⟩, fun out => congrArg Host.Outcome.next ?_⟩
    refine settles _ (fun q mem => ?_) ?_ _
    · rw [waiting_false (earlier q mem), Bool.false_and]
    · rw [waiting_true waiting, Bool.true_and]
      exact (runOut_iff _ _).mpr out
  · have discarded : s.fromLink (s.onLane l fun u => u.settleEntry (waitingFor ordinal) (answeredCondition reply)) = s := by
      rw [stays _ (fun q mem => waiting_false (none_ q mem)), State.fromLink, ite_self]
    exact congrArg Host.Outcome.next discarded
  · refine congrArg Host.Outcome.next (stays _ (fun q mem => ?_) _)
    by_cases waiting : waits q
    · have still : runOut s.timebase q.expiry = false := by
        rw [← Bool.not_eq_true, runOut_iff]
        exact Nat.not_lt.mpr (running q mem waiting)
      rw [still, Bool.and_false]
    · rw [waiting_false waiting, Bool.false_and]

end Sys2Proof.Machine
end

section
/-!
PROOF. Obligations O46 and O47: the arrival of a RESTART, and the queues of a lane unit (R50, R103 to R106, R111).
-/
namespace Sys2Proof.Machine

/-! ### RESTART (R111) -/

section
variable {s : State} {l : Lane}

/-- R111: with no step of the lane in progress everything but the link-fault notice is discarded. -/
theorem LaneUnit.restartArrives_idle (u : LaneUnit) :
    u.restartArrives false =
      { u with requests := [], outbound := u.beingSent, workList := u.workList.filter fun w => decide (w = .linkFault),
               reviseEntries := [], inHand := some .restart, restartWaiting := false, discardReply := false } := rfl

/-- R111: with a step of another thing than a work item in progress. -/
theorem LaneUnit.restartArrives_stepping {u : LaneUnit} (other : u.inHand ≠ some .workItem) :
    u.restartArrives true =
      { u with requests := [], outbound := u.beingSent, workList := u.workList.filter fun w => decide (w = .linkFault),
               reviseEntries := [], restartWaiting := true, discardReply := true } := by
  simp only [LaneUnit.restartArrives, other, decide_false, Bool.and_false]
  rfl

/-- R111: with the step of the oldest work item in progress, the item stays until it completes, and a late notice keeps
its ticket while its answer is being sent. -/
theorem LaneUnit.restartArrives_item {u : LaneUnit} {w : WorkItem} {ws : List WorkItem} (item : u.inHand = some .workItem) :
    u.workList = w :: ws → u.restartArrives true =
      { u with requests := [], outbound := u.beingSent,
               workList := (match w with
                | .lateNotice key (some t) =>
                  .lateNotice key (if ∃ m ∈ u.beingSent, m.ticket = some t then some t else none)
                | w => w) :: ws.filter fun w => decide (w = .linkFault),
               reviseEntries := [], restartWaiting := true, discardReply := true } := by
  intro work
  have ticketKept (t : Nat) : (u.beingSent.any fun m => match m with
      | .answer _ _ _ (some n) => decide (n = t)
      | _ => false) = true ↔ ∃ m ∈ u.beingSent, m.ticket = some t := by
    rw [List.any_eq_true]
    refine exists_congr fun m => and_congr_right fun _ => ?_
    cases m with
    | answer tag p reason ticket => cases ticket <;> simp [Message.ticket]
    | _ => simp [Message.ticket]
  have kept (t : Nat) : (if (u.beingSent.any fun m => match m with
      | .answer _ _ _ (some n) => decide (n = t)
      | _ => false) = true then some t else none) = if ∃ m ∈ u.beingSent, m.ticket = some t then some t else none :=
    if_congr (ticketKept t) rfl rfl
  unfold LaneUnit.restartArrives
  simp only [item, work, decide_true, Bool.and_true, if_true, List.take_succ_cons, List.take_zero, List.map_cons,
    List.map_nil, List.drop_succ_cons, List.drop_zero, List.cons_append, List.nil_append]
  cases w with
  | lateNotice key ticket =>
    cases ticket with
    | none => rfl
    | some t =>
      exact congrArg (fun ticket => ({ u with
        requests := [], outbound := u.beingSent, inHand := some .workItem,
        workList := .lateNotice key ticket :: ws.filter fun w => decide (w = .linkFault),
        reviseEntries := [], restartWaiting := true, discardReply := true } : LaneUnit)) (kept t)
  | _ => rfl

/-- R111: where no step of the lane is in progress a RESTART asks for its step. -/
theorem State.restartArrives_idle (idle : s.arbiter.busy ≠ some (.lane l)) :
    s.restartArrives l = ((s.setLane l ((s.lane l).restartArrives false)).requestLaneStep l).arbitrate := by
  simp only [State.restartArrives, idle, decide_false, Bool.false_eq_true, if_false]

/-- R111: where one is in progress the RESTART waits for it. -/
theorem State.restartArrives_busy (busy : s.arbiter.busy = some (.lane l)) :
    s.restartArrives l = s.setLane l ((s.lane l).restartArrives true) := by
  simp only [State.restartArrives, busy, decide_true, if_true]

/-- R111, R168: a RESTART is received while the pin is released. -/
theorem exec_restart (released : s.resetHeld = false) : exec (.restart l) s = .next (s.restartArrives l) :=
  congrArg Host.Outcome.next (State.fromLink_of_released _ _ released)

end

/-- Settles O46: what a RESTART discards, and whether it waits for a step. -/
theorem restartEmptiesTheLaneUnit : Obligations.RestartEmptiesTheLaneUnit := by
  unfold Obligations.RestartEmptiesTheLaneUnit
  intro s l u kept faults
  refine ⟨fun released idle => ?_, fun released busy => ?_⟩
  · rw [exec_restart released, State.restartArrives_idle idle, LaneUnit.restartArrives_idle]
    rfl
  · intro waiting
    refine ⟨fun other => ?_, fun w ws item work => ?_⟩
    · rw [exec_restart released, State.restartArrives_busy busy, LaneUnit.restartArrives_stepping other]
      rfl
    · rw [exec_restart released, State.restartArrives_busy busy, LaneUnit.restartArrives_item item work]
      refine congrArg (fun w => Host.Outcome.next (s.setLane l (waiting (w :: faults ws)))) ?_
      cases w with
      | lateNotice key ticket => cases ticket <;> rfl
      | _ => rfl

/-! ### The queues (R103, R104, R106) -/

section
variable {s : State} {l : Lane}

/-- R106: a LOOKUP expires when its window has run out. -/
theorem LaneUnit.expireLookup_eq {u : LaneUnit} {n : Nat} {key : Key} {tag : Word} {expiry : Word32} {lapLimit : Nat}
    {holdGroup : Destination} (stands : u.requests[n]? = some (.lookup key tag expiry lapLimit holdGroup))
    (timebase : Word32) :
    u.expireLookup timebase n = if (timebase - expiry).toNat < 2 ^ 31 then u.answerLate n key tag else u := by
  unfold LaneUnit.expireLookup
  rw [stands]
  exact if_congr (runOut_iff timebase expiry) rfl rfl

/-- R101, R104: the message at the head is sent, and the late notice of an ANSWER LATE is outstanding in its place. -/
theorem LaneUnit.headSent_eq {u : LaneUnit} {m : Message} {ms : List Message} :
    u.outbound = m :: ms → u.headSent =
      { u with
        outbound := ms
        sending := false
        workList := match m with
          | .answer _ _ _ (some t) => u.workList.map fun w => match w with
            | .lateNotice key (some n) => .lateNotice key (if n = t then none else some n)
            | w => w
          | _ => u.workList } := by
  intro head
  have release (t : Nat) : releaseTicket t = fun w => match w with
      | .lateNotice key (some n) => .lateNotice key (if n = t then none else some n)
      | w => w := by
    funext w
    cases w with
    | lateNotice key ticket => cases ticket <;> rfl
    | _ => rfl
  unfold LaneUnit.headSent
  rw [head]
  cases m with
  | answer tag p reason ticket =>
    cases ticket with
    | none => rfl
    | some t =>
      exact congrArg (fun f => ({ u with outbound := ms, sending := false, workList := u.workList.map f } : LaneUnit))
        (release t)
  | _ => rfl

/-- R103: the oldest work item is taken up first. -/
theorem State.takeUp_item (idle : (s.lane l).inHand = none) (work : (s.lane l).workList ≠ []) :
    s.takeUp l = (s.setLane l { s.lane l with inHand := some .workItem }).requestLaneStep l := by
  rw [State.takeUp_spec, idle, if_neg (by simp), if_pos work]

/-- R103: without a work item the request at the head is put in service. -/
theorem State.takeUp_request {r : Request} {rest : List Request} (idle : (s.lane l).inHand = none)
    (work : (s.lane l).workList = []) (requests : (s.lane l).requests = r :: rest)
    (serves : (s.lane l).state = .running ∨ (∃ key outlet, r = .confirm key outlet) ∨ ∃ key, r = .miss key) :
    s.takeUp l = (s.setLane l { s.lane l with requests := rest, inHand := some (.request r) }).requestLaneStep l := by
  unfold State.takeUp
  simp only [idle, work, requests]
  rcases serves with running | ⟨key, outlet, rfl⟩ | ⟨key, rfl⟩
  · cases r with
    | lookup key tag expiry lapLimit holdGroup => simp only [running, LaneState.refusal]
    | _ => rfl
  · rfl
  · rfl

/-- R50, R103: a LOOKUP of a lane that is not RUNNING is answered at once. -/
theorem State.takeUp_refused {rest : List Request} {key : Key} {tag : Word} {expiry : Word32} {lapLimit : Nat}
    {holdGroup : Destination} {reason : AnswerReason} (idle : (s.lane l).inHand = none) (work : (s.lane l).workList = [])
    (requests : (s.lane l).requests = .lookup key tag expiry lapLimit holdGroup :: rest)
    (refuses : (s.lane l).state.refusal = some reason) :
    s.takeUp l = s.setLane l
      { s.lane l with requests := rest, outbound := (s.lane l).outbound ++ [.answer tag .bin reason none] } := by
  unfold State.takeUp
  simp only [idle, work, requests]
  simp only [refuses]
  rfl

end

/-- Settles O47: the expiry of a LOOKUP, a message sent, and what is taken up next. -/
theorem laneQueuesMoveOn : Obligations.LaneQueuesMoveOn := by
  unfold Obligations.LaneQueuesMoveOn
  intro s l u itemInHand inService answered
  refine ⟨s.takeUpAll_none l, fun n key tag expiry lapLimit holdGroup stands => ?_, fun finishing => ?_,
    fun m ms none_ head => ?_, fun idle => ⟨fun work => ?_, fun r rest work requests =>
      ⟨fun reason refuses key tag expiry lapLimit holdGroup is => ?_, fun serves => ?_⟩⟩⟩
  · have expires : s.onLane l (fun u => u.expireLookup s.timebase n) =
        if (s.timebase - expiry).toNat < 2 ^ 31 then s.setLane l (u.answerLate n key tag) else s := by
      rw [State.onLane, LaneUnit.expireLookup_eq stands]
      split
      · rfl
      · exact s.setLane_lane_self l
    exact congrArg Host.Outcome.next expires
  · obtain ⟨m, is⟩ := Option.isSome_iff_exists.mp finishing
    have sent : u.messageSent = { u with finishing := none } := by
      unfold LaneUnit.messageSent
      rw [is]
    exact congrArg (fun v => Host.Outcome.next (s.setLane l v)) sent
  · have sent : u.messageSent = u.headSent := by
      unfold LaneUnit.messageSent
      rw [none_]
    refine (congrArg (fun v => Host.Outcome.next (s.setLane l v)) (sent.trans (LaneUnit.headSent_eq head))).trans ?_
    cases m with
    | answer tag p reason ticket => cases ticket <;> rfl
    | _ => rfl
  · have taken := State.takeUp_item idle work
    refine ⟨congrArg (fun t : State => Host.Outcome.next t.arbitrate) taken, ?_⟩
    rw [State.takeUpAll_once, taken]
    rw [taken, State.requestLaneStep_lane, State.lane_setLane_self]
    simp
  · subst is
    have reasons : (s.lane l).state.refusal = some reason := by
      rcases refuses with ⟨state, rfl⟩ | ⟨state, rfl⟩
      · exact congrArg LaneState.refusal state
      · exact congrArg LaneState.refusal state
    have taken := State.takeUp_refused idle work requests reasons
    refine ⟨congrArg (fun t : State => Host.Outcome.next t.arbitrate) taken, ?_⟩
    have less : (s.lane l).requests = .lookup key tag expiry lapLimit holdGroup :: rest := requests
    rw [State.takeUpAll_again, taken]
    rw [taken, State.lane_setLane_self, less]
    rfl
  · have taken := State.takeUp_request idle work requests serves
    refine ⟨congrArg (fun t : State => Host.Outcome.next t.arbitrate) taken, ?_⟩
    rw [State.takeUpAll_once, taken]
    rw [taken, State.requestLaneStep_lane, State.lane_setLane_self]
    simp

end Sys2Proof.Machine
end

section
/-!
PROOF. Obligations O36 to O38: the views, the slip of a cursor, SET CURSOR and READ ITEM by cursor (chapter 9).
-/
namespace Sys2Proof.Machine

/-! ### Positions in a view (R139) -/

theorem positionAtHead_eq (refs : List Ref) : positionAtHead refs = refs.head?.elim .afterLast .record := by
  cases refs <;> rfl

theorem positionAtHeadBack_eq (refs : List Ref) : positionAtHeadBack refs.reverse = refs.getLast?.elim .beforeFirst .record := by
  rw [← List.head?_reverse]
  cases refs.reverse <;> rfl

theorem following_of_split {ref : Ref} {pre post : List Ref} (first : ref ∉ pre) :
    following ref (pre ++ ref :: post) = post := by
  have passed : (pre ++ ref :: post).dropWhile (fun q => decide (q ≠ ref)) = ref :: post := by
    rw [List.dropWhile_append_of_pos fun q mem => by simpa using fun is : q = ref => first (is ▸ mem)]
    simp
  rw [following, passed, List.tail_cons]

/-- R139: the member that follows a record is the second from the record on. -/
theorem positionAtHead_following (ref : Ref) (refs : List Ref) :
    positionAtHead (following ref refs) = (refs.dropWhile fun q => decide (q ≠ ref))[1]?.elim .afterLast .record := by
  rw [positionAtHead_eq, following, List.head?_tail]

/-- R139: the member before a record is the last before the record is reached. -/
theorem positionAtHeadBack_following {ref : Ref} {refs : List Ref} (distinct : refs.Nodup) (mem : ref ∈ refs) :
    positionAtHeadBack (following ref refs.reverse) =
      (refs.takeWhile fun q => decide (q ≠ ref)).getLast?.elim .beforeFirst .record := by
  obtain ⟨pre, post, rfl⟩ := List.append_of_mem mem
  obtain ⟨-, tail, apart⟩ := List.nodup_append.mp distinct
  have notBefore : ref ∉ pre := fun h => apart ref h ref List.mem_cons_self rfl
  have notAfter : ref ∉ post.reverse := fun h => (List.nodup_cons.mp tail).1 (List.mem_reverse.mp h)
  have split : (pre ++ ref :: post).reverse = post.reverse ++ ref :: pre.reverse := by simp
  have taken : (pre ++ ref :: post).takeWhile (fun q => decide (q ≠ ref)) = pre := by
    rw [List.takeWhile_append_of_pos fun q h => by simpa using fun is : q = ref => notBefore (is ▸ h)]
    simp
  rw [split, following_of_split notAfter, positionAtHeadBack_eq, taken]

/-! ### Key order and the views (R8, R137) -/

theorem keyBefore_iff (a b : Key) :
    keyBefore a b = true ↔ ∃ i, a.take i = b.take i ∧
      (a.length = i ∧ i < b.length ∨ ∃ x y, a[i]? = some x ∧ b[i]? = some y ∧ x.toNat < y.toNat) := by
  induction a generalizing b with
  | nil =>
    cases b with
    | nil => simp [keyBefore]
    | cons y ys => simp [keyBefore]
  | cons x xs ih =>
    cases b with
    | nil => simp [keyBefore]
    | cons y ys =>
      simp only [keyBefore, Bool.or_eq_true, Bool.and_eq_true, decide_eq_true_eq]
      constructor
      · rintro (less | ⟨rfl, later⟩)
        · exact ⟨0, rfl, .inr ⟨x, y, rfl, rfl, less⟩⟩
        · obtain ⟨i, same, here⟩ := (ih ys).mp later
          refine ⟨i + 1, by simp [same], ?_⟩
          simpa using here
      · rintro ⟨i, same, here⟩
        cases i with
        | zero => exact .inl (by simpa using here)
        | succ i =>
          simp only [List.take_succ_cons, List.cons.injEq] at same
          exact .inr ⟨same.1, (ih ys).mpr ⟨i, same.2, by simpa using here⟩⟩

section
variable {s : State}

theorem State.mem_members_key (law : s.indexLaw) (ref : Ref) :
    ref ∈ s.members .key ↔ ∃ r ∈ s.store.records, r.ref = ref := by
  obtain ⟨-, toRecord, toEntry⟩ := law
  constructor
  · intro mem
    obtain ⟨e, stands, rfl⟩ := List.mem_map.mp mem
    obtain ⟨r, inUse, ref, -⟩ := toRecord e stands
    exact ⟨r, inUse, ref⟩
  · rintro ⟨r, inUse, rfl⟩
    exact List.mem_map_of_mem (f := fun e : IndexEntry => e.ref) (toEntry r inUse)

/-- R8: the key index lists the records in key order. -/
theorem State.members_key_pairwise (records : s.recordsLaw) (law : s.indexLaw) :
    (s.members .key).Pairwise fun a b =>
      ∃ q r, s.record? a = some q ∧ s.record? b = some r ∧ keyBefore q.key r.key = true := by
  obtain ⟨order, toRecord, -⟩ := law
  refine List.pairwise_map.mpr (order.imp_of_mem fun {a b} memA memB before => ?_)
  obtain ⟨q, inUseQ, refQ, keyQ⟩ := toRecord a memA
  obtain ⟨r, inUseR, refR, keyR⟩ := toRecord b memB
  exact ⟨q, r, refQ ▸ s.record?_of_mem records inUseQ, refR ▸ s.record?_of_mem records inUseR, by rwa [keyQ, keyR]⟩

/-- R137: a STATE view holds the records of its state. -/
theorem State.mem_members_state (records : s.recordsLaw) (law : s.indexLaw) (k : StateKind) (ref : Ref) :
    ref ∈ s.members (.state k) ↔ ∃ r ∈ s.store.records, r.ref = ref ∧ stateKind r.state = k := by
  have inState {r : ItemRecord} (inUse : r ∈ s.store.records) :
      s.isInState k r.ref = true ↔ stateKind r.state = k := by
    rw [State.isInState, s.record?_of_mem records inUse]
    exact decide_eq_true_iff
  refine List.mem_filter.trans ((and_congr_left' (State.mem_members_key law ref)).trans ⟨?_, ?_⟩)
  · rintro ⟨⟨r, inUse, rfl⟩, is⟩
    exact ⟨r, inUse, rfl, (inState inUse).mp is⟩
  · rintro ⟨r, inUse, rfl, is⟩
    exact ⟨⟨r, inUse, rfl⟩, (inState inUse).mpr is⟩

end

/-- Settles O36: key order, the five kinds of view, and the slip of a cursor. -/
theorem cursorsSlipToTheNextMember : Obligations.CursorsSlipToTheNextMember := by
  unfold Obligations.CursorsSlipToTheNextMember
  refine ⟨keyBefore_iff, fun s records index => ?_, fun s t c => ⟨fun ref pre post on view first gone => ?_, fun stays => ?_⟩⟩
  · intro inKeyOrder holds
    have keyOrder : inKeyOrder (s.members .key) := State.members_key_pairwise records index
    have stateHolds (k : StateKind) (p : ItemRecord → Prop) (same : ∀ r : ItemRecord, stateKind r.state = k ↔ p r) :
        holds (.state k) p := by
      refine ⟨keyOrder.sublist List.filter_sublist, fun ref => (State.mem_members_state records index k ref).trans ?_⟩
      simp only [same]
    refine ⟨⟨keyOrder, fun ref => (State.mem_members_key index ref).trans (by simp only [and_true])⟩,
      stateHolds _ _ fun r => ?_, stateHolds _ _ fun r => ?_, stateHolds _ _ fun r => ?_, stateHolds _ _ fun r => ?_,
      stateHolds _ _ fun r => ?_, fun k => ⟨rfl, rfl⟩, fun l => rfl, fun order => ⟨fun k => ?_, fun l => order.2.1 l⟩⟩
    · cases r.state <;> simp [stateKind]
    · cases r.state <;> simp [stateKind]
    · cases r.state <;> simp [stateKind]
    · cases r.state <;> simp [stateKind]
    · cases r.state <;> simp [stateKind]
    · obtain ⟨expected, content, -⟩ := order.1 k
      exact ⟨expected, content⟩
  · have member : ref ∈ s.members c.view := by rw [view]; simp
    unfold slipCursor
    rw [on]
    dsimp only
    rw [if_pos ⟨member, gone⟩, view, following_of_split first, positionAtHead_eq, List.head?_filter]
    cases post.find? (fun q => decide (q ∈ t.members c.view)) <;> rfl
  · unfold slipCursor
    cases on : c.position with
    | record ref => exact if_neg fun h => h.2 (stays ref on h.1)
    | _ => rfl

/-! ### SET CURSOR (R138) -/

/-- Settles O37: the four placements of SET CURSOR. -/
theorem setCursorPlacesTheCursor : Obligations.SetCursorPlacesTheCursor := by
  unfold Obligations.SetCursorPlacesTheCursor
  intro s f c v p steps placed
  have places {q : Position} (does : setCursorStep s (.setCursor c v p) = s.placed c v q) : placed q := by
    refine (singleStep_next steps does).trans ?_
    cases q <;> rfl
  cases p with
  | first => exact places (by rw [← positionAtHead_eq]; rfl)
  | last => exact places (by rw [← positionAtHeadBack_eq]; rfl)
  | atKey key =>
    have found : positionAtHead ((s.members v).filter (s.atOrAfterKey key)) =
        ((s.members v).find? (s.atOrAfterKey key)).elim .afterLast .record := by
      rw [positionAtHead_eq, List.head?_filter]
    have does : setCursorStep s (.setCursor c v (.atKey key)) =
        s.placed c v (((s.members v).find? (s.atOrAfterKey key)).elim .afterLast .record) := by
      rw [← found]
      rfl
    exact places does
  | atRecord d =>
    refine ⟨fun none_ => singleStep_next steps (by simp only [setCursorStep, none_]), fun r designated =>
      ⟨fun out => singleStep_next steps (by simp only [setCursorStep, designated, if_neg out]), fun member =>
        places (by simp only [setCursorStep, designated, if_pos member])⟩⟩

/-! ### READ ITEM by cursor (R139, R140) -/

/-- Settles O38: the move of the cursor, and the record or the end that it stands on. -/
theorem readByCursorMovesAndReads : Obligations.ReadByCursorMovesAndReads := by
  unfold Obligations.ReadByCursorMovesAndReads
  intro s f c step access steps law v ms distinct inUse goal flag
  have moves : s.cursorMove v step = goal := by
    cases step with
    | hold => rfl
    | next =>
      simp only [State.cursorMove, State.nextPosition, goal]
      cases v.position with
      | beforeFirst => exact positionAtHead_eq _
      | record ref => exact if_congr Iff.rfl rfl (positionAtHead_following ref _)
      | afterLast => rfl
    | prev =>
      simp only [State.cursorMove, State.prevPosition, goal]
      cases on : v.position with
      | beforeFirst => rfl
      | record ref => exact positionAtHeadBack_following distinct (law c ref on)
      | afterLast => exact positionAtHeadBack_eq _
  have member (ref : Ref) (is : goal = .record ref) : ref ∈ ms := by
    have moved : s.cursorMove v step = .record ref := moves.trans is
    cases step with
    | hold => exact law c ref moved
    | next =>
      simp only [State.cursorMove, State.nextPosition] at moved
      split at moved
      · exact mem_of_positionAtHead moved
      next q on =>
        split at moved
        · cases moved
          exact law c _ on
        · exact mem_of_mem_following (mem_of_positionAtHead moved)
      · cases moved
    | prev =>
      simp only [State.cursorMove, State.prevPosition] at moved
      split at moved
      · cases moved
      · exact List.mem_reverse.mp (mem_of_mem_following (mem_of_positionAtHeadBack moved))
      · exact List.mem_reverse.mp (mem_of_positionAtHeadBack moved)
  have does : readItemByCursorStep s (.readItemByCursor c step access) =
      some (s.placeCursor c goal, (cursorResponse s v.slipped access goal).1, (cursorResponse s v.slipped access goal).2) := by
    rw [← moves]
    rfl
  refine (singleStep_next steps does).trans ?_
  have placed : s.placeCursor c goal = s.setCursor c { v with position := goal, slipped := false } := rfl
  rw [placed]
  cases is : goal with
  | beforeFirst => rfl
  | afterLast => rfl
  | record ref =>
    obtain ⟨r, found⟩ := Option.isSome_iff_exists.mp (inUse ref (member ref is))
    simp only [cursorResponse, found, Option.elim_some]
    cases access <;> rfl

end Sys2Proof.Machine
end

section
/-!
PROOF. Obligations O39 and O48: the step of SEARCH (R143 to R146), and the rule that wins (R67, R68).
-/
namespace Sys2Proof.Machine

/-! ### Key patterns and the best rule (R67, R68) -/

theorem positionsMatch_iff (ps : List (Option Byte)) (k : Key) :
    positionsMatch ps k = true ↔ ∀ (i : Nat) (b x : Byte), ps[i]? = some (some b) → k[i]? = some x → x = b := by
  induction ps generalizing k with
  | nil => simp [positionsMatch]
  | cons p ps ih =>
    cases k with
    | nil => cases p <;> simp [positionsMatch]
    | cons y ys =>
      have tail : (∀ (i : Nat) (b x : Byte), ps[i]? = some (some b) → ys[i]? = some x → x = b) ↔
          ∀ (i : Nat) (b x : Byte), (p :: ps)[i + 1]? = some (some b) → (y :: ys)[i + 1]? = some x → x = b := Iff.rfl
      have head : (∀ (i : Nat) (b x : Byte), (p :: ps)[i]? = some (some b) → (y :: ys)[i]? = some x → x = b) ↔
          (∀ b x : Byte, some p = some (some b) → some y = some x → x = b) ∧
            ∀ (i : Nat) (b x : Byte), ps[i]? = some (some b) → ys[i]? = some x → x = b := by
        rw [tail]
        exact ⟨fun all => ⟨all 0, fun i => all (i + 1)⟩, fun ⟨first, rest⟩ i => Nat.casesOn i first rest⟩
      rw [head, ← ih]
      cases p with
      | none => simp [positionsMatch]
      | some b =>
        simp only [positionsMatch, Bool.and_eq_true, decide_eq_true_eq]
        refine and_congr_left' ⟨?_, fun all => (all b y rfl rfl).symm⟩
        rintro rfl c x ⟨⟩ ⟨⟩
        rfl

theorem keyMatches_iff (p : KeyPattern) (k : Key) :
    keyMatches p k = true ↔ p.minLength ≤ k.length ∧ k.length ≤ p.maxLength ∧
      ∀ (i : Nat) (b x : Byte), p.positions[i]? = some (some b) → k[i]? = some x → x = b := by
  rw [keyMatches, Bool.and_eq_true, decide_eq_true_eq, positionsMatch_iff, and_assoc]

theorem bestRule_none_iff (priority : RuleId → Nat) (ns : List RuleId) : bestRule priority ns = none ↔ ns = [] := by
  cases ns with
  | nil => simp [bestRule]
  | cons n ns =>
    simp only [bestRule, reduceCtorEq, iff_false]
    split
    · simp
    · split <;> simp

/-- R68: the best of the rules of an ascending list has the highest priority, and the lowest number among equals. -/
theorem bestRule_some {priority : RuleId → Nat} {ns : List RuleId} (ascends : ns.Pairwise (· < ·)) {n : RuleId}
    (best : bestRule priority ns = some n) :
    n ∈ ns ∧ ∀ m ∈ ns, m ≠ n → priority m < priority n ∨ priority m = priority n ∧ n < m := by
  induction ns generalizing n with
  | nil => simp [bestRule] at best
  | cons x xs ih =>
    obtain ⟨first, rest⟩ := List.pairwise_cons.mp ascends
    unfold bestRule at best
    cases later : bestRule priority xs with
    | none =>
      obtain rfl := (bestRule_none_iff priority xs).mp later
      rw [later] at best
      cases best
      refine ⟨List.mem_cons_self, fun m mem other => ?_⟩
      exact absurd (List.mem_singleton.mp mem) other
    | some y =>
      obtain ⟨stands, beats⟩ := ih rest later
      rw [later] at best
      simp only at best
      split at best
      next higher =>
        cases best
        refine ⟨List.mem_cons_of_mem _ stands, fun m mem other => ?_⟩
        rcases List.mem_cons.mp mem with rfl | mem
        · exact .inl higher
        · exact beats m mem other
      next lower =>
        cases best
        refine ⟨List.mem_cons_self, fun m mem other => ?_⟩
        rcases List.mem_cons.mp mem with rfl | mem
        · exact absurd rfl other
        · have above := first m mem
          by_cases same : m = y
          · subst same
            rcases Nat.lt_or_eq_of_le (Nat.not_lt.mp lower) with less | equal
            · exact .inl less
            · exact .inr ⟨equal, above⟩
          · rcases beats m mem same with less | ⟨equal, -⟩
            · exact .inl (by omega)
            · rcases Nat.lt_or_eq_of_le (Nat.not_lt.mp lower) with less' | equal'
              · exact .inl (by omega)
              · exact .inr ⟨by omega, above⟩

/-- Settles O48: the rule that wins is the one that beats every other that matches. -/
theorem theBestMatchingRuleWins : Obligations.TheBestMatchingRuleWins := by
  unfold Obligations.TheBestMatchingRuleWins
  intro s key wins
  let matching := allRules.filter fun n => (s.rule n).enabled && keyMatches (s.rule n).pattern key
  have mem_matching (n : RuleId) : n ∈ matching ↔ wins n := by
    rw [List.mem_filter, Bool.and_eq_true, keyMatches_iff]
    exact and_iff_right (List.mem_finRange n)
  have ascends : matching.Pairwise (· < ·) := (List.pairwise_lt_finRange 128).sublist List.filter_sublist
  have noneIff : s.matchRule key = none ↔ ∀ n, ¬wins n := by
    refine (bestRule_none_iff _ _).trans (List.eq_nil_iff_forall_not_mem.trans ?_)
    exact forall_congr' fun n => (mem_matching n).not
  refine ⟨noneIff, fun n => ⟨fun best => ?_, fun ⟨own, beats⟩ => ?_⟩⟩
  · obtain ⟨stands, beats⟩ := bestRule_some ascends best
    exact ⟨(mem_matching n).mp stands, fun m winsM other => beats m ((mem_matching m).mpr winsM) other⟩
  · cases best : s.matchRule key with
    | none => exact absurd own (noneIff.mp best n)
    | some m =>
      obtain ⟨stands, beatsM⟩ := bestRule_some ascends best
      by_cases same : m = n
      · rw [same]
      · exfalso
        have worse := beats m ((mem_matching m).mp stands) same
        have worse' := beatsM n ((mem_matching n).mpr own) (Ne.symm same)
        rcases worse with less | ⟨equal, below⟩
        · omega
        · rcases worse' with less' | ⟨-, below'⟩
          · omega
          · exact lt_asymm below below'

/-! ### The step of SEARCH (R143 to R146) -/

section
variable {s : State} {f : InFlight} {q : SearchQuery}

/-- R143: a test of a field that may be absent. -/
theorem fieldTestMet_iff {α : Type} [DecidableEq α] (field : Option α) (t : FieldTest α) :
    fieldTestMet field t = true ↔ match t with
      | .absent => field = none
      | .present => field ≠ none
      | .value v => field = some v := by
  cases t <;> cases field <;> simp [fieldTestMet]

/-- R144: where the first step of a search starts. -/
theorem State.searchStart_eq (s : State) (q : SearchQuery) :
    let v := s.cursor q.cursor
    let ms := s.members v.view
    s.searchStart q = match v.position, q.startNext with
      | .beforeFirst, _ => ms.head?.elim .afterLast .record
      | .record ref, true =>
        if v.slipped then .record ref else (ms.dropWhile fun x => decide (x ≠ ref))[1]?.elim .afterLast .record
      | .record ref, false => .record ref
      | .afterLast, _ => .afterLast := by
  unfold State.searchStart
  dsimp only
  cases q.startNext with
  | false =>
    cases (s.cursor q.cursor).position with
    | beforeFirst => exact positionAtHead_eq _
    | _ => rfl
  | true =>
    simp only [if_true, State.nextPosition]
    cases (s.cursor q.cursor).position with
    | beforeFirst => exact positionAtHead_eq _
    | record ref => exact if_congr Iff.rfl rfl (positionAtHead_following ref _)
    | afterLast => rfl

end

end Sys2Proof.Machine
end

section
/-!
PROOF. Obligation O39: the step of SEARCH (R143 to R146).
-/
namespace Sys2Proof.Machine

section
variable {s : State} {f : InFlight} {q : SearchQuery} {w : Cursor}

theorem State.setCursor_self (s : State) (c : CursorId) : s.setCursor c (s.cursor c) = s := by
  simp [State.setCursor, State.setStore, State.cursor]

theorem State.members_setCursor (s : State) (c : CursorId) (w : Cursor) (v : View) :
    (s.setCursor c w).members v = s.members v := by
  cases v <;> rfl

/-- R144: a step of a search examines at the position where its cursor stands, in the state with the cursor there. -/
theorem State.searchStep_eq (steps : s.hostSteps f (.search q)) :
    let v := s.cursor q.cursor
    let here := if f.stepsDone = 0 then s.searchStart q else v.position
    s.searchStep =
      searchExamine (s.setCursor q.cursor { v with position := here, slipped := v.slipped && decide (f.stepsDone ≠ 0) }) q
        f here := by
  intro v here
  simp only [State.searchStep, s.steppingCommand_of_hostSteps f _ steps, steps.2.2.2]
  by_cases first : f.stepsDone = 0
  · simp only [here, if_pos first, first, ne_eq, not_true_eq_false, decide_false, Bool.and_false]
    rfl
  · have stays : s.setCursor q.cursor { v with position := v.position, slipped := v.slipped && decide (f.stepsDone ≠ 0) } = s := by
      simp only [first, ne_eq, not_false_eq_true, decide_true, Bool.and_true]
      exact s.setCursor_self q.cursor
    simp only [here, if_neg first, stays]
    rfl

/-- R145: a search ends with its cursor at a position, from a state with the cursor set. -/
theorem searchEnds_setCursor (p : Position) (status : Status) (n : Nat) (results : List Word) :
    searchEnds (s.setCursor q.cursor w) q f p status n results =
      (s.setCursor q.cursor { w with position := p, slipped := false }).completeHostStep f
        (.done status ([word n, flagWord w.slipped] ++ results)) := by
  rw [searchEnds, State.placeCursor, State.setCursor_setCursor, State.cursor_setCursor_self]

/-- R144: the record examined ends the search when it meets every condition. -/
theorem searchExamine_found {ref : Ref} {r : ItemRecord} (found : s.record? ref = some r)
    (met : ∀ c ∈ q.conditions, conditionMet r c = true) :
    searchExamine (s.setCursor q.cursor w) q f (.record ref) =
      searchEnds (s.setCursor q.cursor w) q f (.record ref) .ok (f.progress.examined + 1)
        (refWords r.ref ++ [word (stateNumber (stateKind r.state)), r.revision]) := by
  have found' : (s.setCursor q.cursor w).record? ref = some r := found
  have all : searchMet q r = true := List.all_eq_true.mpr met
  simp only [searchExamine, found', if_pos all]
  rfl

/-- R144, R145: a record that does not meet every condition, by what follows it in the view. -/
theorem searchExamine_passed {ref : Ref} {r : ItemRecord} {pre post : List Ref} (found : s.record? ref = some r)
    (unmet : ∃ c ∈ q.conditions, ¬conditionMet r c = true) (view : s.members w.view = pre ++ ref :: post)
    (first : ref ∉ pre) :
    searchExamine (s.setCursor q.cursor w) q f (.record ref) =
      match post with
      | [] => searchEnds (s.setCursor q.cursor w) q f .afterLast .endOfView (f.progress.examined + 1) []
      | next :: _ =>
        if f.progress.examined + 1 = q.limit then
          searchEnds (s.setCursor q.cursor w) q f (.record next) .limit (f.progress.examined + 1) (refWords next)
        else
          (s.setCursor q.cursor { w with position := .record next }).completeHostStep f
            (.more { f.progress with examined := f.progress.examined + 1 }) := by
  have found' : (s.setCursor q.cursor w).record? ref = some r := found
  have fails : ¬searchMet q r = true := fun all => by
    obtain ⟨c, mem, no⟩ := unmet
    exact no (List.all_eq_true.mp all c mem)
  have after : following ref ((s.setCursor q.cursor w).members ((s.setCursor q.cursor w).cursor q.cursor).view) = post := by
    rw [State.cursor_setCursor_self, State.members_setCursor, view, following_of_split first]
  simp only [searchExamine, found', if_neg fails, after]
  cases post with
  | nil => rfl
  | cons next rest =>
    refine if_congr Iff.rfl rfl ?_
    rw [State.moveCursor, State.setCursor_setCursor, State.cursor_setCursor_self]

end

/-- Settles O39: where a step of SEARCH examines, the tests of its conditions, and its four ends. -/
theorem searchExaminesOneRecord : Obligations.SearchExaminesOneRecord := by
  unfold Obligations.SearchExaminesOneRecord
  intro s f q steps v examined flag first ms start here met endAt
  have starts : s.searchStart q = start := (s.searchStart_eq q).trans (by
    simp only [start]
    cases (s.cursor q.cursor).position <;> cases q.startNext <;> rfl)
  let w : Cursor := { v with position := here, slipped := v.slipped && decide (f.stepsDone ≠ 0) }
  have does : exec .searchStep s = .next (searchExamine (s.setCursor q.cursor w) q f here) := by
    have step := State.searchStep_eq steps
    rw [starts] at step
    exact congrArg Host.Outcome.next step
  have flags : flagWord w.slipped = flag := by
    simp only [w, flag, flagWord, Bool.and_eq_true, decide_eq_true_eq]
    exact if_congr and_comm rfl rfl
  have ends (p : Position) (status : Status) (n : Nat) (words : List Word) :
      searchEnds (s.setCursor q.cursor w) q f p status n words =
        (s.setCursor q.cursor { v with position := p, slipped := false }).completeHostStep f
          (.done status ([word n, flag] ++ words)) := by
    rw [searchEnds_setCursor, flags]
  have meets (r : ItemRecord) (c : Condition) : conditionMet r c = true ↔ met r c := by
    cases c with
    | key p => exact keyMatches_iff p r.key
    | state ks => exact decide_eq_true_iff
    | origin fromRule =>
      cases fromRule <;> cases origin : r.origin <;> simp [conditionMet, met, origin, originIsRule]
    | ruleNumber n => exact decide_eq_true_iff
    | destination g => exact decide_eq_true_iff
    | hold t =>
      cases t with
      | absent => exact fieldTestMet_iff r.hold .absent
      | present => exact fieldTestMet_iff r.hold .present
      | value x => exact fieldTestMet_iff r.hold (.value x)
    | hostTag t =>
      cases t with
      | absent => exact fieldTestMet_iff r.hostTag .absent
      | present => exact fieldTestMet_iff r.hostTag .present
      | value x => exact fieldTestMet_iff r.hostTag (.value x)
    | lane l => exact decide_eq_true_iff
    | laps n => exact decide_eq_true_iff
    | stray => cases state : r.state <;> simp [conditionMet, met, state, strayField]
    | pending =>
      cases state : r.state <;> simp [conditionMet, met, state, pendingField, Option.isSome_iff_exists]
  refine ⟨fun ref r pre post on found view notBefore => ⟨fun all => ?_, fun some_ => ?_⟩, fun atEnd => ?_⟩
  · rw [on] at does
    have is := searchExamine_found (w := w) (f := f) found fun c mem => (meets r c).mpr (all c mem)
    exact does.trans (congrArg Host.Outcome.next (is.trans (ends ..)))
  · rw [on] at does
    obtain ⟨c, mem, unmet⟩ := some_
    have is := searchExamine_passed (w := w) (f := f) found ⟨c, mem, (meets r c).not.mpr unmet⟩ view notBefore
    cases post with
    | nil => exact does.trans (congrArg Host.Outcome.next (is.trans (ends ..)))
    | cons next rest =>
      simp only at is
      show if examined = q.limit then endAt (.record next) .limit examined (word next.slot :: words32 next.serial) else _
      by_cases limit : examined = q.limit
      · rw [if_pos limit] at is
        rw [if_pos limit]
        exact does.trans (congrArg Host.Outcome.next (is.trans (ends ..)))
      · rw [if_neg limit] at is
        rw [if_neg limit]
        exact does.trans (congrArg Host.Outcome.next is)
  · rw [atEnd] at does
    exact does.trans (congrArg Host.Outcome.next (ends ..))

end Sys2Proof.Machine
end

section
/-!
PROOF. Obligation O42: the frames of a lane link read back as their requests (R99, R166, R167).
-/
namespace Sys2Proof.Machine
-- One proof after another, as in the tests: checked side by side, these take more threads than the check allows.
set_option Elab.async false

/-! ### The bytes of a frame -/

theorem bytes16_append (v : Word) : v.extractLsb' 8 8 ++ v.extractLsb' 0 8 = v := by
  apply BitVec.eq_of_getLsbD_eq
  intro i small
  simp only [BitVec.getLsbD_append, BitVec.getLsbD_extractLsb']
  split
  · simp [*]
  · have back : 8 + (i - 8) = i := by omega
    have high : i - 8 < 8 := by omega
    simp [back, high]

theorem bytes32_append (v : Word32) :
    v.extractLsb' 24 8 ++ v.extractLsb' 16 8 ++ v.extractLsb' 8 8 ++ v.extractLsb' 0 8 = v := by
  apply BitVec.eq_of_getLsbD_eq
  intro i small
  simp only [BitVec.getLsbD_append, BitVec.getLsbD_extractLsb']
  split
  · simp [*]
  · split
    · have back : 8 + (i - 8) = i := by omega
      simp [*]
    · split
      · have back : 16 + (i - 8 - 8) = i := by omega
        simp [*]
      · have back : 24 + (i - 8 - 8 - 8) = i := by omega
        have high : i - 8 - 8 - 8 < 8 := by omega
        simp [back, high]

theorem bytes16_injective {v w : Word} (same : bytes16 v = bytes16 w) : v = w := by
  simp only [bytes16, List.cons.injEq, and_true] at same
  rw [← bytes16_append v, ← bytes16_append w, same.1, same.2]

/-- R99 test 1: a frame is judged by its kind and body when its check is right, and discarded when it is not. -/
theorem judgeLaneFrame_of_body (kind : Byte) {body : List Byte} (fits : body.length ≤ 255) (check : Word) :
    judgeLaneFrame (0xA5 :: kind :: BitVec.ofNat 8 body.length :: body ++ bytes16 check) =
      if check = crc16 (kind :: BitVec.ofNat 8 body.length :: body) then judgeLaneBody kind body else none := by
  have length : (BitVec.ofNat 8 body.length).toNat = body.length := by
    simp only [BitVec.toNat_ofNat]
    omega
  have whole : (body ++ bytes16 check).length = body.length + 2 := by simp [bytes16]
  simp only [List.cons_append, judgeLaneFrame, length, whole, List.take_left, List.drop_left, true_and]
  exact if_congr ⟨bytes16_injective, congrArg bytes16⟩ rfl rfl

theorem judgeLaneFrame_laneFrame (kind : Byte) {body : List Byte} (fits : body.length ≤ 255) :
    judgeLaneFrame (laneFrame kind body) = judgeLaneBody kind body :=
  (judgeLaneFrame_of_body kind fits _).trans (if_pos rfl)

/-! ### What the body of a frame asks for -/

/-- R166: what a key-length byte and its key ask for, where nothing else of the body can fail. -/
def keyedRequest (request : Key → LaneRequest) (rest : List Byte) : Option LaneRequest :=
  match keyAlone rest with
  | some key => if keyValid key then some (request key) else none
  | none => none

theorem judgeLaneBody_lookup (hi lo : Byte) (rest : List Byte) :
    judgeLaneBody 0x11 (hi :: lo :: rest) = keyedRequest (.lookup · (hi ++ lo)) rest := rfl

theorem judgeLaneBody_confirm (outlet : Byte) (rest : List Byte) :
    judgeLaneBody 0x12 (outlet :: rest) = keyedRequest (.confirm · outlet) rest := rfl

theorem judgeLaneBody_miss (rest : List Byte) : judgeLaneBody 0x13 rest = keyedRequest .miss rest := rfl

theorem judgeLaneBody_restart : judgeLaneBody 0x15 [] = some .restart := rfl

theorem judgeLaneBody_taken (ordinal : Word32) :
    judgeLaneBody 0x14 (bytes32 ordinal ++ [1]) = some (.reviseAnswer ordinal .taken) :=
  congrArg (fun v => some (LaneRequest.reviseAnswer v .taken)) (bytes32_append ordinal)

theorem judgeLaneBody_tooLate (ordinal : Word32) :
    judgeLaneBody 0x14 (bytes32 ordinal ++ [2]) = some (.reviseAnswer ordinal .tooLate) :=
  congrArg (fun v => some (LaneRequest.reviseAnswer v .tooLate)) (bytes32_append ordinal)

theorem keyedRequest_of_valid (request : Key → LaneRequest) {key : Key} (valid : keyValid key = true) :
    keyedRequest request (BitVec.ofNat 8 key.length :: key) = some (request key) := by
  have short : key.length ≤ 20 := (keyValid_iff.mp valid).2.1
  have length : key.length = (BitVec.ofNat 8 key.length).toNat := by
    simp only [BitVec.toNat_ofNat]
    omega
  simp only [keyedRequest, keyAlone, if_pos length, valid, if_true]

theorem keyedRequest_of_noKey (request : Key → LaneRequest) {rest : List Byte}
    (noKey : ∀ n key, rest = n :: key → key.length ≠ n.toNat ∨ keyValid key = false) :
    keyedRequest request rest = none := by
  cases rest with
  | nil => rfl
  | cons n key =>
    rcases noKey n key rfl with other | invalid
    · simp only [keyedRequest, keyAlone, if_neg other]
    · by_cases length : key.length = n.toNat <;> simp [keyedRequest, keyAlone, length, invalid]

/-! ### The bodies that ask for nothing (R99 tests 2 to 4) -/

/-- R99 test 2: a kind that the part does not receive. The tests of the kind come before those of the body. -/
theorem judgeLaneBody_of_otherKind {kind : Byte} (body : List Byte) (other : kind.toNat < 0x11 ∨ 0x15 < kind.toNat) :
    judgeLaneBody kind body = none := by
  unfold judgeLaneBody
  generalize kind.toNat = n at other
  rcases other with low | high
  · interval_cases n <;> rfl
  · obtain ⟨m, rfl⟩ : ∃ m, n = m + 0x16 := ⟨n - 0x16, by omega⟩
    rfl

theorem judgeLaneBody_lookup_none {body : List Byte}
    (noKey : ∀ a b n key, body = a :: b :: n :: key → key.length ≠ n.toNat ∨ keyValid key = false) :
    judgeLaneBody 0x11 body = none := by
  rcases body with _ | ⟨hi, _ | ⟨lo, rest⟩⟩
  · rfl
  · rfl
  · exact keyedRequest_of_noKey _ fun n key is => noKey hi lo n key (by rw [is])

theorem judgeLaneBody_confirm_none {body : List Byte}
    (noKey : ∀ a n key, body = a :: n :: key → key.length ≠ n.toNat ∨ keyValid key = false) :
    judgeLaneBody 0x12 body = none := by
  cases body with
  | nil => rfl
  | cons outlet rest => exact keyedRequest_of_noKey _ fun n key is => noKey outlet n key (by rw [is])

/-- An answer byte that is neither 1 nor 2. -/
theorem judgeLaneBody_otherAnswer (a b c d : Byte) {answer : Byte} (other : answer ≠ 1 ∧ answer ≠ 2) :
    judgeLaneBody 0x14 [a, b, c, d, answer] = none := by
  have notTaken : answer.toNat ≠ 1 := fun is => other.1 (BitVec.eq_of_toNat_eq is)
  have notTooLate : answer.toNat ≠ 2 := fun is => other.2 (BitVec.eq_of_toNat_eq is)
  change (match answer.toNat with
    | 1 => some (LaneRequest.reviseAnswer (a ++ b ++ c ++ d) .taken)
    | 2 => some (LaneRequest.reviseAnswer (a ++ b ++ c ++ d) .tooLate)
    | _ => none) = none
  split
  · exact absurd ‹_› notTaken
  · exact absurd ‹_› notTooLate
  · rfl

theorem judgeLaneBody_reviseAnswer_none {body : List Byte}
    (noAnswer : ∀ a b c d answer, body = [a, b, c, d, answer] → answer ≠ 1 ∧ answer ≠ 2) :
    judgeLaneBody 0x14 body = none := by
  rcases body with _ | ⟨a, _ | ⟨b, _ | ⟨c, _ | ⟨d, _ | ⟨answer, _ | ⟨extra, rest⟩⟩⟩⟩⟩⟩
  case cons.cons.cons.cons.cons.nil => exact judgeLaneBody_otherAnswer a b c d (noAnswer a b c d answer rfl)
  all_goals rfl

theorem judgeLaneBody_restart_none {body : List Byte} (some : body ≠ []) : judgeLaneBody 0x15 body = none := by
  cases body with
  | nil => exact absurd rfl some
  | cons a rest => rfl

/-! ### The event that a frame is -/

theorem laneFrameEvent_of_request {l : Lane} {bytes : List Byte} {request : LaneRequest}
    (judged : judgeLaneFrame bytes = some request) :
    laneFrameEvent l bytes = match request with
      | .lookup key tag => .lookup l key tag
      | .confirm key outlet => .confirm l key outlet
      | .miss key => .miss l key
      | .reviseAnswer ordinal reply => .reviseAnswer l ordinal reply
      | .restart => .restart l := by
  cases request <;> simp only [laneFrameEvent, judged]

theorem laneFrameEvent_of_none {l : Lane} {bytes : List Byte} (judged : judgeLaneFrame bytes = none) :
    laneFrameEvent l bytes = .discardedFrame l bytes := by
  simp only [laneFrameEvent, judged]

theorem laneFrameEvent_of_noRequest {l : Lane} {kind : Byte} {body : List Byte} (fits : body.length ≤ 255)
    (judged : judgeLaneBody kind body = none) :
    laneFrameEvent l (laneFrame kind body) = .discardedFrame l (laneFrame kind body) :=
  laneFrameEvent_of_none ((judgeLaneFrame_laneFrame kind fits).trans judged)

/-! ### The bytes of a link -/

theorem linkFrames_skips {skipped : List Byte} (rest : List Byte) (noDelimiter : 0xA5 ∉ skipped) :
    linkFrames [] (skipped ++ rest) = linkFrames [] rest := by
  induction skipped with
  | nil => rfl
  | cons b skipped ih =>
    obtain ⟨other, noMore⟩ : b ≠ 165#8 ∧ 0xA5 ∉ skipped := by simpa [eq_comm] using noDelimiter
    simp [linkFrames, takeLinkByte, other, ih noMore]

theorem linkFrames_delimiter (rest : List Byte) : linkFrames [] (0xA5 :: rest) = linkFrames [0xA5] rest := by
  simp [linkFrames, takeLinkByte]

/-- A byte that does not complete the frame being received joins it. -/
theorem linkFrames_of_unfinished {frame : List Byte} {b : Byte} (rest : List Byte) (inside : frame ≠ [])
    (unfinished : wholeLaneFrame (frame ++ [b]) = false) :
    linkFrames frame (b :: rest) = linkFrames (frame ++ [b]) rest := by
  simp [linkFrames, takeLinkByte, inside, unfinished]

theorem linkFrames_of_whole {frame : List Byte} {b : Byte} (rest : List Byte) (inside : frame ≠ [])
    (whole : wholeLaneFrame (frame ++ [b]) = true) :
    linkFrames frame (b :: rest) = (frame ++ [b]) :: linkFrames [] rest := by
  simp [linkFrames, takeLinkByte, inside, whole]

theorem linkFrames_header (kind length : Byte) (rest : List Byte) :
    linkFrames [] (0xA5 :: kind :: length :: rest) = linkFrames [0xA5, kind, length] rest := by
  rw [linkFrames_delimiter, linkFrames_of_unfinished _ (by simp) rfl, linkFrames_of_unfinished _ (by simp)]
  · rfl
  · simp [wholeLaneFrame]

theorem wholeLaneFrame_iff (kind length : Byte) (inside : List Byte) :
    wholeLaneFrame (0xA5 :: kind :: length :: inside) = decide (inside.length = length.toNat + 2) := by
  simp [wholeLaneFrame]

/-- A frame that the bytes do not finish is none. -/
theorem linkFrames_short {kind length : Byte} (got more : List Byte)
    (short : got.length + more.length < length.toNat + 2) :
    linkFrames (0xA5 :: kind :: length :: got) more = [] := by
  induction more generalizing got with
  | nil => rfl
  | cons b more ih =>
    simp only [List.length_cons] at short
    rw [linkFrames_of_unfinished _ (by simp)]
    · exact ih (got ++ [b]) (by simp only [List.length_append, List.length_singleton]; omega)
    · exact (wholeLaneFrame_iff kind length (got ++ [b])).trans (by simp; omega)

/-- The bytes that a frame still wants finish it, and the next byte stands outside any frame. -/
theorem linkFrames_finished {kind length : Byte} (got more rest : List Byte) (some : more ≠ [])
    (finished : got.length + more.length = length.toNat + 2) :
    linkFrames (0xA5 :: kind :: length :: got) (more ++ rest) =
      (0xA5 :: kind :: length :: (got ++ more)) :: linkFrames [] rest := by
  induction more generalizing got with
  | nil => exact absurd rfl some
  | cons b more ih =>
    simp only [List.length_cons] at finished
    have wholeWhen := wholeLaneFrame_iff kind length (got ++ [b])
    cases more with
    | nil => exact linkFrames_of_whole _ (by simp) (wholeWhen.trans (by simpa using finished))
    | cons c more =>
      have unfinished := wholeWhen.trans (c := false) (by simp at finished ⊢; omega)
      rw [List.cons_append, linkFrames_of_unfinished _ (by simp) unfinished]
      have ended := ih (got ++ [b]) (by simp) (by simp at finished ⊢; omega)
      rwa [List.append_assoc] at ended

/-! ### The obligation -/

/-- Settles O42: the parts of a frame are read back by `judgeLaneFrame_laneFrame` and the equations of
`judgeLaneBody`, and the bytes of a link by induction on what the frame being received still wants. -/
theorem laneFramesReadBackAsTheirRequests : Obligations.LaneFramesReadBackAsTheirRequests := by
  intro l
  refine ⟨fun key valid => ?_, fun ordinal => ⟨?_, ?_⟩, ?_, fun kind body check fits wrong => ?_, fun body fits => ?_,
    fun skipped noDelimiter => ?_⟩
  · have short : key.length ≤ 20 := (keyValid_iff.mp valid).2.1
    refine ⟨fun tag => ?_, fun outlet => ?_, ?_⟩
    · have judged := (judgeLaneFrame_laneFrame 0x11 (by simp; omega)).trans
        ((judgeLaneBody_lookup (tag.extractLsb' 8 8) (tag.extractLsb' 0 8) _).trans (keyedRequest_of_valid (.lookup · _) valid))
      exact (laneFrameEvent_of_request judged).trans (congrArg (Instr.lookup l key) (bytes16_append tag))
    · have judged := (judgeLaneFrame_laneFrame 0x12 (by simp; omega)).trans
        ((judgeLaneBody_confirm outlet _).trans (keyedRequest_of_valid (.confirm · outlet) valid))
      exact laneFrameEvent_of_request judged
    · have judged := (judgeLaneFrame_laneFrame 0x13 (by simp; omega)).trans
        ((judgeLaneBody_miss _).trans (keyedRequest_of_valid .miss valid))
      exact laneFrameEvent_of_request judged
  · exact laneFrameEvent_of_request
      ((judgeLaneFrame_laneFrame 0x14 (by simp [bytes32])).trans (judgeLaneBody_taken ordinal))
  · exact laneFrameEvent_of_request
      ((judgeLaneFrame_laneFrame 0x14 (by simp [bytes32])).trans (judgeLaneBody_tooLate ordinal))
  · exact laneFrameEvent_of_request ((judgeLaneFrame_laneFrame 0x15 (Nat.zero_le _)).trans judgeLaneBody_restart)
  · exact laneFrameEvent_of_none ((judgeLaneFrame_of_body kind fits check).trans (if_neg wrong))
  · have discarded {kind : Byte} := laneFrameEvent_of_noRequest (l := l) (kind := kind) fits
    exact ⟨fun kind other => discarded (judgeLaneBody_of_otherKind body other),
      fun noKey => discarded (judgeLaneBody_lookup_none noKey),
      fun noKey => discarded (judgeLaneBody_confirm_none noKey),
      fun noKey => discarded (keyedRequest_of_noKey .miss noKey),
      fun noAnswer => discarded (judgeLaneBody_reviseAnswer_none noAnswer),
      fun more => discarded (judgeLaneBody_restart_none more)⟩
  · have skips (rest : List Byte) : linkEvents l (skipped ++ rest) = linkEvents l rest :=
      congrArg (List.map (laneFrameEvent l)) (linkFrames_skips rest noDelimiter)
    refine ⟨fun kind length inside rest whole => ?_, ?_, skips [0xA5], fun kind => skips [0xA5, kind],
      fun kind length inside short => ?_⟩
    · have some : inside ≠ [] := fun none => by simp [none] at whole
      intro frame
      rw [List.append_assoc, skips]
      exact congrArg (List.map (laneFrameEvent l)) ((linkFrames_header kind length (inside ++ rest)).trans
        (linkFrames_finished [] inside rest some (by simpa using whole)))
    · simpa [linkEvents, linkFrames] using skips []
    · rw [skips]
      exact congrArg (List.map (laneFrameEvent l)) ((linkFrames_header kind length inside).trans
        (linkFrames_short [] inside (by simpa using short)))

end Sys2Proof.Machine
end

section
/-!
SUPPORT. Reading the fields of a host frame's body (R164, R165): what it is for words to be those of a field, and the
fields that every form is made of.
-/
namespace Sys2Proof.Machine

variable {α β γ : Type}

/-! ### What it is for words to be read as a field -/

/-- The words `ws` are those of a field of value `a`: it is read from them whatever follows, and fewer of them are not
enough. -/
structure Reads (p : Parse α) (ws : List Word) (a : α) : Prop where
  whole : ∀ rest, p (ws ++ rest) = .ok (a, rest)
  short : ∀ n, n < ws.length → p (ws.take n) = .error .wrongForm

/-- R165: a kind word among `ws` names no kind, and takes every word that remains. -/
def Stops (p : Parse α) (ws : List Word) : Prop := ∀ rest, p (ws ++ rest) = .error .unknownKind

theorem parse_bind_of_ok {p : Parse α} {f : α → Parse β} {ws rest : List Word} {a : α} (read : p ws = .ok (a, rest)) :
    (p >>= f) ws = f a rest := by
  change Except.bind (p ws) _ = _
  rw [read]
  rfl

theorem parse_bind_of_error {p : Parse α} {f : α → Parse β} {ws : List Word} {fault : FormFault}
    (refused : p ws = .error fault) : (p >>= f) ws = .error fault := by
  change Except.bind (p ws) _ = _
  rw [refused]
  rfl

theorem Reads.pure (a : α) : Reads (Pure.pure a) [] a where
  whole _ := rfl
  short _ none := absurd none (by simp)

theorem Reads.bind {p : Parse α} {f : α → Parse β} {ws vs : List Word} {a : α} {b : β} (first : Reads p ws a)
    (next : Reads (f a) vs b) : Reads (p >>= f) (ws ++ vs) b where
  whole rest := by rw [List.append_assoc, parse_bind_of_ok (first.whole _), next.whole]
  short n less := by
    rw [List.take_append]
    by_cases inside : n < ws.length
    · rw [show n - ws.length = 0 by omega, List.take_zero, List.append_nil, parse_bind_of_error (first.short n inside)]
    · rw [List.take_of_length_le (by omega), parse_bind_of_ok (first.whole _)]
      exact next.short _ (by simp at less; omega)

theorem Reads.map {p : Parse α} {ws : List Word} {a : α} (read : Reads p ws a) (f : α → β) :
    Reads (p >>= fun a => Pure.pure (f a)) ws (f a) := by
  simpa using read.bind (f := fun a => Pure.pure (f a)) (Reads.pure (f a))

theorem Stops.bind {p : Parse α} {ws : List Word} (stops : Stops p ws) (f : α → Parse β) : Stops (p >>= f) ws :=
  fun rest => parse_bind_of_error (stops rest)

theorem Reads.stops {p : Parse α} {f : α → Parse β} {ws vs : List Word} {a : α} (first : Reads p ws a)
    (next : Stops (f a) vs) : Stops (p >>= f) (ws ++ vs) := fun rest => by
  rw [List.append_assoc, parse_bind_of_ok (first.whole _), next]

theorem stops_parseUnknown (ws : List Word) : Stops (parseUnknown : Parse α) ws := fun _ => rfl

/-! ### Words and numbers -/

theorem word_toNat {n : Nat} (fits : n < 65536) : (word n).toNat = n := by
  simp only [word, BitVec.toNat_ofNat]
  omega

theorem reads_parseWord (w : Word) : Reads parseWord [w] w where
  whole _ := rfl
  short n less := by
    obtain rfl : n = 0 := by simpa using less
    rfl

theorem reads_parseNat (w : Word) : Reads parseNat [w] w.toNat := (reads_parseWord w).map BitVec.toNat

theorem reads_parse32 (v : Word32) : Reads parse32 (words32 v) v := by
  have read := (reads_parseWord (v.extractLsb' 16 16)).bind
    (f := fun hi => parseWord >>= fun lo => Pure.pure (hi ++ lo)) ((reads_parseWord (v.extractLsb' 0 16)).map _)
  have whole : v.extractLsb' 16 16 ++ v.extractLsb' 0 16 = v := by
    apply BitVec.eq_of_getLsbD_eq
    intro i small
    simp only [BitVec.getLsbD_append, BitVec.getLsbD_extractLsb']
    split
    · simp [*]
    · have back : 16 + (i - 16) = i := by omega
      have high : i - 16 < 16 := by omega
      simp [*]
  rwa [whole] at read

theorem reads_parseWords (ws : List Word) : Reads (parseWords ws.length) ws ws where
  whole rest := by simp [parseWords]
  short n less := by simp [parseWords]; omega

/-! ### Keys (R164) -/

theorem packBytes_length (unused : Byte) : ∀ k : Key, (packBytes unused k).length = (k.length + 1) / 2
  | [] => rfl
  | [_] => by simp [packBytes]
  | _ :: _ :: rest => by
    simp only [packBytes, List.length_cons, packBytes_length unused rest]
    omega

theorem packWord_upper (a b : Byte) : (packWord a.toNat b.toNat).extractLsb' 8 8 = a := by
  apply BitVec.eq_of_toNat_eq
  simp [packWord]
  omega

theorem packWord_lower (a b : Byte) : (packWord a.toNat b.toNat).extractLsb' 0 8 = b := by
  apply BitVec.eq_of_toNat_eq
  simp [packWord]
  omega

theorem unpackWords_packBytes (unused : Byte) : ∀ k : Key, ∃ half, unpackWords (packBytes unused k) = k ++ half
  | [] => ⟨[], rfl⟩
  | [a] => ⟨[unused], by simp [unpackWords, packBytes, packWord_upper, packWord_lower]⟩
  | a :: b :: rest => by
    obtain ⟨half, read⟩ := unpackWords_packBytes unused rest
    exact ⟨half, by simpa [unpackWords, packBytes, packWord_upper, packWord_lower] using read⟩

theorem reads_parseKey {k : Key} (unused : Byte) (fits : k.length < 65536) :
    Reads parseKey (keyForm unused k) k := by
  obtain ⟨half, unpacked⟩ := unpackWords_packBytes unused k
  have read := (reads_parseWords (packBytes unused k)).map fun ws => (unpackWords ws).take k.length
  rw [packBytes_length, unpacked, List.take_left] at read
  have size := reads_parseNat (word k.length)
  rw [word_toNat fits] at size
  exact size.bind (f := fun n => parseWords ((n + 1) / 2) >>= fun ws => Pure.pure ((unpackWords ws).take n)) read

/-! ### Fields that may be absent, and lists (R165) -/

theorem reads_parseOptional {p : Parse β} {f : α → List Word} {g : α → β} (o : Option α)
    (read : ∀ a, o = some a → Reads p (f a) (g a)) : Reads (parseOptional p) (presenceForm f o) (o.map g) := by
  cases o with
  | none => exact (reads_parseWord 0).bind (Reads.pure none)
  | some a => exact (reads_parseWord 1).bind ((read a rfl).map some)

theorem reads_parsePresence (b : Bool) : Reads parsePresence [if b then 1 else 0] b := by
  cases b with
  | false => exact (reads_parseWord 0).bind (Reads.pure false)
  | true => exact (reads_parseWord 1).bind (Reads.pure true)

theorem reads_parseMany {p : Parse α} {vs : List (List Word)} {as : List α} (read : List.Forall₂ (Reads p) vs as) :
    Reads (parseMany p vs.length) vs.flatten as := by
  induction read with
  | nil => exact Reads.pure []
  | cons first _ ih => exact first.bind (ih.map _)

theorem reads_parseList {p : Parse α} {vs : List (List Word)} {as : List α} (read : List.Forall₂ (Reads p) vs as)
    (fits : vs.length < 65536) : Reads (parseList p) (word vs.length :: vs.flatten) as := by
  have size := reads_parseNat (word vs.length)
  rw [word_toNat fits] at size
  exact size.bind (f := parseMany p) (reads_parseMany read)

theorem forall₂_reads_map {p : Parse β} {f : α → List Word} {g : α → β} {xs : List α}
    (read : ∀ x ∈ xs, Reads p (f x) (g x)) : List.Forall₂ (Reads p) (xs.map f) (xs.map g) := by
  rw [List.forall₂_map_left_iff, List.forall₂_map_right_iff]
  exact List.forall₂_same.mpr read

theorem reads_listForm {p : Parse β} {f : α → List Word} {g : α → β} {xs : List α}
    (read : ∀ x ∈ xs, Reads p (f x) (g x)) (fits : xs.length < 65536) :
    Reads (parseList p) (listForm f xs) (xs.map g) := by
  have list := reads_parseList (forall₂_reads_map read) (by simpa using fits)
  rwa [List.length_map] at list

/-- A list in which the entry between `pre` and `post` has words of its own. -/
theorem reads_listAround {p : Parse β} {f : α → List Word} {g : α → β} {pre post : List α} {fails : List Word} {b : β}
    (read : ∀ x ∈ pre ++ post, Reads p (f x) (g x)) (between : Reads p fails b)
    (fits : pre.length + 1 + post.length < 65536) :
    Reads (parseList p) (word (pre.length + 1 + post.length) :: ((pre.map f).flatten ++ fails ++ (post.map f).flatten))
      (pre.map g ++ b :: post.map g) := by
  have entries : List.Forall₂ (Reads p) (pre.map f ++ fails :: post.map f) (pre.map g ++ b :: post.map g) :=
    List.rel_append (forall₂_reads_map fun x among => read x (List.mem_append_left _ among))
      (.cons between (forall₂_reads_map fun x among => read x (List.mem_append_right _ among)))
  have size : (pre.map f ++ fails :: post.map f).length = pre.length + 1 + post.length := by simp; omega
  have list := reads_parseList entries (size ▸ fits)
  rw [size] at list
  simpa using list

/-- A list whose entry after `pre` has an unknown kind. -/
theorem stops_parseMany {p : Parse β} {f : α → List Word} {g : α → β} {pre : List α} {fails : List Word} {n : Nat}
    (read : ∀ x ∈ pre, Reads p (f x) (g x)) (stops : Stops p fails) (more : pre.length < n) :
    Stops (parseMany p n) ((pre.map f).flatten ++ fails) := by
  induction pre generalizing n with
  | nil =>
    obtain ⟨n, rfl⟩ : ∃ m, n = m + 1 := ⟨n - 1, by simp at more; omega⟩
    exact stops.bind _
  | cons x pre ih =>
    obtain ⟨n, rfl⟩ : ∃ m, n = m + 1 := ⟨n - 1, by simp at more; omega⟩
    have rest := ih (fun y among => read y (List.mem_cons_of_mem _ among)) (by simpa using more)
    rw [List.map_cons, List.flatten_cons, List.append_assoc]
    exact (read x List.mem_cons_self).stops (rest.bind _)

theorem stops_parseList {p : Parse β} {f : α → List Word} {g : α → β} {pre : List α} {fails : List Word} {n : Word}
    (read : ∀ x ∈ pre, Reads p (f x) (g x)) (stops : Stops p fails) (more : pre.length < n.toNat) :
    Stops (parseList p) (n :: ((pre.map f).flatten ++ fails)) :=
  (reads_parseNat n).stops (f := parseMany p) (stops_parseMany read stops more)

end Sys2Proof.Machine
end

section
/-!
SUPPORT. The fields of the commands (R5, R12, R16, R34, R67, R114, R137, R138, R139, R143): the words of each are read as
the field as sent, and a kind word that names no kind ends the reading.
-/
namespace Sys2Proof.Machine

variable {α : Type}

/-! ### Kind words that name no kind -/

theorem stops_of_kind {f : Nat → Parse α} {kinds : Nat} {w : Word} (unknown : ¬within 1 kinds w)
    (zero : f 0 = parseUnknown) (above : ∀ n, f (n + (kinds + 1)) = parseUnknown) : Stops (parseNat >>= f) [w] := by
  have other : f w.toNat = parseUnknown := by
    obtain is | ⟨n, is⟩ : w.toNat = 0 ∨ ∃ n, w.toNat = n + (kinds + 1) := by
      by_cases none : w.toNat = 0
      · exact .inl none
      · exact .inr ⟨w.toNat - (kinds + 1), by simp only [within] at unknown; omega⟩
    · rw [is, zero]
    · rw [is, above]
  exact (reads_parseNat w).stops (vs := []) (by rw [other]; exact stops_parseUnknown [])

theorem stops_parseDesignation {w : Word} (unknown : ¬within 1 2 w) : Stops parseDesignation [w] :=
  stops_of_kind unknown rfl fun _ => rfl

theorem stops_parseRead {w : Word} (unknown : ¬within 1 3 w) : Stops parseRead [w] :=
  stops_of_kind unknown rfl fun _ => rfl

theorem stops_parseForm {p : Parse α} {w : Word} (unknown : ¬within 1 2 w) : Stops (parseForm p) [w] :=
  stops_of_kind unknown rfl fun _ => rfl

theorem stops_parseChange {w : Word} (unknown : ¬within 1 3 w) : Stops parseChange [w] :=
  stops_of_kind unknown rfl fun _ => rfl

theorem stops_parseGuard {w : Word} (unknown : ¬within 1 2 w) : Stops parseGuard [w] :=
  stops_of_kind unknown rfl fun _ => rfl

theorem stops_parsePolicy {w : Word} (unknown : ¬within 1 3 w) : Stops parsePolicy [w] :=
  stops_of_kind unknown rfl fun _ => rfl

theorem stops_parseState {w : Word} (unknown : ¬within 1 5 w) : Stops parseState [w] :=
  stops_of_kind unknown rfl fun _ => rfl

theorem stops_parseView {w : Word} (unknown : ¬within 1 5 w) : Stops parseView [w] :=
  stops_of_kind unknown rfl fun _ => rfl

theorem stops_parsePlacement {w : Word} (unknown : ¬within 1 4 w) : Stops parsePlacement [w] :=
  stops_of_kind unknown rfl fun _ => rfl

theorem stops_parseParameter {w : Word} (unknown : ¬within 1 4 w) : Stops parseParameter [w] :=
  stops_of_kind unknown rfl fun _ => if_neg (by omega)

theorem stops_parseFieldTest {p : Parse α} {w : Word} (unknown : ¬within 1 3 w) : Stops (parseFieldTest p) [w] :=
  stops_of_kind unknown rfl fun _ => rfl

theorem stops_parseOrigin {w : Word} (unknown : ¬within 1 2 w) : Stops parseOrigin [w] :=
  stops_of_kind unknown rfl fun _ => rfl

theorem stops_parseCondition {w : Word} (unknown : ¬within 1 11 w) : Stops parseCondition [w] :=
  stops_of_kind unknown rfl fun _ => rfl

theorem stops_parseCursorStep {w : Word} (unknown : ¬within 1 3 w) : Stops parseCursorStep [w] :=
  stops_of_kind unknown rfl fun _ => rfl

theorem stops_parseAccess {w : Word} (unknown : ¬within 1 2 w) : Stops parseAccess [w] :=
  stops_of_kind unknown rfl fun _ => rfl

theorem stops_parseOutletOrBin {w : Word} (unknown : ¬within 1 2 w) : Stops parseOutletOrBin [w] :=
  stops_of_kind unknown rfl fun _ => rfl

theorem stops_parseStart {w : Word} (unknown : ¬within 1 2 w) : Stops parseStart [w] :=
  stops_of_kind unknown rfl fun _ => rfl

theorem stops_parseSelection {w : Word} (unknown : ¬within 1 2 w) : Stops parseSelection [w] :=
  stops_of_kind unknown rfl fun _ => rfl

/-! ### Designations and items -/

/-- A designation as its words give it. -/
def Designation.sent : Designation → RawDesignation
  | .ref q => .ref (word q.slot).toNat q.serial
  | .key k => .key k

/-- The length word of a designation's key can give its length. -/
def Designation.fits : Designation → Prop
  | .ref _ => True
  | .key k => k.length < 65536

theorem reads_parseDesignation_ref (slot : Word) (serial : Word32) :
    Reads parseDesignation (1 :: slot :: words32 serial) (.ref slot.toNat serial) :=
  (reads_parseNat 1).bind ((reads_parseNat slot).bind ((reads_parse32 serial).map (RawDesignation.ref slot.toNat)))

theorem reads_parseDesignation (unused : Byte) {d : Designation} (fits : d.fits) :
    Reads parseDesignation (designationForm unused d) d.sent := by
  cases d with
  | ref q => exact reads_parseDesignation_ref (word q.slot) q.serial
  | key k => exact (reads_parseNat 2).bind ((reads_parseKey unused fits).map RawDesignation.key)

/-- An item definition as the words of its fields give it. -/
def rawItem (key : Key) (destination : Word) (hold : Option Word) (tag : Option Word32) : RawItem where
  key := key
  destination := destination.toNat
  hold := hold.map BitVec.toNat
  hostTag := tag

theorem reads_parseItem (unused : Byte) {key : Key} (destination : Word) (hold : Option Word) (tag : Option Word32)
    (fits : key.length < 65536) :
    Reads parseItem (sentItem unused key destination hold tag) (rawItem key destination hold tag) := by
  have tagRead := reads_parseOptional (g := id) tag fun t _ => reads_parse32 t
  have holdRead := reads_parseOptional (f := fun h => [h]) hold fun h _ => reads_parseNat h
  rw [Option.map_id, id_eq] at tagRead
  simp only [sentItem, List.append_assoc]
  exact (reads_parseKey unused fits).bind ((reads_parseNat destination).bind (holdRead.bind (tagRead.map _)))

/-! ### The fields of AMEND ITEM (R16) -/

theorem reads_parseGuard (g : Option (BitVec 16)) : Reads parseGuard (guardForm g) g := by
  cases g with
  | none => exact (reads_parseNat 2).bind (Reads.pure none)
  | some v => exact (reads_parseNat 1).bind ((reads_parseWord v).map some)

/-- A change as its words give it. -/
def Change.sent : Change → RawChange
  | .destination g => .destination (word g.val).toNat
  | .setHold n => .hold (some (word n).toNat)
  | .clearHold => .hold none
  | .setTag t => .hostTag (some t)
  | .clearTag => .hostTag none

theorem reads_parseForm_set {p : Parse α} {ws : List Word} {a : α} (read : Reads p ws a) :
    Reads (parseForm p) (1 :: ws) (some a) := (reads_parseNat 1).bind (read.map some)

theorem reads_parseForm_clear {p : Parse α} : Reads (parseForm p) [2] none :=
  (reads_parseNat 2).bind (Reads.pure none)

theorem reads_parseChange_destination (w : Word) : Reads parseChange [1, w] (.destination w.toNat) :=
  (reads_parseNat 1).bind ((reads_parseNat w).map RawChange.destination)

theorem reads_parseChange_hold {ws : List Word} {form : Option Nat} (read : Reads (parseForm parseNat) ws form) :
    Reads parseChange (2 :: ws) (.hold form) := (reads_parseNat 2).bind (read.map RawChange.hold)

theorem reads_parseChange_hostTag {ws : List Word} {form : Option Word32} (read : Reads (parseForm parse32) ws form) :
    Reads parseChange (3 :: ws) (.hostTag form) := (reads_parseNat 3).bind (read.map RawChange.hostTag)

theorem reads_parseChange (c : Change) : Reads parseChange (changeForm c) c.sent := by
  cases c with
  | destination g => exact reads_parseChange_destination (word g.val)
  | setHold n => exact reads_parseChange_hold (reads_parseForm_set (reads_parseNat (word n)))
  | clearHold => exact reads_parseChange_hold reads_parseForm_clear
  | setTag t => exact reads_parseChange_hostTag (reads_parseForm_set (reads_parse32 t))
  | clearTag => exact reads_parseChange_hostTag reads_parseForm_clear

/-! ### Policies, patterns and states -/

/-- The word of a policy (R34). -/
def policyWord : Policy → Word
  | .first => 1
  | .rotate => 2
  | .least => 3

theorem reads_parsePolicy (policy : Policy) : Reads parsePolicy [policyWord policy] policy := by
  cases policy with
  | first => exact (reads_parseNat 1).bind (Reads.pure _)
  | rotate => exact (reads_parseNat 2).bind (Reads.pure _)
  | least => exact (reads_parseNat 3).bind (Reads.pure _)

theorem reads_parsePattern {positions : List Word} (lo hi : Word) (fits : positions.length < 65536) :
    Reads parsePattern (sentPattern positions lo hi)
      { positions := positions.map BitVec.toNat, minLength := lo.toNat, maxLength := hi.toNat } := by
  have list := reads_listForm (f := fun w => [w]) (fun w (_ : w ∈ positions) => reads_parseNat w) fits
  rw [listForm, ← List.flatMap_def, List.flatMap_singleton'] at list
  exact list.bind ((reads_parseNat lo).bind ((reads_parseNat hi).map _))

theorem reads_parseState (k : StateKind) : Reads parseState [word (stateNumber k)] k := by
  cases k with
  | expected => exact (reads_parseNat 1).bind (Reads.pure _)
  | routed => exact (reads_parseNat 2).bind (Reads.pure _)
  | sorted => exact (reads_parseNat 3).bind (Reads.pure _)
  | recirculating => exact (reads_parseNat 4).bind (Reads.pure _)
  | rejected => exact (reads_parseNat 5).bind (Reads.pure _)

/-! ### Views and placements (R137, R138) -/

/-- A view as its words give it. -/
def View.sent : View → RawView
  | .key => .key
  | .state k => .state k
  | .expected k => .expected (word (outletNumber k)).toNat
  | .expectedBin l => .expectedBin (word l.val).toNat
  | .content k => .content (word (outletNumber k)).toNat

theorem reads_parseView_expected (w : Word) : Reads parseView [3, w] (.expected w.toNat) :=
  (reads_parseNat 3).bind ((reads_parseNat w).map RawView.expected)

theorem reads_parseView_expectedBin (w : Word) : Reads parseView [4, w] (.expectedBin w.toNat) :=
  (reads_parseNat 4).bind ((reads_parseNat w).map RawView.expectedBin)

theorem reads_parseView_content (w : Word) : Reads parseView [5, w] (.content w.toNat) :=
  (reads_parseNat 5).bind ((reads_parseNat w).map RawView.content)

theorem reads_parseView (v : View) : Reads parseView (viewForm v) v.sent := by
  cases v with
  | key => exact (reads_parseNat 1).bind (Reads.pure _)
  | state k => exact (reads_parseNat 2).bind ((reads_parseState k).map RawView.state)
  | expected k => exact reads_parseView_expected _
  | expectedBin l => exact reads_parseView_expectedBin _
  | content k => exact reads_parseView_content _

/-- A placement as its words give it. -/
def Placement.sent : Placement → RawPlacement
  | .first => .first
  | .last => .last
  | .atRecord d => .atRecord d.sent
  | .atKey k => .atKey k

theorem reads_parsePlacement_atRecord {ws : List Word} {d : RawDesignation} (read : Reads parseDesignation ws d) :
    Reads parsePlacement (3 :: ws) (.atRecord d) := (reads_parseNat 3).bind (read.map RawPlacement.atRecord)

theorem reads_parsePlacement (unused : Byte) {p : Placement} (record : ∀ d, p = .atRecord d → d.fits)
    (key : ∀ k, p = .atKey k → k.length < 65536) :
    Reads parsePlacement (placementForm unused p) p.sent := by
  cases p with
  | first => exact (reads_parseNat 1).bind (Reads.pure _)
  | last => exact (reads_parseNat 2).bind (Reads.pure _)
  | atRecord d => exact reads_parsePlacement_atRecord (reads_parseDesignation unused (record d rfl))
  | atKey k => exact (reads_parseNat 4).bind ((reads_parseKey unused (key k rfl)).map RawPlacement.atKey)

/-! ### Lane parameters (R114) -/

/-- A parameter as its words give it. -/
def Parameter.sent : Parameter → Nat × Nat
  | .decisionWindow n => (1, (word n).toNat)
  | .reviseWindow n => (2, (word n).toNat)
  | .lapLimit n => (3, (word n).toNat)
  | .holdGroup g => (4, (word g.val).toNat)

theorem reads_parseParameter_words {kind : Word} (known : 1 ≤ kind.toNat ∧ kind.toNat ≤ 4) (w : Word) :
    Reads parseParameter [kind, w] (kind.toNat, w.toNat) :=
  (reads_parseNat kind).bind (by rw [if_pos known]; exact (reads_parseNat w).map _)

theorem reads_parseParameter (p : Parameter) : Reads parseParameter (parameterForm p) p.sent := by
  cases p with
  | decisionWindow n => exact reads_parseParameter_words (kind := 1) (by decide) (word n)
  | reviseWindow n => exact reads_parseParameter_words (kind := 2) (by decide) (word n)
  | lapLimit n => exact reads_parseParameter_words (kind := 3) (by decide) (word n)
  | holdGroup g => exact reads_parseParameter_words (kind := 4) (by decide) (word g.val)

/-! ### Conditions of SEARCH (R143) -/

/-- The test of a field that may be absent, its value changed. -/
def FieldTest.map {β : Type} (f : α → β) : FieldTest α → FieldTest β
  | .absent => .absent
  | .present => .present
  | .value a => .value (f a)

theorem reads_parseFieldTest {β : Type} {p : Parse β} {f : α → List Word} {g : α → β} (read : ∀ a, Reads p (f a) (g a))
    (t : FieldTest α) : Reads (parseFieldTest p) (fieldTestForm f t) (t.map g) := by
  cases t with
  | absent => exact (reads_parseNat 1).bind (Reads.pure _)
  | present => exact (reads_parseNat 2).bind (Reads.pure _)
  | value a => exact (reads_parseNat 3).bind ((read a).map FieldTest.value)

/-- A key pattern as its words give it. -/
def KeyPattern.sent (p : KeyPattern) : RawPattern where
  positions := p.positions.map fun b => (word ((b.map BitVec.toNat).getD 0)).toNat
  minLength := (word p.minLength).toNat
  maxLength := (word p.maxLength).toNat

theorem reads_parsePattern_form {p : KeyPattern} (fits : p.positions.length < 65536) :
    Reads parsePattern (patternForm p) p.sent := by
  have read := reads_parsePattern (positions := p.positions.map fun b => word ((b.map BitVec.toNat).getD 0))
    (word p.minLength) (word p.maxLength) (by simpa using fits)
  rwa [List.map_map] at read

/-- A condition as its words give it. -/
def Condition.sent : Condition → RawCondition
  | .key p => .key p.sent
  | .state ks => .state ks
  | .origin fromRule => .origin fromRule
  | .ruleNumber n => .ruleNumber (word n.val).toNat
  | .destination g => .destination (word g.val).toNat
  | .hold t => .hold (t.map fun n => (word n).toNat)
  | .hostTag t => .hostTag t
  | .lane l => .lane (word l.val).toNat
  | .laps n => .laps (word n).toNat
  | .stray => .stray
  | .pending => .pending

theorem reads_parseCondition_key {ws : List Word} {p : RawPattern} (read : Reads parsePattern ws p) :
    Reads parseCondition (1 :: ws) (.key p) := (reads_parseNat 1).bind (read.map RawCondition.key)

theorem reads_parseCondition_ruleNumber (w : Word) : Reads parseCondition [4, w] (.ruleNumber w.toNat) :=
  (reads_parseNat 4).bind ((reads_parseNat w).map RawCondition.ruleNumber)

theorem reads_parseCondition_destination (w : Word) : Reads parseCondition [5, w] (.destination w.toNat) :=
  (reads_parseNat 5).bind ((reads_parseNat w).map RawCondition.destination)

theorem reads_parseCondition_hold {ws : List Word} {t : FieldTest Nat} (read : Reads (parseFieldTest parseNat) ws t) :
    Reads parseCondition (6 :: ws) (.hold t) := (reads_parseNat 6).bind (read.map RawCondition.hold)

theorem reads_parseCondition_lane (w : Word) : Reads parseCondition [8, w] (.lane w.toNat) :=
  (reads_parseNat 8).bind ((reads_parseNat w).map RawCondition.lane)

theorem reads_parseCondition_laps (w : Word) : Reads parseCondition [9, w] (.laps w.toNat) :=
  (reads_parseNat 9).bind ((reads_parseNat w).map RawCondition.laps)

theorem reads_parseCondition {c : Condition} (sendable : c.sendable) :
    Reads parseCondition (conditionForm c) c.sent := by
  cases c with
  | key p => exact reads_parseCondition_key (reads_parsePattern_form sendable)
  | state ks =>
    have list := reads_listForm (g := id) (fun k (_ : k ∈ ks) => reads_parseState k) sendable
    rw [List.map_id] at list
    exact (reads_parseNat 2).bind (list.map RawCondition.state)
  | origin fromRule =>
    cases fromRule with
    | false => exact (reads_parseNat 3).bind (((reads_parseNat 1).bind (Reads.pure false)).map RawCondition.origin)
    | true => exact (reads_parseNat 3).bind (((reads_parseNat 2).bind (Reads.pure true)).map RawCondition.origin)
  | ruleNumber n => exact reads_parseCondition_ruleNumber _
  | destination g => exact reads_parseCondition_destination _
  | hold t => exact reads_parseCondition_hold (reads_parseFieldTest (fun n => reads_parseNat (word n)) t)
  | hostTag t =>
    have test := reads_parseFieldTest (g := id) reads_parse32 t
    have same : t.map id = t := by cases t <;> rfl
    rw [same] at test
    exact (reads_parseNat 7).bind (test.map RawCondition.hostTag)
  | lane l => exact reads_parseCondition_lane _
  | laps n => exact reads_parseCondition_laps _
  | stray => exact (reads_parseNat 10).bind (Reads.pure _)
  | pending => exact (reads_parseNat 11).bind (Reads.pure _)

end Sys2Proof.Machine
end

section
/-!
SUPPORT. The ranges of the arguments (R128): a field that stands for a value in range is that value, and the judging of a
body whose fields are read.
-/
namespace Sys2Proof.Machine

variable {α β : Type}

/-! ### Numbers in their ranges -/

theorem outletOf_sent (k : OutletId) : outletOf (word (outletNumber k)).toNat = some k := by
  rw [outletOf_eq_some, word_toNat (by simp only [outletNumber]; omega), outletNumber]

theorem groupOf_sent (g : GroupId) : groupOf (word (groupNumber g)).toNat = some g := by
  rw [word_toNat (by simp only [groupNumber]; omega), groupOf, groupNumber, dif_pos (by omega)]
  rfl

theorem laneOf_sent (l : Lane) : laneOf (word l.val).toNat = some l := by
  rw [word_toNat (by omega), laneOf, dif_pos l.isLt]

theorem destinationOf_sent (g : Destination) : destinationOf (word g.val).toNat = some g := by
  rw [word_toNat (by omega), destinationOf, dif_pos g.isLt]

theorem ruleOf_sent (n : RuleId) : ruleOf (word n.val).toNat = some n := by
  rw [word_toNat (by omega), ruleOf, dif_pos n.isLt]

theorem cursorOf_sent (c : CursorId) : cursorOf (word c.val).toNat = some c := by
  rw [word_toNat (by omega), cursorOf, dif_pos c.isLt]

theorem inRange_sent {lo hi n : Nat} (within : lo ≤ n ∧ n ≤ hi) (fits : hi < 65536) :
    inRange lo hi (word n).toNat = some n := by
  rw [word_toNat (by omega), inRange, if_pos within]

theorem optionalOf_map {f : β → Option α} {g : α → β} {o : Option α} (each : ∀ a, o = some a → f (g a) = some a) :
    optionalOf f (o.map g) = some o := by
  cases o with
  | none => rfl
  | some a => simp [optionalOf, each a rfl]

theorem allOf_map {f : β → Option α} {g : α → β} {xs : List α} (each : ∀ a ∈ xs, f (g a) = some a) :
    allOf f (xs.map g) = some xs := by
  induction xs with
  | nil => rfl
  | cons a xs ih =>
    have rest := ih fun b among => each b (List.mem_cons_of_mem _ among)
    simp [allOf, each a List.mem_cons_self, rest]

theorem noRepeat_iff [DecidableEq α] (xs : List α) : noRepeat xs = true ↔ xs.Nodup := by
  induction xs with
  | nil => simp [noRepeat]
  | cons a xs ih => simp [noRepeat, ih]

/-! ### Fields in their ranges -/

theorem Designation.fits_of_inRange {d : Designation} (bounds : d.inRange) : d.fits := by
  cases d with
  | ref q => trivial
  | key k => exact bounds

theorem designationOf_sent {d : Designation} (bounds : d.inRange) : designationOf d.sent = some d := by
  cases d with
  | key k => rfl
  | ref q =>
    obtain ⟨slot, serial⟩ := bounds
    rw [Designation.sent, word_toNat (by omega)]
    exact if_pos ⟨slot, serial⟩

/-- An item definition as its words give it. -/
def ItemDefinition.sent (d : ItemDefinition) : RawItem :=
  rawItem d.key (word d.destination.val) (d.hold.map word) d.hostTag

theorem reads_parseItem_form (unused : Byte) {d : ItemDefinition} (fits : d.key.length < 65536) :
    Reads parseItem (itemForm unused d) d.sent :=
  reads_parseItem unused (word d.destination.val) (d.hold.map word) d.hostTag fits

theorem itemOf_sent {d : ItemDefinition} (bounds : d.inRange) : itemOf d.sent = some d := by
  have hold : optionalOf holdReasonOf (d.hold.map (BitVec.toNat ∘ word)) = some d.hold :=
    optionalOf_map fun h is => inRange_sent (bounds.2 h is) (by decide)
  simp [itemOf, ItemDefinition.sent, rawItem, destinationOf_sent, hold]

theorem changeOf_sent {c : Change} (bounds : ∀ n, c = .setHold n → 1 ≤ n ∧ n ≤ 15) : changeOf c.sent = some c := by
  cases c with
  | destination g => exact congrArg (Option.map Change.destination) (destinationOf_sent g)
  | setHold n => exact congrArg (Option.map Change.setHold) (inRange_sent (bounds n rfl) (by decide))
  | clearHold => rfl
  | setTag t => rfl
  | clearTag => rfl

theorem Change.sent_kind (c : Change) : c.sent.kind = c.named := by cases c <;> rfl

theorem patternByteOf_sent {b : Option Byte} (bounds : ∀ v, b = some v → 33 ≤ v.toNat ∧ v.toNat ≤ 126) :
    patternByteOf (word ((b.map BitVec.toNat).getD 0)).toNat = some b := by
  cases b with
  | none => rfl
  | some v =>
    obtain ⟨lo, hi⟩ := bounds v rfl
    have used : (word v.toNat).toNat ≠ 0 := by rw [word_toNat (by omega)]; omega
    refine (if_neg used).trans ?_
    rw [Option.map_some, Option.getD_some, inRange_sent ⟨lo, hi⟩ (by decide), Option.map_some, BitVec.ofNat_toNat, BitVec.setWidth_eq]

theorem patternOf_sent {p : KeyPattern} (valid : p.valid) : patternOf p.sent = some p := by
  obtain ⟨few, bytes, lo, order, hi⟩ := valid
  have positions : allOf patternByteOf p.sent.positions = some p.positions :=
    allOf_map (g := fun b => (word ((b.map BitVec.toNat).getD 0)).toNat) fun b among =>
      patternByteOf_sent fun v is => bytes v (is ▸ among)
  have minLength : p.sent.minLength = p.minLength := word_toNat (by omega)
  have maxLength : p.sent.maxLength = p.maxLength := word_toNat (by omega)
  simp [patternOf, positions, minLength, maxLength, few, lo, order, hi]

theorem viewOf_sent (v : View) : viewOf v.sent = some v := by
  cases v with
  | key => rfl
  | state k => rfl
  | expected k => exact congrArg (Option.map View.expected) (outletOf_sent k)
  | expectedBin l => exact congrArg (Option.map View.expectedBin) (laneOf_sent l)
  | content k => exact congrArg (Option.map View.content) (outletOf_sent k)

theorem placementOf_sent {v : View} {p : Placement} (record : ∀ d, p = .atRecord d → d.inRange)
    (key : ∀ k, p = .atKey k → inKeyOrder v = true) : placementOf v p.sent = some p := by
  cases p with
  | first => rfl
  | last => rfl
  | atRecord d => exact congrArg (Option.map Placement.atRecord) (designationOf_sent (record d rfl))
  | atKey k => exact if_pos (key k rfl)

/-- R114: a parameter in range. -/
def Parameter.inRange : Parameter → Prop
  | .decisionWindow n => 100 ≤ n ∧ n ≤ 20000
  | .reviseWindow n => 100 ≤ n ∧ n ≤ 50000
  | .lapLimit n => 1 ≤ n ∧ n ≤ 7
  | .holdGroup _ => True

theorem parameterOf_sent {p : Parameter} (bounds : p.inRange) : parameterOf p.sent = some p := by
  cases p with
  | decisionWindow n => exact congrArg (Option.map Parameter.decisionWindow) (inRange_sent bounds (by decide))
  | reviseWindow n => exact congrArg (Option.map Parameter.reviseWindow) (inRange_sent bounds (by decide))
  | lapLimit n => exact congrArg (Option.map Parameter.lapLimit) (inRange_sent bounds (by decide))
  | holdGroup g => exact congrArg (Option.map Parameter.holdGroup) (destinationOf_sent g)

theorem Parameter.sent_fst (p : Parameter) : p.sent.1 = p.named := by cases p <;> rfl

/-- R143: a condition in range. -/
def Condition.inRange : Condition → Prop
  | .key p => p.valid
  | .state ks => ks ≠ [] ∧ ks.Nodup
  | .hold (.value n) => 1 ≤ n ∧ n ≤ 15
  | .laps n => n ≤ 7
  | _ => True

theorem nodup_stateKinds_length {ks : List StateKind} (distinct : ks.Nodup) : ks.length ≤ 5 := by
  have among : ks ⊆ [.expected, .routed, .sorted, .recirculating, .rejected] := fun k _ => by cases k <;> decide
  exact (distinct.subperm among).length_le

theorem Condition.sendable_of_inRange {c : Condition} (bounds : c.inRange) : c.sendable := by
  cases c
  case key p => exact Nat.lt_of_le_of_lt bounds.1 (by decide)
  case state ks => exact Nat.lt_of_le_of_lt (nodup_stateKinds_length bounds.2) (by decide)
  all_goals trivial

theorem conditionOf_sent {c : Condition} (bounds : c.inRange) : conditionOf c.sent = some c := by
  cases c with
  | key p => exact congrArg (Option.map Condition.key) (patternOf_sent bounds)
  | state ks => exact if_pos ⟨bounds.1, (noRepeat_iff ks).mpr bounds.2⟩
  | origin fromRule => rfl
  | ruleNumber n => exact congrArg (Option.map Condition.ruleNumber) (ruleOf_sent n)
  | destination g => exact congrArg (Option.map Condition.destination) (destinationOf_sent g)
  | hold t =>
    cases t with
    | absent => rfl
    | present => rfl
    | value n => exact congrArg (Option.map fun v => Condition.hold (.value v)) (inRange_sent bounds (by decide))
  | hostTag t => rfl
  | lane l => exact congrArg (Option.map Condition.lane) (laneOf_sent l)
  | laps n => exact congrArg (Option.map Condition.laps) (inRange_sent ⟨Nat.zero_le n, bounds⟩ (by decide))
  | stray => rfl
  | pending => rfl

theorem Condition.sent_kind (c : Condition) : c.sent.kind = c.named := by cases c <;> rfl

/-! ### The judging of a body (R125, R128) -/

/-- The body is judged so, and longer and shorter ones draw BAD_FRAME. -/
structure Judges (judge : List Word → Judged) (body : List Word) (result : Judged) : Prop where
  whole : judge body = result
  long : ∀ w ws, judge (body ++ w :: ws) = .refused .badFrame []
  short : ∀ n, n < body.length → judge (body.take n) = .refused .badFrame []

theorem Reads.judges {p : Parse α} {check : α → Judged} {body : List Word} {a : α} {result : Judged}
    (read : Reads p body a) (checked : check a = result) : Judges (judgeBody p check) body result where
  whole := by
    have whole := read.whole []
    rw [List.append_nil] at whole
    simp only [judgeBody, whole, checked]
  long w ws := by simp only [judgeBody, read.whole (w :: ws)]
  short n less := by simp only [judgeBody, read.short n less]

theorem Stops.judged {p : Parse α} {check : α → Judged} {ws : List Word} (stops : Stops p ws) (rest : List Word) :
    judgeBody p check (ws ++ rest) = .refused .badArgument [] := by
  simp only [judgeBody, stops rest]

end Sys2Proof.Machine
end

section
/-!
SUPPORT. The body of each command in its form is judged to be the command (R165), by the fields that its words are read
as and the ranges that they pass.
-/
namespace Sys2Proof.Machine

/-! ### The commands that pass their ranges -/

theorem readCommandOf_sent {d : Designation} (bounds : d.inRange) :
    readCommandOf (.record d.sent) = some (.readItem d) :=
  congrArg (Option.map HostCommand.readItem) (designationOf_sent bounds)

theorem reads_parseRead_ref (slot : Word) (serial : Word32) :
    Reads parseRead (1 :: slot :: words32 serial) (.record (.ref slot.toNat serial)) :=
  (reads_parseNat 1).bind ((reads_parseNat slot).bind ((reads_parse32 serial).map
    fun serial => RawRead.record (.ref slot.toNat serial)))

theorem reads_parseRead_record (unused : Byte) {d : Designation} (fits : d.fits) :
    Reads parseRead (designationForm unused d) (.record d.sent) := by
  cases d with
  | ref q => exact reads_parseRead_ref (word q.slot) q.serial
  | key k => exact (reads_parseNat 2).bind ((reads_parseKey unused fits).map fun k => RawRead.record (.key k))

/-- The word of a step of READ ITEM by cursor (R139). -/
def cursorStepWord : CursorStep → Word
  | .next => 1
  | .prev => 2
  | .hold => 3

/-- The word of an access of READ ITEM by cursor (R139). -/
def cursorAccessWord : CursorAccess → Word
  | .read => 1
  | .skip => 2

theorem reads_parseCursorStep (step : CursorStep) : Reads parseCursorStep [cursorStepWord step] step := by
  cases step with
  | next => exact (reads_parseNat 1).bind (Reads.pure _)
  | prev => exact (reads_parseNat 2).bind (Reads.pure _)
  | hold => exact (reads_parseNat 3).bind (Reads.pure _)

theorem reads_parseAccess (access : CursorAccess) : Reads parseAccess [cursorAccessWord access] access := by
  cases access with
  | read => exact (reads_parseNat 1).bind (Reads.pure _)
  | skip => exact (reads_parseNat 2).bind (Reads.pure _)

theorem reads_parseRead_cursor (c : Word) (step : CursorStep) (access : CursorAccess) :
    Reads parseRead [3, c, cursorStepWord step, cursorAccessWord access] (.cursor c.toNat step access) :=
  (reads_parseNat 3).bind ((reads_parseNat c).bind ((reads_parseCursorStep step).bind
    ((reads_parseAccess access).map (RawRead.cursor c.toNat step))))

theorem reads_parseAmendment (unused : Byte) {d : Designation} (g : Option (BitVec 16)) {cs : List Change}
    (fits : d.fits) (few : cs.length < 65536) :
    Reads parseAmendment (designationForm unused d ++ guardForm g ++ listForm changeForm cs)
      (d.sent, g, cs.map Change.sent) := by
  rw [List.append_assoc]
  exact (reads_parseDesignation unused fits).bind ((reads_parseGuard g).bind
    ((reads_listForm (fun c _ => reads_parseChange c) few).map _))

theorem repeatsAllowed_iff (code : Byte) (names : List Nat) :
    repeatsAllowed code names = true ↔ names.Nodup ∨ Config.repeatedNameRefused code = false := by
  simp [repeatsAllowed, noRepeat_iff]

theorem map_sent_kind (cs : List Change) : (cs.map Change.sent).map RawChange.kind = cs.map Change.named := by
  rw [List.map_map]
  exact List.map_congr_left fun c _ => c.sent_kind

theorem amendCommandOf_sent {a : Amendment} (bounds : (HostCommand.amendItem a).inRange) :
    amendCommandOf a.designation.sent a.guardRevision (a.changes.map Change.sent) = some (.amendItem a) := by
  obtain ⟨designation, holds, named, _, names⟩ := bounds
  have changes : allOf changeOf (a.changes.map Change.sent) = some a.changes :=
    allOf_map fun c among => changeOf_sent fun n is => holds n (is ▸ among)
  rw [amendCommandOf, designationOf_sent designation, changes, map_sent_kind]
  exact if_pos ⟨by simpa using named, (repeatsAllowed_iff _ _).mpr names⟩

theorem reads_parseGroup {α β : Type} (g : Word) (member : α → Word) {members : List α} {policy : Policy}
    (group : β → Word) {overflow : Option β} (fits : members.length < 65536) :
    Reads parseGroup (g :: listForm (fun k => [member k]) members ++ [policyWord policy] ++
        presenceForm (fun h => [group h]) overflow)
      (g.toNat, members.map fun k => (member k).toNat, policy, overflow.map fun h => (group h).toNat) := by
  have list := reads_listForm (f := fun k => [member k]) (fun k (_ : k ∈ members) => reads_parseNat (member k)) fits
  have spill := reads_parseOptional (f := fun h => [group h]) overflow fun h _ => reads_parseNat (group h)
  rw [List.append_assoc]
  exact (reads_parseNat g).bind (list.bind ((reads_parsePolicy policy).bind (spill.map _)))

theorem filter_allOutlets {members sent : List OutletId} (order : members.Pairwise fun a b => a < b)
    (same : sent.Perm members) : (allOutlets.filter fun k => decide (k ∈ sent)) = members := by
  have sorted : (allOutlets.filter fun k => decide (k ∈ sent)).Pairwise fun a b => a < b :=
    (List.pairwise_lt_finRange 48).filter _
  refine List.Perm.eq_of_pairwise (fun a b _ _ less more => absurd less (not_lt.mpr more.le)) sorted order ?_
  refine (List.perm_ext_iff_of_nodup (sorted.imp ne_of_lt) (order.imp ne_of_lt)).mpr fun k => ?_
  simp [allOutlets, same.mem_iff]

/-- R46: the members of a group may be sent in any order. -/
theorem groupCommandOf_sent {g : GroupId} {members sent : List OutletId} {policy : Policy} {overflow : Option GroupId}
    (bounds : (HostCommand.defineGroup g members policy overflow).inRange) (same : sent.Perm members) :
    groupCommandOf (word (groupNumber g)).toNat (sent.map fun k => (word (outletNumber k)).toNat) policy
      (overflow.map fun h => (word (groupNumber h)).toNat) = some (.defineGroup g members policy overflow) := by
  obtain ⟨order, other⟩ := bounds
  have outlets : allOf outletOf (sent.map fun k => (word (outletNumber k)).toNat) = some sent :=
    allOf_map fun k _ => outletOf_sent k
  have spill : optionalOf groupOf (overflow.map fun h => (word (groupNumber h)).toNat) = some overflow :=
    optionalOf_map fun h _ => groupOf_sent h
  have distinct : sent.Nodup := same.nodup_iff.mpr (order.imp ne_of_lt)
  have few : sent.length ≤ 48 := by simpa using distinct.length_le_card
  rw [groupCommandOf, groupOf_sent, outlets, spill]
  exact (if_pos ⟨(noRepeat_iff sent).mpr distinct, few, other⟩).trans
    (congrArg (fun ks => some (HostCommand.defineGroup g ks policy overflow)) (filter_allOutlets order same))

theorem reads_parseRule (n enabled : Word) {positions : List Word} (lo hi priority group : Word)
    (fits : positions.length < 65536) :
    Reads parseRule ([n, enabled] ++ sentPattern positions lo hi ++ [priority, group])
      (n.toNat, enabled.toNat, { positions := positions.map BitVec.toNat, minLength := lo.toNat, maxLength := hi.toNat },
        priority.toNat, group.toNat) := by
  rw [List.append_assoc]
  exact (reads_parseNat n).bind ((reads_parseNat enabled).bind ((reads_parsePattern lo hi fits).bind
    ((reads_parseNat priority).bind ((reads_parseNat group).map _))))

theorem KeyPattern.sent_eq (p : KeyPattern) :
    p.sent = { positions := (p.positions.map fun b => word ((b.map BitVec.toNat).getD 0)).map BitVec.toNat,
               minLength := (word p.minLength).toNat, maxLength := (word p.maxLength).toNat } := by
  rw [List.map_map]
  rfl

theorem ruleCommandOf_sent {n : RuleId} {e : RuleEntry} (bounds : (HostCommand.writeRule n e).inRange) :
    ruleCommandOf (word n.val).toNat (if e.enabled then (1 : Word) else 0).toNat e.pattern.sent (word e.priority).toNat
      (word e.group.val).toNat = some (.writeRule n e) := by
  obtain ⟨valid, priority⟩ := bounds
  have enabled : yesNoOf (if e.enabled then (1 : Word) else 0).toNat = some e.enabled := by cases e.enabled <;> rfl
  have urgency : inRange 0 15 (word e.priority).toNat = some e.priority :=
    inRange_sent ⟨Nat.zero_le _, priority⟩ (by decide)
  simp only [ruleCommandOf, ruleOf_sent, enabled, patternOf_sent valid, urgency, destinationOf_sent,
    Option.bind_eq_bind, Option.bind_some, Option.pure_def]

/-- The fields of SET LANE PARAMETERS (R114). -/
def parseLaneParameters : Parse (Nat × List (Nat × Nat)) := do return (← parseNat, ← parseList parseParameter)

theorem reads_parseLaneParameters (l : Word) {body : List Word} {ps : List (Nat × Nat)}
    (list : Reads (parseList parseParameter) body ps) : Reads parseLaneParameters (l :: body) (l.toNat, ps) :=
  (reads_parseNat l).bind (list.map _)

theorem reads_parameters {ps : List Parameter} (few : ps.length < 65536) :
    Reads (parseList parseParameter) (listForm parameterForm ps) (ps.map Parameter.sent) :=
  reads_listForm (fun p _ => reads_parseParameter p) few

theorem map_sent_fst (ps : List Parameter) : (ps.map Parameter.sent).map (·.1) = ps.map Parameter.named := by
  rw [List.map_map]
  exact List.map_congr_left fun p _ => p.sent_fst

theorem parametersCommandOf_sent {l : Lane} {ps : List Parameter} (bounds : (HostCommand.setLaneParameters l ps).inRange) :
    parametersCommandOf (word l.val).toNat (ps.map Parameter.sent) = some (.setLaneParameters l ps) := by
  obtain ⟨each, named, _, names⟩ := bounds
  have parameters : allOf parameterOf (ps.map Parameter.sent) = some ps := allOf_map fun p among =>
    parameterOf_sent (by have holds := each p among; cases p <;> exact holds)
  rw [parametersCommandOf, laneOf_sent, parameters, map_sent_fst]
  exact if_pos ⟨by simpa using named, (repeatsAllowed_iff _ _).mpr names⟩

/-- The fields of SET CURSOR (R138). -/
def parseSetCursor : Parse (Nat × RawView × RawPlacement) := do return (← parseNat, ← parseView, ← parsePlacement)

theorem reads_parseSetCursor (c : Word) {view placement : List Word} {v : RawView} {p : RawPlacement}
    (viewRead : Reads parseView view v) (placementRead : Reads parsePlacement placement p) :
    Reads parseSetCursor (c :: view ++ placement) (c.toNat, v, p) :=
  (reads_parseNat c).bind (viewRead.bind (placementRead.map _))

theorem setCursorCommandOf_sent {c : CursorId} {v : View} {p : Placement} (record : ∀ d, p = .atRecord d → d.inRange)
    (key : ∀ k, p = .atKey k → inKeyOrder v = true) :
    setCursorCommandOf (word c.val).toNat v.sent p.sent = some (.setCursor c v p) := by
  simp [setCursorCommandOf, cursorOf_sent, viewOf_sent, placementOf_sent record key]

theorem reads_parseStart (next : Bool) : Reads parseStart [if next then 1 else 2] next := by
  cases next with
  | true => exact (reads_parseNat 1).bind (Reads.pure _)
  | false => exact (reads_parseNat 2).bind (Reads.pure _)

theorem reads_parseSelection (urgentOnly : Bool) : Reads parseSelection [if urgentOnly then 2 else 1] urgentOnly := by
  cases urgentOnly with
  | true => exact (reads_parseNat 2).bind (Reads.pure _)
  | false => exact (reads_parseNat 1).bind (Reads.pure _)

/-- The fields of SEARCH (R143). -/
def parseSearch : Parse (Nat × Bool × Nat × List RawCondition) := do
  return (← parseNat, ← parseStart, ← parseNat, ← parseList parseCondition)

theorem reads_parseSearch (c limit : Word) (next : Bool) {body : List Word} {cs : List RawCondition}
    (list : Reads (parseList parseCondition) body cs) :
    Reads parseSearch ([c, if next then 1 else 2, limit] ++ body) (c.toNat, next, limit.toNat, cs) :=
  (reads_parseNat c).bind ((reads_parseStart next).bind ((reads_parseNat limit).bind (list.map _)))

theorem reads_conditions {cs : List Condition} (few : cs.length < 65536) (sendable : ∀ x ∈ cs, x.sendable) :
    Reads (parseList parseCondition) (listForm conditionForm cs) (cs.map Condition.sent) :=
  reads_listForm (fun x among => reads_parseCondition (sendable x among)) few

theorem map_sent_conditionKind (cs : List Condition) :
    (cs.map Condition.sent).map RawCondition.kind = cs.map Condition.named := by
  rw [List.map_map]
  exact List.map_congr_left fun c _ => c.sent_kind

theorem nodup_named_length {cs : List Condition} (distinct : (cs.map Condition.named).Nodup) : cs.length ≤ 12 := by
  have among : cs.map Condition.named ⊆ List.range 12 := fun n given => by
    obtain ⟨c, _, rfl⟩ := List.mem_map.mp given
    cases c <;> simp [Condition.named]
  simpa using (distinct.subperm among).length_le

theorem condition_inRange_of_search {q : SearchQuery} (bounds : (HostCommand.search q).inRange) {c : Condition}
    (among : c ∈ q.conditions) : c.inRange := by
  have holds := bounds.2.2.2 c among
  cases c
  case hold t => cases t <;> exact holds
  all_goals exact holds

theorem searchCommandOf_sent {q : SearchQuery} (bounds : (HostCommand.search q).inRange) :
    searchCommandOf (word q.cursor.val).toNat q.startNext (word q.limit).toNat (q.conditions.map Condition.sent) =
      some (.search q) := by
  have conditions : allOf conditionOf (q.conditions.map Condition.sent) = some q.conditions :=
    allOf_map fun c among => conditionOf_sent (condition_inRange_of_search bounds among)
  obtain ⟨lo, hi, distinct, _⟩ := bounds
  have limit : inRange 1 Config.slotCount (word q.limit).toNat = some q.limit := inRange_sent ⟨lo, hi⟩ (by decide)
  rw [searchCommandOf, cursorOf_sent, limit, conditions, map_sent_conditionKind]
  exact if_pos ((noRepeat_iff _).mpr distinct)

/-! ### LOAD MANIFEST (R132) -/

theorem parseItems_of_error {n : Nat} {ws : List Word} (short : parseItem ws = .error .wrongForm) :
    parseItems (n + 1) ws = .error .wrongForm := by
  simp only [parseItems, short]

theorem parseItems_of_item {n : Nat} {ws rest left : List Word} {r : RawItem} {rs : List (Option RawItem)}
    (first : parseItem ws = .ok (r, rest)) (others : parseItems n rest = .ok (rs, left)) :
    parseItems (n + 1) ws = .ok (some r :: rs, left) := by
  simp only [parseItems, first, others]

theorem parseItems_of_short {n : Nat} {ws rest : List Word} {r : RawItem} {fault : FormFault}
    (first : parseItem ws = .ok (r, rest)) (others : parseItems n rest = .error fault) :
    parseItems (n + 1) ws = .error fault := by
  simp only [parseItems, first, others]

theorem reads_parseItems {vs : List (List Word)} {raws : List RawItem} (read : List.Forall₂ (Reads parseItem) vs raws) :
    Reads (parseItems vs.length) vs.flatten (raws.map some) := by
  induction read with
  | nil => exact Reads.pure []
  | @cons v r vs raws first _ ih =>
    constructor
    · intro rest
      rw [List.flatten_cons, List.append_assoc]
      exact parseItems_of_item (first.whole _) (ih.whole rest)
    · intro n less
      rw [List.flatten_cons, List.take_append]
      by_cases inside : n < v.length
      · rw [show n - v.length = 0 by omega, List.take_zero, List.append_nil]
        exact parseItems_of_error (first.short n inside)
      · rw [List.take_of_length_le (by omega)]
        exact parseItems_of_short (first.whole _) (ih.short _ (by
          simp only [List.flatten_cons, List.length_append] at less
          omega))

theorem reads_parseManifest {vs : List (List Word)} {raws : List RawItem}
    (read : List.Forall₂ (Reads parseItem) vs raws) (few : vs.length < 65536) :
    Reads parseManifest (word vs.length :: vs.flatten) (vs.length, raws.map some) := by
  have size := reads_parseNat (word vs.length)
  rw [word_toNat few] at size
  exact size.bind ((reads_parseItems read).map _)

/-- R132: items that pass all checks are done before the next is checked. -/
theorem checkItems_append {n : Nat} {done pre : List ItemDefinition} (rest : List (Option RawItem))
    (pass : ∀ d ∈ pre, d.inRange ∧ keyValid d.key = true) :
    checkItems n done (pre.map (fun d => some d.sent) ++ rest) = checkItems (n + pre.length) (pre.reverse ++ done) rest := by
  induction pre generalizing n done with
  | nil => rfl
  | cons d pre ih =>
    obtain ⟨bounds, valid⟩ := pass d List.mem_cons_self
    have others := ih (n := n + 1) (done := d :: done) fun e among => pass e (List.mem_cons_of_mem _ among)
    rw [List.map_cons, List.cons_append, List.length_cons, List.reverse_cons, List.append_assoc, Nat.add_comm pre.length,
      ← Nat.add_assoc]
    simpa only [checkItems, itemOf_sent bounds, valid, if_true, List.singleton_append] using others

theorem checkItems_of_outOfRange {n : Nat} {done : List ItemDefinition} {r : RawItem} (rest : List (Option RawItem))
    (fails : itemOf r = none) : checkItems n done (some r :: rest) = .refused .badArgument [word n] := by
  simp only [checkItems, fails]

theorem checkItems_of_badKey {n : Nat} {done : List ItemDefinition} {r : RawItem} {d : ItemDefinition}
    (rest : List (Option RawItem)) (passes : itemOf r = some d) (invalid : keyValid d.key = false) :
    checkItems n done (some r :: rest) = .refused .badKey [word n] := by
  simp only [checkItems, passes, invalid, Bool.false_eq_true, if_false]

end Sys2Proof.Machine
end

section
/-!
SUPPORT. The judging of every command in its form (R125, R128, R165).
-/
namespace Sys2Proof.Machine

variable {α : Type}

/-- R128: the command that an argument in range makes is checked for its keys. -/
theorem checkArguments_map {o : Option α} {a : α} (f : α → HostCommand) (passes : o = some a) :
    checkArguments (o.map f) = checkArguments (some (f a)) :=
  congrArg (fun o => checkArguments (o.map f)) passes

theorem judges_outlet (f : OutletId → HostCommand) (k : OutletId) :
    Judges (judgeOutlet f) [word (outletNumber k)] (checkArguments (some (f k))) :=
  (reads_parseNat _).judges (checkArguments_map f (outletOf_sent k))

theorem judges_lane (f : Lane → HostCommand) (l : Lane) :
    Judges (judgeLane f) [word l.val] (checkArguments (some (f l))) :=
  (reads_parseNat _).judges (checkArguments_map f (laneOf_sent l))

theorem judges_readItemByCursor (c : CursorId) (step : CursorStep) (access : CursorAccess) :
    Judges judgeReadItem [3, word c.val, cursorStepWord step, cursorAccessWord access]
      (checkArguments (some (.readItemByCursor c step access))) :=
  (reads_parseRead_cursor (word c.val) step access).judges
    (checkArguments_map (fun c => HostCommand.readItemByCursor c step access) (cursorOf_sent c))

theorem judges_retireItem (unused : Byte) {d : Designation} (force : Bool) (bounds : d.inRange) :
    Judges judgeRetireItem (designationForm unused d ++ [if force then 1 else 0])
      (checkArguments (some (.retireItem d force))) :=
  ((reads_parseDesignation unused (Designation.fits_of_inRange bounds)).bind
    ((reads_parsePresence force).map _)).judges
      (checkArguments_map (fun d => HostCommand.retireItem d force) (designationOf_sent bounds))

theorem judges_defineOutlet (k : OutletId) (l : Lane) {capacity : Nat} (bounds : 1 ≤ capacity ∧ capacity ≤ 4095) :
    Judges judgeDefineOutlet [word (outletNumber k), word l.val, word capacity]
      (checkArguments (some (.defineOutlet k l capacity))) := by
  have room : capacityOf (word capacity).toNat = some capacity := inRange_sent bounds (by decide)
  refine ((reads_parseNat _).bind ((reads_parseNat _).bind ((reads_parseNat _).map _))).judges ?_
  exact congrArg checkArguments (by simp [outletOf_sent, laneOf_sent, room])

theorem judges_setCapacity (k : OutletId) {capacity : Nat} (bounds : 1 ≤ capacity ∧ capacity ≤ 4095) :
    Judges judgeSetCapacity [word (outletNumber k), word capacity]
      (checkArguments (some (.setCapacity k capacity))) := by
  have room : capacityOf (word capacity).toNat = some capacity := inRange_sent bounds (by decide)
  refine ((reads_parseNat _).bind ((reads_parseNat _).map _)).judges ?_
  exact congrArg checkArguments (by simp [outletOf_sent, room])

theorem reads_parseOutletOrBin_outlet (w : Word) : Reads parseOutletOrBin [1, w] (false, w.toNat) :=
  (reads_parseNat 1).bind ((reads_parseNat w).map fun n => (false, n))

theorem reads_parseOutletOrBin_bin (w : Word) : Reads parseOutletOrBin [2, w] (true, w.toNat) :=
  (reads_parseNat 2).bind ((reads_parseNat w).map fun n => (true, n))

theorem judges_readOutlet (which : OutletOrBin) (unused : Byte) :
    Judges judgeReadOutlet ((HostCommand.readOutlet which).form unused)
      (checkArguments (some (.readOutlet which))) := by
  cases which with
  | outlet k =>
    exact (reads_parseOutletOrBin_outlet _).judges
      (checkArguments_map (fun k => HostCommand.readOutlet (.outlet k)) (outletOf_sent k))
  | bin l =>
    exact (reads_parseOutletOrBin_bin _).judges
      (checkArguments_map (fun l => HostCommand.readOutlet (.bin l)) (laneOf_sent l))

theorem defineGroup_form (g : GroupId) (members : List OutletId) (policy : Policy) (overflow : Option GroupId)
    (unused : Byte) : (HostCommand.defineGroup g members policy overflow).form unused =
      word (groupNumber g) :: listForm (fun k => [word (outletNumber k)]) members ++ [policyWord policy] ++
        presenceForm (fun h => [word (groupNumber h)]) overflow := by
  cases policy <;> rfl

theorem judges_defineGroup {g : GroupId} {members sent : List OutletId} {policy : Policy} {overflow : Option GroupId}
    (unused : Byte) (bounds : (HostCommand.defineGroup g members policy overflow).inRange) (same : sent.Perm members) :
    Judges judgeDefineGroup ((HostCommand.defineGroup g sent policy overflow).form unused)
      (checkArguments (some (.defineGroup g members policy overflow))) := by
  have few : sent.length ≤ 48 := by
    simpa using (same.nodup_iff.mpr (bounds.1.imp ne_of_lt)).length_le_card
  rw [defineGroup_form]
  exact (reads_parseGroup (word (groupNumber g)) (fun k => word (outletNumber k)) (fun h => word (groupNumber h))
    (by omega)).judges (congrArg checkArguments (groupCommandOf_sent bounds same))

theorem judges_writeRule {n : RuleId} {e : RuleEntry} (unused : Byte) (bounds : (HostCommand.writeRule n e).inRange) :
    Judges judgeWriteRule ((HostCommand.writeRule n e).form unused) (checkArguments (some (.writeRule n e))) := by
  have few : e.pattern.positions.length ≤ 20 := bounds.1.1
  have read := reads_parseRule (word n.val) (if e.enabled then 1 else 0)
    (positions := e.pattern.positions.map fun b => word ((b.map BitVec.toNat).getD 0))
    (word e.pattern.minLength) (word e.pattern.maxLength) (word e.priority) (word e.group.val) (by simp; omega)
  rw [← KeyPattern.sent_eq] at read
  exact read.judges (congrArg checkArguments (ruleCommandOf_sent bounds))

theorem judges_setCursor {c : CursorId} {v : View} {p : Placement} (unused : Byte)
    (bounds : (HostCommand.setCursor c v p).inRange) :
    Judges judgeSetCursor ((HostCommand.setCursor c v p).form unused) (checkArguments (some (.setCursor c v p))) := by
  have record (d) (is : p = .atRecord d) : d.inRange := by subst is; exact bounds
  have key (k) (is : p = .atKey k) : k.length < 65536 ∧ (v = .key ∨ ∃ s, v = .state s) := by subst is; exact bounds
  have ordered (k) (is : p = .atKey k) : inKeyOrder v = true := by
    rcases (key k is).2 with rfl | ⟨s, rfl⟩ <;> rfl
  exact (reads_parseSetCursor (word c.val) (reads_parseView v) (reads_parsePlacement unused
    (fun d is => Designation.fits_of_inRange (record d is)) fun k is => (key k is).1)).judges
      (congrArg checkArguments (setCursorCommandOf_sent record ordered))

theorem judges_search {q : SearchQuery} (unused : Byte) (bounds : (HostCommand.search q).inRange) :
    Judges judgeSearch ((HostCommand.search q).form unused) (checkArguments (some (.search q))) := by
  have few : q.conditions.length ≤ 12 := nodup_named_length bounds.2.2.1
  exact (reads_parseSearch (word q.cursor.val) (word q.limit) q.startNext (reads_conditions (by omega) fun c among =>
    Condition.sendable_of_inRange (condition_inRange_of_search bounds among))).judges
      (congrArg checkArguments (searchCommandOf_sent bounds))

/-- R125, R128: every command but LOAD MANIFEST in its form comes to the check of its keys. -/
theorem judges_form (c : HostCommand) (unused : Byte) (bounds : c.inRange) (single : ∀ items, c ≠ .loadManifest items) :
    ∃ judge, judgeOf c.code = some judge ∧ Judges judge (c.form unused) (checkArguments (some c)) := by
  cases c with
  | createItem d =>
    exact ⟨_, rfl, (reads_parseItem_form unused bounds.1).judges (checkArguments_map _ (itemOf_sent bounds))⟩
  | loadManifest items => exact absurd rfl (single items)
  | readItem d =>
    exact ⟨_, rfl, (reads_parseRead_record unused (Designation.fits_of_inRange bounds)).judges
      (congrArg checkArguments (readCommandOf_sent bounds))⟩
  | readItemByCursor c step access =>
    have judged := judges_readItemByCursor c step access
    exact ⟨_, rfl, by cases step <;> cases access <;> exact judged⟩
  | amendItem a =>
    exact ⟨_, rfl, (reads_parseAmendment unused a.guardRevision (Designation.fits_of_inRange bounds.1)
      (by simpa using bounds.2.2.2.1)).judges (congrArg checkArguments (amendCommandOf_sent bounds))⟩
  | restoreItem d =>
    exact ⟨_, rfl, (reads_parseDesignation unused (Designation.fits_of_inRange bounds)).judges
      (checkArguments_map _ (designationOf_sent bounds))⟩
  | retireItem d force => exact ⟨_, rfl, judges_retireItem unused force bounds⟩
  | defineOutlet k l capacity => exact ⟨_, rfl, judges_defineOutlet k l bounds⟩
  | undefineOutlet k => exact ⟨_, rfl, judges_outlet .undefineOutlet k⟩
  | setCapacity k capacity => exact ⟨_, rfl, judges_setCapacity k bounds⟩
  | closeOutlet k => exact ⟨_, rfl, judges_outlet .closeOutlet k⟩
  | openOutlet k => exact ⟨_, rfl, judges_outlet .openOutlet k⟩
  | readOutlet which => exact ⟨_, rfl, judges_readOutlet which unused⟩
  | clearOutlet k => exact ⟨_, rfl, judges_outlet .clearOutlet k⟩
  | defineGroup g members policy overflow => exact ⟨_, rfl, judges_defineGroup unused bounds (.refl members)⟩
  | readGroup g => exact ⟨_, rfl, (reads_parseNat _).judges (checkArguments_map _ (groupOf_sent g))⟩
  | writeRule n e => exact ⟨_, rfl, judges_writeRule unused bounds⟩
  | readRule n => exact ⟨_, rfl, (reads_parseNat _).judges (checkArguments_map _ (ruleOf_sent n))⟩
  | startLane l => exact ⟨_, rfl, judges_lane .startLane l⟩
  | stopLane l => exact ⟨_, rfl, judges_lane .stopLane l⟩
  | setLaneParameters l ps =>
    exact ⟨_, rfl, (reads_parseLaneParameters (word l.val) (reads_parameters (by simpa using bounds.2.2.1))).judges
      (congrArg checkArguments (parametersCommandOf_sent bounds))⟩
  | setCursor c v p => exact ⟨_, rfl, judges_setCursor unused bounds⟩
  | search q => exact ⟨_, rfl, judges_search unused bounds⟩
  | takeAttention urgentOnly => exact ⟨_, rfl, (reads_parseSelection urgentOnly).judges rfl⟩
  | peekAttention urgentOnly => exact ⟨_, rfl, (reads_parseSelection urgentOnly).judges rfl⟩
  | resetDirectory => exact ⟨_, rfl, (Reads.pure ()).judges rfl⟩
  | readLane l => exact ⟨_, rfl, judges_lane .readLane l⟩

/-- R132: LOAD MANIFEST in its form comes to the check of its items. -/
theorem judges_loadManifest {vs : List (List Word)} {raws : List RawItem}
    (read : List.Forall₂ (Reads parseItem) vs raws) (count : 1 ≤ vs.length ∧ vs.length ≤ 12) :
    Judges judgeLoadManifest (word vs.length :: vs.flatten) (checkItems 1 [] (raws.map some)) :=
  (reads_parseManifest read (by omega)).judges (if_pos count)

/-- R128, second class: the keys that are checked are those that the command carries. -/
theorem keys_eq_keysSent {c : HostCommand} (single : ∀ items, c ≠ .loadManifest items) : c.keys = c.keysSent := by
  cases c
  case loadManifest items => exact absurd rfl (single items)
  case readItem d => cases d <;> rfl
  case restoreItem d => cases d <;> rfl
  case retireItem d force => cases d <;> rfl
  case amendItem a => obtain ⟨d, g, cs⟩ := a; cases d <;> rfl
  case setCursor c v p =>
    cases p
    case atRecord d => cases d <;> rfl
    all_goals rfl
  all_goals rfl

theorem checkArguments_of_valid {c : HostCommand} (valid : ∀ k ∈ c.keys, keyValid k = true) :
    checkArguments (some c) = .command c :=
  if_pos (List.all_eq_true.mpr valid)

theorem checkArguments_of_invalid {c : HostCommand} (invalid : ∃ k ∈ c.keys, keyValid k = false) :
    checkArguments (some c) = .refused .badKey [] := by
  obtain ⟨k, among, fails⟩ := invalid
  refine if_neg fun all => ?_
  have valid := List.all_eq_true.mp all k among
  rw [fails] at valid
  exact Bool.false_ne_true valid

end Sys2Proof.Machine
end

section
/-!
SUPPORT. Bodies of their command's form that are refused with BAD_ARGUMENT (R128, first class): the ranges that a word
fails.
-/
namespace Sys2Proof.Machine

variable {α β : Type}

/-! ### Numbers out of their ranges -/

theorem outletOf_eq_none {w : Word} (fails : ¬within 1 48 w) : outletOf w.toNat = none := dif_neg fails

theorem groupOf_eq_none {w : Word} (fails : ¬within 1 15 w) : groupOf w.toNat = none := dif_neg fails

theorem laneOf_eq_none {w : Word} (fails : 3 < w.toNat) : laneOf w.toNat = none := dif_neg (by omega)

theorem destinationOf_eq_none {w : Word} (fails : 15 < w.toNat) : destinationOf w.toNat = none := dif_neg (by omega)

theorem ruleOf_eq_none {w : Word} (fails : 127 < w.toNat) : ruleOf w.toNat = none := dif_neg (by omega)

theorem cursorOf_eq_none {w : Word} (fails : 7 < w.toNat) : cursorOf w.toNat = none := dif_neg (by omega)

theorem inRange_eq_none {lo hi : Nat} {w : Word} (fails : ¬within lo hi w) : inRange lo hi w.toNat = none :=
  if_neg fails

theorem yesNoOf_eq_none {w : Word} (fails : 1 < w.toNat) : yesNoOf w.toNat = none :=
  (if_neg (by omega)).trans (if_neg (by omega))

theorem optionalOf_eq_none {f : β → Option α} {o : Option β} {b : β} (is : o = some b) (fails : f b = none) :
    optionalOf f o = none := by
  subst is
  simp [optionalOf, fails]

theorem allOf_eq_none {f : β → Option α} {xs : List β} {b : β} (among : b ∈ xs) (fails : f b = none) :
    allOf f xs = none := by
  induction xs with
  | nil => cases among
  | cons a xs ih =>
    rcases List.mem_cons.mp among with rfl | later
    · simp [allOf, fails]
    · simp [allOf, ih later]

theorem allOf_length {f : β → Option α} {xs : List β} {ys : List α} (all : allOf f xs = some ys) :
    ys.length = xs.length := by
  induction xs generalizing ys with
  | nil => simp only [allOf, Option.some.injEq] at all; simp [← all]
  | cons a xs ih =>
    simp only [allOf, Option.bind_eq_bind, Option.bind_eq_some_iff, Option.pure_def, Option.some.injEq] at all
    obtain ⟨_, _, zs, rest, rfl⟩ := all
    simp [ih rest]

/-- A list in range has the values that its entries stand for. -/
theorem allOf_eq_some_map {f : β → Option α} {g : α → β} {xs : List β} {ys : List α}
    (inverse : ∀ b a, f b = some a → g a = b) (all : allOf f xs = some ys) : ys.map g = xs := by
  induction xs generalizing ys with
  | nil => simp only [allOf, Option.some.injEq] at all; simp [← all]
  | cons a xs ih =>
    simp only [allOf, Option.bind_eq_bind, Option.bind_eq_some_iff, Option.pure_def, Option.some.injEq] at all
    obtain ⟨_, first, zs, rest, rfl⟩ := all
    simp [ih rest, inverse _ _ first]

/-! ### Fields out of their ranges -/

/-- The words are read as a field that is not in range. -/
def OutOfRangeField (p : Parse α) (f : α → Option β) (ws : List Word) : Prop := ∃ a, Reads p ws a ∧ f a = none

theorem words32_append (hi lo : Word) : words32 (hi ++ lo) = [hi, lo] := by
  simp only [words32, List.cons.injEq, and_true]
  constructor
  · exact BitVec.extractLsb'_append_eq_left
  · exact BitVec.extractLsb'_append_eq_right

/-- R5: the words of a slot and a serial of which one is out of range. -/
theorem designationOf_of_refOutOfRange {ref : List Word} (fails : refOutOfRange ref) :
    ∃ slot serial, ref = slot :: words32 serial ∧ designationOf (.ref slot.toNat serial) = none := by
  match ref, fails with
  | [slot, hi, lo], fails =>
    refine ⟨slot, hi ++ lo, by rw [words32_append], if_neg fun passes => ?_⟩
    obtain ⟨few, used⟩ := passes
    rcases fails with many | ⟨rfl, rfl⟩
    · exact absurd many (not_le.mpr few)
    · exact used rfl

theorem changeOutOfRange_field {ws : List Word} (fails : ChangeOutOfRange ws) :
    OutOfRangeField parseChange changeOf ws := by
  cases fails with
  | destination w out =>
    exact ⟨_, reads_parseChange_destination w, congrArg (Option.map Change.destination) (destinationOf_eq_none out)⟩
  | hold w out =>
    exact ⟨_, reads_parseChange_hold (reads_parseForm_set (reads_parseNat w)),
      congrArg (Option.map Change.setHold) (inRange_eq_none out)⟩

theorem changeUnknown_stops {ws : List Word} (unknown : ChangeUnknown ws) : Stops parseChange ws := by
  cases unknown with
  | kind w other => exact stops_parseChange other
  | form k w known other =>
    rcases known with rfl | rfl
    · exact (reads_parseNat 2).stops ((stops_parseForm other).bind _)
    · exact (reads_parseNat 3).stops ((stops_parseForm other).bind _)

theorem parameterOutOfRange_field {ws : List Word} (fails : ParameterOutOfRange ws) :
    OutOfRangeField parseParameter parameterOf ws := by
  cases fails with
  | decisionWindow w out =>
    exact ⟨_, reads_parseParameter_words (kind := 1) (by decide) w,
      congrArg (Option.map Parameter.decisionWindow) (inRange_eq_none out)⟩
  | reviseWindow w out =>
    exact ⟨_, reads_parseParameter_words (kind := 2) (by decide) w,
      congrArg (Option.map Parameter.reviseWindow) (inRange_eq_none out)⟩
  | lapLimit w out =>
    exact ⟨_, reads_parseParameter_words (kind := 3) (by decide) w,
      congrArg (Option.map Parameter.lapLimit) (inRange_eq_none out)⟩
  | holdGroup w out =>
    exact ⟨_, reads_parseParameter_words (kind := 4) (by decide) w,
      congrArg (Option.map Parameter.holdGroup) (destinationOf_eq_none out)⟩

theorem patternByteOf_eq_none {w : Word} (used : w ≠ 0) (fails : ¬within 33 126 w) : patternByteOf w.toNat = none := by
  have notAny : w.toNat ≠ 0 := fun zero => used (BitVec.eq_of_toNat_eq zero)
  exact (if_neg notAny).trans (congrArg (Option.map _) (inRange_eq_none fails))

/-- R67: a pattern that is not valid is none. -/
theorem patternOf_eq_none {positions : List Word} {lo hi : Word} (fails : patternFails positions lo hi) :
    patternOf { positions := positions.map BitVec.toNat, minLength := lo.toNat, maxLength := hi.toNat } = none := by
  cases all : allOf patternByteOf (positions.map BitVec.toNat) with
  | none => simp [patternOf, all]
  | some bytes =>
    have length : bytes.length = positions.length := by simpa using allOf_length all
    rw [patternOf, all]
    refine if_neg fun valid => ?_
    obtain ⟨few, low, order, high⟩ := valid
    rw [length] at few
    rcases fails with many | ⟨b, among, used, out⟩ | out | out | out
    · exact absurd few (not_le.mpr many)
    · have none := allOf_eq_none (List.mem_map_of_mem among) (patternByteOf_eq_none used out)
      rw [all] at none
      cases none
    · exact out ⟨low, order.trans high⟩
    · exact out ⟨low.trans order, high⟩
    · exact absurd order (not_le.mpr out)

theorem conditionOutOfRange_field {ws : List Word} (fails : ConditionOutOfRange ws) :
    OutOfRangeField parseCondition conditionOf ws := by
  cases fails with
  | pattern positions lo hi few out =>
    exact ⟨_, reads_parseCondition_key (reads_parsePattern lo hi few),
      congrArg (Option.map Condition.key) (patternOf_eq_none out)⟩
  | states ks few out =>
    refine ⟨_, reads_parseCondition (c := .state ks) few, if_neg fun passes => ?_⟩
    rcases out with none | repeated
    · exact passes.1 none
    · exact repeated ((noRepeat_iff ks).mp passes.2)
  | ruleNumber w out =>
    exact ⟨_, reads_parseCondition_ruleNumber w, congrArg (Option.map Condition.ruleNumber) (ruleOf_eq_none out)⟩
  | destination w out =>
    exact ⟨_, reads_parseCondition_destination w, congrArg (Option.map Condition.destination) (destinationOf_eq_none out)⟩
  | hold w out =>
    exact ⟨_, reads_parseCondition_hold (reads_parseFieldTest (f := fun w => [w]) (fun w => reads_parseNat w) (.value w)),
      congrArg (Option.map fun v => Condition.hold (.value v)) (inRange_eq_none out)⟩
  | lane w out => exact ⟨_, reads_parseCondition_lane w, congrArg (Option.map Condition.lane) (laneOf_eq_none out)⟩
  | laps w out =>
    exact ⟨_, reads_parseCondition_laps w,
      congrArg (Option.map Condition.laps) (inRange_eq_none fun few => absurd few.2 (not_le.mpr out))⟩

theorem conditionUnknown_stops {ws : List Word} (unknown : ConditionUnknown ws) : Stops parseCondition ws := by
  cases unknown with
  | kind w other => exact stops_parseCondition other
  | state n pre w more other =>
    have states := stops_parseList (n := n) (fun k (_ : k ∈ pre) => reads_parseState k) (stops_parseState other) more
    rw [← List.flatMap_def, ← List.map_eq_flatMap] at states
    exact (reads_parseNat 2).stops (states.bind _)
  | origin w other => exact (reads_parseNat 3).stops ((stops_parseOrigin other).bind _)
  | test k w known other =>
    rcases known with rfl | rfl
    · exact (reads_parseNat 6).stops ((stops_parseFieldTest other).bind _)
    · exact (reads_parseNat 7).stops ((stops_parseFieldTest other).bind _)

theorem viewOutOfRange_field {ws : List Word} (fails : ViewOutOfRange ws) : OutOfRangeField parseView viewOf ws := by
  cases fails with
  | expected w out =>
    exact ⟨_, reads_parseView_expected w, congrArg (Option.map View.expected) (outletOf_eq_none out)⟩
  | expectedBin w out =>
    exact ⟨_, reads_parseView_expectedBin w, congrArg (Option.map View.expectedBin) (laneOf_eq_none out)⟩
  | content w out =>
    exact ⟨_, reads_parseView_content w, congrArg (Option.map View.content) (outletOf_eq_none out)⟩

end Sys2Proof.Machine
end

section
/-!
SUPPORT. Commands that R128 refuses with BAD_ARGUMENT, one lemma for each command whose arguments can be out of range.
-/
namespace Sys2Proof.Machine

variable {α : Type}

/-- R128, first class: the body is refused with BAD_ARGUMENT. -/
def Refuses (code : Byte) (body : List Word) : Prop :=
  ∃ judge, judgeOf code = some judge ∧ judge body = .refused .badArgument []

theorem refuses_of_reads {p : Parse α} {check : α → Judged} {code : Byte} {body : List Word} {a : α}
    (judges : judgeOf code = some (judgeBody p check)) (read : Reads p body a)
    (fails : check a = .refused .badArgument []) : Refuses code body :=
  ⟨_, judges, (read.judges fails).whole⟩

theorem refuses_of_stops {p : Parse α} {check : α → Judged} {code : Byte} {ws : List Word}
    (judges : judgeOf code = some (judgeBody p check)) (stops : Stops p ws) (rest : List Word) :
    Refuses code (ws ++ rest) :=
  ⟨_, judges, stops.judged rest⟩

theorem checkArguments_of_none {o : Option HostCommand} (none : o = none) :
    checkArguments o = .refused .badArgument [] := by
  rw [none, checkArguments]

theorem checkArguments_map_of_none {o : Option α} (f : α → HostCommand) (none : o = none) :
    checkArguments (o.map f) = .refused .badArgument [] := by
  rw [none, Option.map_none, checkArguments]

/-! ### Outlets, lanes, groups and rules -/

theorem refuses_lane {code : Byte} {w : Word} (lanes : code ∈ [(0x13 : Byte), 0x14, 0x1D]) (out : 3 < w.toNat) :
    Refuses code [w] := by
  simp only [List.mem_cons, List.not_mem_nil, or_false] at lanes
  rcases lanes with rfl | rfl | rfl
  all_goals exact refuses_of_reads rfl (reads_parseNat w) (checkArguments_map_of_none _ (laneOf_eq_none out))

theorem refuses_outlet {code : Byte} {w : Word} (outlets : code ∈ [(0x08 : Byte), 0x0A, 0x0B, 0x0D])
    (out : ¬within 1 48 w) : Refuses code [w] := by
  simp only [List.mem_cons, List.not_mem_nil, or_false] at outlets
  rcases outlets with rfl | rfl | rfl | rfl
  all_goals exact refuses_of_reads rfl (reads_parseNat w) (checkArguments_map_of_none _ (outletOf_eq_none out))

theorem refuses_defineOutlet {k l n : Word} (out : ¬within 1 48 k ∨ 3 < l.toNat ∨ ¬within 1 4095 n) :
    Refuses 0x07 [k, l, n] := by
  refine refuses_of_reads rfl ((reads_parseNat k).bind ((reads_parseNat l).bind ((reads_parseNat n).map _)))
    (checkArguments_of_none ?_)
  rcases out with outlet | lane | capacity
  · simp [outletOf_eq_none outlet]
  · simp [laneOf_eq_none lane]
  · have room : capacityOf n.toNat = none := inRange_eq_none capacity
    simp [room]

theorem refuses_setCapacity {k n : Word} (out : ¬within 1 48 k ∨ ¬within 1 4095 n) : Refuses 0x09 [k, n] := by
  refine refuses_of_reads rfl ((reads_parseNat k).bind ((reads_parseNat n).map _)) (checkArguments_of_none ?_)
  rcases out with outlet | capacity
  · simp [outletOf_eq_none outlet]
  · have room : capacityOf n.toNat = none := inRange_eq_none capacity
    simp [room]

theorem policyWord_of_within {w : Word} (known : within 1 3 w) : ∃ policy, w = policyWord policy := by
  obtain ⟨low, high⟩ := known
  obtain one | two | three : w.toNat = 1 ∨ w.toNat = 2 ∨ w.toNat = 3 := by omega
  · exact ⟨.first, BitVec.eq_of_toNat_eq one⟩
  · exact ⟨.rotate, BitVec.eq_of_toNat_eq two⟩
  · exact ⟨.least, BitVec.eq_of_toNat_eq three⟩

theorem refuses_defineGroup {g : Word} {members : List Word} {policy : Word} {overflow : Option Word}
    (few : members.length < 65536) (known : within 1 3 policy)
    (out : ¬within 1 15 g ∨ (∃ m ∈ members, ¬within 1 48 m) ∨ ¬members.Nodup ∨
      (∃ h, overflow = some h ∧ (¬within 1 15 h ∨ h = g))) :
    Refuses 0x0F (g :: listForm (fun m => [m]) members ++ [policy] ++ presenceForm (fun h => [h]) overflow) := by
  obtain ⟨policy, rfl⟩ := policyWord_of_within known
  refine refuses_of_reads rfl (reads_parseGroup g (fun m => m) (fun h => h) few) (checkArguments_of_none ?_)
  refine Option.eq_none_iff_forall_ne_some.mpr fun c passes => ?_
  simp only [groupCommandOf, Option.bind_eq_bind, Option.bind_eq_some_iff, Option.ite_none_right_eq_some] at passes
  obtain ⟨group, isGroup, ks, outlets, spill, isSpill, ⟨distinct, _, other⟩, _⟩ := passes
  rcases out with out | ⟨m, among, out⟩ | repeated | ⟨h, rfl, out | rfl⟩
  · cases (groupOf_eq_none out).symm.trans isGroup
  · cases (allOf_eq_none (List.mem_map_of_mem among) (outletOf_eq_none out)).symm.trans outlets
  · have same : ks.map outletNumber = members.map BitVec.toNat :=
      allOf_eq_some_map (fun n k is => (outletOf_eq_some.mp is).symm) outlets
    have nodup : (members.map BitVec.toNat).Nodup :=
      same ▸ ((noRepeat_iff ks).mp distinct).map fun a b is => Fin.ext (Nat.succ_inj.mp is)
    exact repeated (List.Nodup.of_map _ nodup)
  · cases (optionalOf_eq_none rfl (groupOf_eq_none out)).symm.trans isSpill
  · simp only [optionalOf, Option.map_some, isGroup, Option.some.injEq] at isSpill
    exact other isSpill.symm

theorem refuses_writeRule {n enabled : Word} {positions : List Word} {lo hi priority group : Word}
    (few : positions.length < 65536)
    (out : 127 < n.toNat ∨ 1 < enabled.toNat ∨ patternFails positions lo hi ∨ 15 < priority.toNat ∨ 15 < group.toNat) :
    Refuses 0x11 ([n, enabled] ++ sentPattern positions lo hi ++ [priority, group]) := by
  refine refuses_of_reads rfl (reads_parseRule n enabled lo hi priority group few) (checkArguments_of_none ?_)
  rcases out with out | out | out | out | out
  · simp [ruleCommandOf, ruleOf_eq_none out]
  · simp [ruleCommandOf, yesNoOf_eq_none out]
  · simp [ruleCommandOf, patternOf_eq_none out]
  · have none : inRange 0 15 priority.toNat = none := inRange_eq_none fun few => absurd few.2 (not_le.mpr out)
    simp [ruleCommandOf, none]
  · simp [ruleCommandOf, destinationOf_eq_none out]

theorem refuses_policy {g : Word} {members : List Word} {w : Word} (rest : List Word) (few : members.length < 65536)
    (unknown : ¬within 1 3 w) : Refuses 0x0F (g :: listForm (fun m => [m]) members ++ w :: rest) := by
  have list := reads_listForm (f := fun m => [m]) (fun m (_ : m ∈ members) => reads_parseNat m) few
  have stops : Stops parseGroup ([g] ++ (listForm (fun m => [m]) members ++ [w])) :=
    (reads_parseNat g).stops (list.stops ((stops_parsePolicy unknown).bind _))
  simpa using refuses_of_stops (code := 0x0F) rfl stops rest

/-! ### Items and designations -/

theorem itemOf_eq_none {key : Key} {d : Word} {hold : Option Word} {tag : Option Word32}
    (out : 15 < d.toNat ∨ ∃ h, hold = some h ∧ ¬within 1 15 h) :
    itemOf (rawItem key d hold tag) = none := by
  rcases out with out | ⟨h, rfl, out⟩
  · simp [itemOf, rawItem, destinationOf_eq_none out]
  · have none : optionalOf holdReasonOf (some h.toNat) = none := optionalOf_eq_none rfl (inRange_eq_none out)
    simp [itemOf, rawItem, none]

theorem refuses_itemCount (unused : Byte) {items : List ItemDefinition}
    (count : items = [] ∨ 12 < items.length ∧ items.length < 65536) (fits : ∀ d ∈ items, d.key.length < 65536) :
    Refuses 0x02 (listForm (itemForm unused) items) := by
  have few : items.length < 65536 := by
    rcases count with rfl | ⟨_, few⟩
    · decide
    · exact few
  have read := reads_parseManifest (forall₂_reads_map fun d among => reads_parseItem_form unused (fits d among))
    (by simpa using few)
  rw [List.length_map] at read
  refine refuses_of_reads rfl read (if_neg fun passes => ?_)
  obtain ⟨some, many⟩ := passes
  rcases count with rfl | ⟨more, _⟩
  · exact absurd some (by decide)
  · exact absurd many (not_le.mpr more)

theorem amendCommandOf_eq_none {d : RawDesignation} (g : Option (BitVec 16)) {cs : List RawChange}
    (out : designationOf d = none ∨ allOf changeOf cs = none ∨ cs = [] ∨
      repeatsAllowed 0x04 (cs.map RawChange.kind) = false) :
    amendCommandOf d g cs = none := by
  refine Option.eq_none_iff_forall_ne_some.mpr fun c passes => ?_
  simp only [amendCommandOf, Option.bind_eq_bind, Option.bind_eq_some_iff, Option.ite_none_right_eq_some] at passes
  obtain ⟨_, designation, changes, isChanges, ⟨named, allowed⟩, _⟩ := passes
  rcases out with out | out | rfl | out
  · cases out.symm.trans designation
  · cases out.symm.trans isChanges
  · exact named (Option.some.inj isChanges).symm
  · cases out.symm.trans allowed

/-- R5: a reference out of range, in every command that takes a designation. -/
theorem refuses_designation {code : Byte} {ref rest : List Word} (fails : refOutOfRange ref)
    (commands : code ∈ [(0x03 : Byte), 0x05] ∧ rest = [] ∨ code = 0x06 ∧ rest ∈ [[(0 : Word)], [1]] ∨
      code = 0x04 ∧ ∃ (g : Option (BitVec 16)) (cs : List Change), cs.length < 65536 ∧
        rest = guardForm g ++ listForm changeForm cs) :
    Refuses code (1 :: ref ++ rest) := by
  obtain ⟨slot, serial, rfl, out⟩ := designationOf_of_refOutOfRange fails
  have read := reads_parseDesignation_ref slot serial
  rcases commands with ⟨codes, rfl⟩ | ⟨rfl, forced⟩ | ⟨rfl, g, cs, few, rfl⟩
  · simp only [List.mem_cons, List.not_mem_nil, or_false] at codes
    rw [List.append_nil]
    rcases codes with rfl | rfl
    · exact refuses_of_reads rfl (reads_parseRead_ref slot serial) (checkArguments_map_of_none _ out)
    · exact refuses_of_reads rfl read (checkArguments_map_of_none _ out)
  · obtain ⟨force, rfl⟩ : ∃ force : Bool, rest = [if force then 1 else 0] := by
      simp only [List.mem_cons, List.not_mem_nil, or_false] at forced
      rcases forced with rfl | rfl
      · exact ⟨false, rfl⟩
      · exact ⟨true, rfl⟩
    exact refuses_of_reads rfl (read.bind ((reads_parsePresence force).map _)) (checkArguments_map_of_none _ out)
  · exact refuses_of_reads rfl
      (read.bind ((reads_parseGuard g).bind ((reads_listForm (fun c _ => reads_parseChange c) few).map _)))
      (checkArguments_of_none (amendCommandOf_eq_none g (.inl out)))

/-- R165: a first kind word that names no kind. -/
theorem refuses_firstKind {code : Byte} {kinds : Nat} {w : Word} (rest : List Word)
    (firsts : (code, kinds) ∈
      [((0x03 : Byte), 3), (0x04, 2), (0x05, 2), (0x06, 2), (0x0C, 2), (0x18, 2), (0x19, 2)])
    (unknown : ¬within 1 kinds w) : Refuses code (w :: rest) := by
  simp only [List.mem_cons, List.not_mem_nil, or_false, Prod.mk.injEq] at firsts
  rcases firsts with ⟨rfl, rfl⟩ | ⟨rfl, rfl⟩ | ⟨rfl, rfl⟩ | ⟨rfl, rfl⟩ | ⟨rfl, rfl⟩ | ⟨rfl, rfl⟩ | ⟨rfl, rfl⟩
  · exact refuses_of_stops rfl (stops_parseRead unknown) rest
  · exact refuses_of_stops rfl ((stops_parseDesignation unknown).bind _) rest
  · exact refuses_of_stops rfl (stops_parseDesignation unknown) rest
  · exact refuses_of_stops rfl ((stops_parseDesignation unknown).bind _) rest
  · exact refuses_of_stops rfl (stops_parseOutletOrBin unknown) rest
  · exact refuses_of_stops rfl (stops_parseSelection unknown) rest
  · exact refuses_of_stops rfl (stops_parseSelection unknown) rest

/-! ### READ ITEM by cursor -/

theorem cursorStepWord_of_within {w : Word} (known : within 1 3 w) : ∃ step, w = cursorStepWord step := by
  obtain ⟨low, high⟩ := known
  obtain one | two | three : w.toNat = 1 ∨ w.toNat = 2 ∨ w.toNat = 3 := by omega
  · exact ⟨.next, BitVec.eq_of_toNat_eq one⟩
  · exact ⟨.prev, BitVec.eq_of_toNat_eq two⟩
  · exact ⟨.hold, BitVec.eq_of_toNat_eq three⟩

theorem cursorAccessWord_of_within {w : Word} (known : within 1 2 w) : ∃ access, w = cursorAccessWord access := by
  obtain ⟨low, high⟩ := known
  obtain one | two : w.toNat = 1 ∨ w.toNat = 2 := by omega
  · exact ⟨.read, BitVec.eq_of_toNat_eq one⟩
  · exact ⟨.skip, BitVec.eq_of_toNat_eq two⟩

theorem refuses_cursorRead {c step access : Word} (out : 7 < c.toNat) (knownStep : within 1 3 step)
    (knownAccess : within 1 2 access) : Refuses 0x03 [3, c, step, access] := by
  obtain ⟨step, rfl⟩ := cursorStepWord_of_within knownStep
  obtain ⟨access, rfl⟩ := cursorAccessWord_of_within knownAccess
  exact refuses_of_reads rfl (reads_parseRead_cursor c step access) (checkArguments_of_none
    (congrArg (Option.map fun c => HostCommand.readItemByCursor c step access) (cursorOf_eq_none out)))

theorem refuses_cursorStep (c : Word) {w : Word} (rest : List Word) (unknown : ¬within 1 3 w) :
    Refuses 0x03 (3 :: c :: w :: rest) :=
  have stops : Stops parseRead [3, c, w] :=
    (reads_parseNat 3).stops ((reads_parseNat c).stops ((stops_parseCursorStep unknown).bind _))
  refuses_of_stops rfl stops rest

theorem refuses_cursorAccess (c : Word) {step w : Word} (rest : List Word) (knownStep : within 1 3 step)
    (unknown : ¬within 1 2 w) : Refuses 0x03 (3 :: c :: step :: w :: rest) := by
  obtain ⟨step, rfl⟩ := cursorStepWord_of_within knownStep
  have stops : Stops parseRead [3, c, cursorStepWord step, w] := (reads_parseNat 3).stops
    ((reads_parseNat c).stops ((reads_parseCursorStep step).stops ((stops_parseAccess unknown).bind _)))
  exact refuses_of_stops rfl stops rest

/-! ### AMEND ITEM -/

theorem refuses_guardKind (unused : Byte) {d : Designation} {w : Word} (rest : List Word) (fits : d.fits)
    (unknown : ¬within 1 2 w) : Refuses 0x04 (designationForm unused d ++ w :: rest) := by
  have stops : Stops parseAmendment (designationForm unused d ++ [w]) :=
    (reads_parseDesignation unused fits).stops ((stops_parseGuard unknown).bind _)
  simpa using refuses_of_stops (code := 0x04) rfl stops rest

theorem refuses_changes (unused : Byte) {d : Designation} (g : Option (BitVec 16)) {cs : List Change} (fits : d.fits)
    (out : cs = [] ∨ cs.length < 65536 ∧ ¬(cs.map Change.named).Nodup ∧ Config.repeatedNameRefused 0x04 = true) :
    Refuses 0x04 (designationForm unused d ++ guardForm g ++ listForm changeForm cs) := by
  have few : cs.length < 65536 := by
    rcases out with rfl | ⟨few, _⟩
    · decide
    · exact few
  refine refuses_of_reads rfl (reads_parseAmendment unused g fits few)
    (checkArguments_of_none (amendCommandOf_eq_none g ?_))
  rcases out with rfl | ⟨_, repeated, refused⟩
  · exact .inr (.inr (.inl rfl))
  · refine .inr (.inr (.inr ?_))
    rw [map_sent_kind, Bool.eq_false_iff, Ne, repeatsAllowed_iff, refused]
    exact fun passes => passes.elim repeated (by simp)

theorem refuses_change (unused : Byte) {d : Designation} (g : Option (BitVec 16)) {pre post : List Change}
    {fails : List Word} (fits : d.fits) (out : ChangeOutOfRange fails) (few : pre.length + 1 + post.length < 65536) :
    Refuses 0x04 (designationForm unused d ++ guardForm g ++ word (pre.length + 1 + post.length) ::
      (pre.map changeForm).flatten ++ fails ++ (post.map changeForm).flatten) := by
  obtain ⟨raw, read, none⟩ := changeOutOfRange_field out
  have list := reads_listAround (fun c (_ : c ∈ pre ++ post) => reads_parseChange c) read few
  have body := (reads_parseDesignation unused fits).bind (f := fun d => parseGuard >>= fun g =>
    parseList parseChange >>= fun cs => pure (d, g, cs)) ((reads_parseGuard g).bind (list.map _))
  simp only [List.append_assoc, List.cons_append] at body ⊢
  exact refuses_of_reads rfl body (checkArguments_of_none (amendCommandOf_eq_none g
    (.inr (.inl (allOf_eq_none (b := raw) (by simp) none)))))

theorem refuses_changeUnknown (unused : Byte) {d : Designation} (g : Option (BitVec 16)) {n : Word} {pre : List Change}
    {fails : List Word} (rest : List Word) (fits : d.fits) (unknown : ChangeUnknown fails) (more : pre.length < n.toNat) :
    Refuses 0x04 (designationForm unused d ++ guardForm g ++ n :: (pre.map changeForm).flatten ++ fails ++ rest) := by
  have list := stops_parseList (fun c (_ : c ∈ pre) => reads_parseChange c) (changeUnknown_stops unknown) more
  have stops : Stops parseAmendment (designationForm unused d ++ (guardForm g ++ _)) :=
    (reads_parseDesignation unused fits).stops ((reads_parseGuard g).stops (list.bind _))
  simpa using refuses_of_stops (code := 0x04) rfl stops rest

end Sys2Proof.Machine
end

section
/-!
PROOF. Obligation O43: the body of a command in its form is judged to be the command, and others are refused in the order
of the two classes (R125, R128, R132, R164, R165).
-/
namespace Sys2Proof.Machine

/-! ### SET LANE PARAMETERS -/

theorem parametersCommandOf_eq_none {l : Nat} {ps : List (Nat × Nat)}
    (out : laneOf l = none ∨ allOf parameterOf ps = none ∨ ps = [] ∨ repeatsAllowed 0x15 (ps.map (·.1)) = false) :
    parametersCommandOf l ps = none := by
  refine Option.eq_none_iff_forall_ne_some.mpr fun c passes => ?_
  simp only [parametersCommandOf, Option.bind_eq_bind, Option.bind_eq_some_iff, Option.ite_none_right_eq_some] at passes
  obtain ⟨_, lane, parameters, isParameters, ⟨named, allowed⟩, _⟩ := passes
  rcases out with out | out | rfl | out
  · cases out.symm.trans lane
  · cases out.symm.trans isParameters
  · exact named (Option.some.inj isParameters).symm
  · cases out.symm.trans allowed

theorem refuses_parameters {l : Word} {ps : List Parameter} (few : ps.length < 65536)
    (out : 3 < l.toNat ∨ ps = [] ∨ ¬(ps.map Parameter.named).Nodup ∧ Config.repeatedNameRefused 0x15 = true) :
    Refuses 0x15 (l :: listForm parameterForm ps) := by
  refine refuses_of_reads rfl (reads_parseLaneParameters l (reads_parameters few))
    (checkArguments_of_none (parametersCommandOf_eq_none ?_))
  rcases out with out | rfl | ⟨repeated, refused⟩
  · exact .inl (laneOf_eq_none out)
  · exact .inr (.inr (.inl rfl))
  · refine .inr (.inr (.inr ?_))
    rw [map_sent_fst, Bool.eq_false_iff, Ne, repeatsAllowed_iff, refused]
    exact fun passes => passes.elim repeated (by simp)

theorem refuses_parameter (l : Word) {pre post : List Parameter} {fails : List Word} (out : ParameterOutOfRange fails)
    (few : pre.length + 1 + post.length < 65536) :
    Refuses 0x15 (l :: word (pre.length + 1 + post.length) ::
      (pre.map parameterForm).flatten ++ fails ++ (post.map parameterForm).flatten) := by
  obtain ⟨raw, read, none⟩ := parameterOutOfRange_field out
  have body := reads_parseLaneParameters l
    (reads_listAround (fun p (_ : p ∈ pre ++ post) => reads_parseParameter p) read few)
  exact refuses_of_reads rfl body (checkArguments_of_none (parametersCommandOf_eq_none
    (.inr (.inl (allOf_eq_none (b := raw) (by simp) none)))))

theorem refuses_parameterUnknown (l : Word) {n : Word} {pre : List Parameter} {w : Word} (rest : List Word)
    (unknown : ¬within 1 4 w) (more : pre.length < n.toNat) :
    Refuses 0x15 (l :: n :: (pre.map parameterForm).flatten ++ w :: rest) := by
  have list := stops_parseList (fun p (_ : p ∈ pre) => reads_parseParameter p) (stops_parseParameter unknown) more
  have stops : Stops parseLaneParameters ([l] ++ _) := (reads_parseNat l).stops (list.bind _)
  simpa using refuses_of_stops (code := 0x15) rfl stops rest

/-! ### SET CURSOR -/

theorem setCursorCommandOf_eq_none {c : Nat} {v : RawView} {p : RawPlacement}
    (out : cursorOf c = none ∨ viewOf v = none ∨ ∀ w, viewOf v = some w → placementOf w p = none) :
    setCursorCommandOf c v p = none := by
  refine Option.eq_none_iff_forall_ne_some.mpr fun made passes => ?_
  simp only [setCursorCommandOf, Option.bind_eq_bind, Option.bind_eq_some_iff] at passes
  obtain ⟨_, cursor, view, isView, _, placement, _⟩ := passes
  rcases out with out | out | out
  · cases out.symm.trans cursor
  · cases out.symm.trans isView
  · cases (out view isView).symm.trans placement

theorem reads_placement_inRange (unused : Byte) {p : Placement} (record : ∀ d, p = .atRecord d → d.inRange)
    (key : ∀ k, p = .atKey k → k.length < 65536) : Reads parsePlacement (placementForm unused p) p.sent :=
  reads_parsePlacement unused (fun d is => Designation.fits_of_inRange (record d is)) key

theorem refuses_setCursor (unused : Byte) {c : Word} (v : View) {p : Placement} (out : 7 < c.toNat)
    (record : ∀ d, p = .atRecord d → d.inRange) (key : ∀ k, p = .atKey k → k.length < 65536) :
    Refuses 0x16 (c :: viewForm v ++ placementForm unused p) :=
  refuses_of_reads rfl (reads_parseSetCursor c (reads_parseView v) (reads_placement_inRange unused record key))
    (checkArguments_of_none (setCursorCommandOf_eq_none (.inl (cursorOf_eq_none out))))

theorem refuses_setCursorView (unused : Byte) (c : Word) {view : List Word} {p : Placement} (out : ViewOutOfRange view)
    (record : ∀ d, p = .atRecord d → d.inRange) (key : ∀ k, p = .atKey k → k.length < 65536) :
    Refuses 0x16 (c :: view ++ placementForm unused p) := by
  obtain ⟨raw, read, none⟩ := viewOutOfRange_field out
  exact refuses_of_reads rfl (reads_parseSetCursor c read (reads_placement_inRange unused record key))
    (checkArguments_of_none (setCursorCommandOf_eq_none (.inr (.inl none))))

theorem refuses_setCursorRecord (c : Word) (v : View) {ref : List Word} (out : refOutOfRange ref) :
    Refuses 0x16 (c :: viewForm v ++ 3 :: 1 :: ref) := by
  obtain ⟨slot, serial, rfl, none⟩ := designationOf_of_refOutOfRange out
  exact refuses_of_reads rfl (reads_parseSetCursor c (reads_parseView v)
      (reads_parsePlacement_atRecord (reads_parseDesignation_ref slot serial)))
    (checkArguments_of_none (setCursorCommandOf_eq_none
      (.inr (.inr fun _ _ => congrArg (Option.map Placement.atRecord) none))))

theorem inKeyOrder_eq_false {v : View} (notKey : v ≠ .key) (notState : ∀ s, v ≠ .state s) : inKeyOrder v = false := by
  cases v with
  | key => exact absurd rfl notKey
  | state s => exact absurd rfl (notState s)
  | expected k => rfl
  | expectedBin l => rfl
  | content k => rfl

theorem refuses_setCursorKey (unused : Byte) (c : Word) {v : View} {k : Key} (fits : k.length < 65536)
    (notKey : v ≠ .key) (notState : ∀ s, v ≠ .state s) :
    Refuses 0x16 (c :: viewForm v ++ 4 :: keyForm unused k) := by
  refine refuses_of_reads rfl (reads_parseSetCursor c (reads_parseView v)
      (reads_parsePlacement unused (p := .atKey k) (by simp) fun _ is => Placement.atKey.inj is ▸ fits))
    (checkArguments_of_none (setCursorCommandOf_eq_none (.inr (.inr fun w is => ?_))))
  obtain rfl : v = w := Option.some.inj ((viewOf_sent v).symm.trans is)
  exact if_neg (by simp [inKeyOrder_eq_false notKey notState])

theorem refuses_viewKind (c : Word) {w : Word} (rest : List Word) (unknown : ¬within 1 5 w) :
    Refuses 0x16 (c :: w :: rest) :=
  have stops : Stops parseSetCursor [c, w] := (reads_parseNat c).stops ((stops_parseView unknown).bind _)
  refuses_of_stops rfl stops rest

theorem stops_parseView_state {w : Word} (unknown : ¬within 1 5 w) : Stops parseView [2, w] :=
  (reads_parseNat 2).stops ((stops_parseState unknown).bind _)

theorem refuses_viewState (c : Word) {w : Word} (rest : List Word) (unknown : ¬within 1 5 w) :
    Refuses 0x16 (c :: 2 :: w :: rest) :=
  have stops : Stops parseSetCursor [c, 2, w] := (reads_parseNat c).stops ((stops_parseView_state unknown).bind _)
  refuses_of_stops rfl stops rest

/-- R165: an unknown kind in the placement of SET CURSOR. -/
theorem refuses_placement (c : Word) (v : View) {ws : List Word} (rest : List Word) (unknown : Stops parsePlacement ws) :
    Refuses 0x16 (c :: viewForm v ++ (ws ++ rest)) := by
  have stops : Stops parseSetCursor ([c] ++ (viewForm v ++ ws)) :=
    (reads_parseNat c).stops ((reads_parseView v).stops (unknown.bind _))
  simpa using refuses_of_stops (code := 0x16) rfl stops rest

theorem stops_parsePlacement_record {w : Word} (unknown : ¬within 1 2 w) : Stops parsePlacement [3, w] :=
  (reads_parseNat 3).stops ((stops_parseDesignation unknown).bind _)

/-! ### SEARCH -/

theorem startWord_of_within {w : Word} (known : within 1 2 w) : ∃ next : Bool, w = if next then 1 else 2 := by
  obtain ⟨low, high⟩ := known
  obtain one | two : w.toNat = 1 ∨ w.toNat = 2 := by omega
  · exact ⟨true, BitVec.eq_of_toNat_eq one⟩
  · exact ⟨false, BitVec.eq_of_toNat_eq two⟩

theorem searchCommandOf_eq_none {c : Nat} {next : Bool} {limit : Nat} {cs : List RawCondition}
    (out : cursorOf c = none ∨ inRange 1 Config.slotCount limit = none ∨ allOf conditionOf cs = none ∨
      noRepeat (cs.map RawCondition.kind) = false) : searchCommandOf c next limit cs = none := by
  refine Option.eq_none_iff_forall_ne_some.mpr fun made passes => ?_
  simp only [searchCommandOf, Option.bind_eq_bind, Option.bind_eq_some_iff, Option.ite_none_right_eq_some] at passes
  obtain ⟨_, cursor, _, isLimit, _, conditions, distinct, _⟩ := passes
  rcases out with out | out | out | out
  · cases out.symm.trans cursor
  · cases out.symm.trans isLimit
  · cases out.symm.trans conditions
  · cases out.symm.trans distinct

theorem refuses_search {c start limit : Word} {cs : List Condition} (known : within 1 2 start) (few : cs.length < 65536)
    (sendable : ∀ x ∈ cs, x.sendable)
    (out : 7 < c.toNat ∨ ¬within 1 8192 limit ∨ ¬(cs.map Condition.named).Nodup) :
    Refuses 0x17 ([c, start, limit] ++ listForm conditionForm cs) := by
  obtain ⟨next, rfl⟩ := startWord_of_within known
  refine refuses_of_reads rfl (reads_parseSearch c limit next (reads_conditions few sendable))
    (checkArguments_of_none (searchCommandOf_eq_none ?_))
  rcases out with out | out | repeated
  · exact .inl (cursorOf_eq_none out)
  · exact .inr (.inl (inRange_eq_none out))
  · refine .inr (.inr (.inr ?_))
    rw [map_sent_conditionKind, Bool.eq_false_iff, Ne, noRepeat_iff]
    exact repeated

theorem refuses_searchStart (c : Word) {w : Word} (rest : List Word) (unknown : ¬within 1 2 w) :
    Refuses 0x17 (c :: w :: rest) :=
  have stops : Stops parseSearch [c, w] := (reads_parseNat c).stops ((stops_parseStart unknown).bind _)
  refuses_of_stops rfl stops rest

theorem refuses_condition (c limit : Word) {start : Word} {pre post : List Condition} {fails : List Word}
    (known : within 1 2 start) (out : ConditionOutOfRange fails) (few : pre.length + 1 + post.length < 65536)
    (sendable : ∀ x ∈ pre ++ post, x.sendable) :
    Refuses 0x17 ([c, start, limit, word (pre.length + 1 + post.length)] ++
      (pre.map conditionForm).flatten ++ fails ++ (post.map conditionForm).flatten) := by
  obtain ⟨next, rfl⟩ := startWord_of_within known
  obtain ⟨raw, read, none⟩ := conditionOutOfRange_field out
  have body := reads_parseSearch c limit next
    (reads_listAround (fun x among => reads_parseCondition (sendable x among)) read few)
  simp only [List.append_assoc, List.cons_append, List.nil_append] at body ⊢
  exact refuses_of_reads rfl body (checkArguments_of_none (searchCommandOf_eq_none
    (.inr (.inr (.inl (allOf_eq_none (b := raw) (by simp) none))))))

theorem refuses_conditionUnknown (c limit : Word) {start n : Word} {pre : List Condition} {fails : List Word}
    (rest : List Word) (known : within 1 2 start) (unknown : ConditionUnknown fails) (more : pre.length < n.toNat)
    (sendable : ∀ x ∈ pre, x.sendable) :
    Refuses 0x17 ([c, start, limit, n] ++ (pre.map conditionForm).flatten ++ fails ++ rest) := by
  obtain ⟨next, rfl⟩ := startWord_of_within known
  have list := stops_parseList (fun x among => reads_parseCondition (sendable x among))
    (conditionUnknown_stops unknown) more
  have stops : Stops parseSearch ([c] ++ ([if next then 1 else 2] ++ ([limit] ++ _))) := (reads_parseNat c).stops
    ((reads_parseStart next).stops ((reads_parseNat limit).stops (list.bind _)))
  simpa using refuses_of_stops (code := 0x17) rfl stops rest

/-! ### The clauses of the obligation -/

/-- R128, first class: every body of `OutOfRange` is refused. -/
theorem refuses_of_outOfRange {unused code : Byte} {body : List Word} (out : OutOfRange unused code body) :
    Refuses code body := by
  cases out with
  | lane _ w codes out => exact refuses_lane codes out
  | outlet _ w codes out => exact refuses_outlet codes out
  | readGroup w out =>
    exact refuses_of_reads rfl (reads_parseNat w) (checkArguments_map_of_none _ (groupOf_eq_none out))
  | readRule w out => exact refuses_of_reads rfl (reads_parseNat w) (checkArguments_map_of_none _ (ruleOf_eq_none out))
  | defineOutlet k l n out => exact refuses_defineOutlet out
  | setCapacity k n out => exact refuses_setCapacity out
  | readOutlet w out =>
    exact refuses_of_reads rfl (reads_parseOutletOrBin_outlet w) (checkArguments_map_of_none _ (outletOf_eq_none out))
  | readBin w out =>
    exact refuses_of_reads rfl (reads_parseOutletOrBin_bin w) (checkArguments_map_of_none _ (laneOf_eq_none out))
  | firstKind _ kinds w rest firsts unknown => exact refuses_firstKind rest firsts unknown
  | item key d hold tag fits out =>
    exact refuses_of_reads rfl (reads_parseItem unused d hold tag fits) (checkArguments_map_of_none _ (itemOf_eq_none out))
  | itemCount items count fits => exact refuses_itemCount unused count fits
  | designation _ ref rest fails commands => exact refuses_designation fails commands
  | cursorRead c step access out knownStep knownAccess => exact refuses_cursorRead out knownStep knownAccess
  | cursorStep c w rest unknown => exact refuses_cursorStep c rest unknown
  | cursorAccess c step w rest known unknown => exact refuses_cursorAccess c rest known unknown
  | guardKind d w rest bounds unknown =>
    exact refuses_guardKind unused rest (Designation.fits_of_inRange bounds) unknown
  | changes d g cs bounds out => exact refuses_changes unused g (Designation.fits_of_inRange bounds) out
  | change d g pre post fails bounds out few =>
    exact refuses_change unused g (Designation.fits_of_inRange bounds) out few
  | changeUnknown d g n pre fails rest bounds unknown more =>
    exact refuses_changeUnknown unused g rest (Designation.fits_of_inRange bounds) unknown more
  | defineGroup g members policy overflow few known out => exact refuses_defineGroup few known out
  | policy g members w rest few unknown => exact refuses_policy rest few unknown
  | writeRule n enabled positions lo hi priority group few out => exact refuses_writeRule few out
  | parameters l ps few out => exact refuses_parameters few out
  | parameter l pre post fails out few => exact refuses_parameter l out few
  | parameterUnknown l n pre w rest unknown more => exact refuses_parameterUnknown l rest unknown more
  | setCursor c v p out record key => exact refuses_setCursor unused v out record key
  | setCursorView c view p out record key => exact refuses_setCursorView unused c out record key
  | setCursorRecord c v ref out => exact refuses_setCursorRecord c v out
  | setCursorKey c v k fits notKey notState => exact refuses_setCursorKey unused c fits notKey notState
  | viewKind c w rest unknown => exact refuses_viewKind c rest unknown
  | viewState c w rest unknown => exact refuses_viewState c rest unknown
  | placementKind c v w rest unknown => exact refuses_placement c v rest (stops_parsePlacement unknown)
  | placementRecord c v w rest unknown => exact refuses_placement c v rest (stops_parsePlacement_record unknown)
  | search c start limit cs known few sendable out => exact refuses_search known few sendable out
  | searchStart c w rest unknown => exact refuses_searchStart c rest unknown
  | condition c start limit pre post fails known out few sendable =>
    exact refuses_condition c limit known out few sendable
  | conditionUnknown c start limit n pre fails rest known unknown more sendable =>
    exact refuses_conditionUnknown c limit rest known unknown more sendable

/-- R132: the item that fails decides, wherever it stands. -/
theorem judgeLoadManifest_around {pre post : List ItemDefinition} (unused : Byte) {key : Key} {destination : Word}
    {hold : Option Word} {tag : Option Word32} (pass : ∀ d ∈ pre, d.inRange ∧ keyValid d.key = true)
    (sized : ∀ d ∈ post, d.key.length < 65536) (fits : key.length < 65536)
    (few : pre.length + 1 + post.length ≤ 12) :
    ∃ done, judgeLoadManifest (word (pre.length + 1 + post.length) :: (pre.map (itemForm unused)).flatten ++
        sentItem unused key destination hold tag ++ (post.map (itemForm unused)).flatten) =
      checkItems (pre.length + 1) done
        (some (rawItem key destination hold tag) :: post.map fun d => some d.sent) := by
  have entries : List.Forall₂ (Reads parseItem)
      (pre.map (itemForm unused) ++ sentItem unused key destination hold tag :: post.map (itemForm unused))
      (pre.map ItemDefinition.sent ++ rawItem key destination hold tag :: post.map ItemDefinition.sent) :=
    List.rel_append (forall₂_reads_map fun d among => reads_parseItem_form unused (pass d among).1.1)
      (.cons (reads_parseItem unused destination hold tag fits)
        (forall₂_reads_map fun d among => reads_parseItem_form unused (sized d among)))
  have count : (pre.map (itemForm unused) ++ sentItem unused key destination hold tag ::
      post.map (itemForm unused)).length = pre.length + 1 + post.length := by simp; omega
  have judged := (judges_loadManifest entries (by omega)).whole
  rw [count] at judged
  simp only [List.map_append, List.map_cons, List.map_map, List.flatten_append, List.flatten_cons] at judged
  have checked := checkItems_append (n := 1) (done := []) (some (rawItem key destination hold tag) ::
    post.map fun d => some d.sent) pass
  rw [Nat.add_comm 1] at checked
  refine ⟨pre.reverse ++ [], Eq.trans ?_ (judged.trans checked)⟩
  simp only [List.append_assoc, List.cons_append]

theorem itemOf_rawItem {key : Key} {destination : Word} {hold : Option Word} {tag : Option Word32}
    (small : destination.toNat ≤ 15) (bounds : ∀ h, hold = some h → within 1 15 h) :
    ∃ d, itemOf (rawItem key destination hold tag) = some d ∧ d.key = key := by
  have group : destinationOf destination.toNat = some ⟨destination.toNat, by omega⟩ := dif_pos (by omega)
  have reason : optionalOf holdReasonOf (hold.map BitVec.toNat) = some (hold.map BitVec.toNat) := by
    cases hold with
    | none => rfl
    | some h => exact congrArg (Option.map some) (if_pos (bounds h rfl))
  refine ⟨⟨key, ⟨destination.toNat, by omega⟩, hold.map BitVec.toNat, tag⟩, ?_, rfl⟩
  simp only [itemOf, rawItem, group, reason, Option.bind_eq_bind, Option.bind_some, Option.pure_def]

theorem judges_loadManifest_form {items : List ItemDefinition} (unused : Byte)
    (bounds : (HostCommand.loadManifest items).inRange) :
    Judges judgeLoadManifest ((HostCommand.loadManifest items).form unused)
      (checkItems 1 [] (items.map fun d => some d.sent)) := by
  obtain ⟨some, few, each⟩ := bounds
  have length : 1 ≤ items.length := List.length_pos_of_ne_nil some
  have judged := judges_loadManifest (forall₂_reads_map fun d among => reads_parseItem_form unused (each d among).1)
    (by simpa using ⟨length, few⟩)
  rwa [List.length_map, List.map_map] at judged

theorem checkItems_of_valid {items : List ItemDefinition} (pass : ∀ d ∈ items, d.inRange ∧ keyValid d.key = true) :
    checkItems 1 [] (items.map fun d => some d.sent) = .command (.loadManifest items) := by
  have checked := checkItems_append (n := 1) (done := []) [] pass
  rw [List.append_nil, List.append_nil] at checked
  rw [checked, checkItems, List.reverse_reverse]

/-- Settles O43: by what the words of each field are read as (`Reads`, `Stops`), the ranges that the fields pass or
fail, and the check of the keys. -/
theorem createItemBodyReadsBack : Obligations.CreateItemBodyReadsBack := by
  refine ⟨fun c unused judge judges bounds => ?_, fun unused code body judge out judges => ?_,
    fun pre post unused key destination hold tag pass sized length few => ?_,
    fun g members sent policy overflow unused bounds same => ?_⟩
  · by_cases manifest : ∃ items, c = .loadManifest items
    · obtain ⟨items, rfl⟩ := manifest
      obtain rfl : judgeLoadManifest = judge := Option.some.inj judges
      obtain ⟨whole, long, short⟩ := judges_loadManifest_form unused bounds
      refine ⟨fun valid => whole.trans (checkItems_of_valid fun d among => ⟨bounds.2.2 d among, ?_⟩),
        fun _ single => absurd rfl (single items), long, short⟩
      exact valid d.key (List.mem_map_of_mem among)
    · have single : ∀ items, c ≠ .loadManifest items := fun items is => manifest ⟨items, is⟩
      obtain ⟨own, isOwn, whole, long, short⟩ := judges_form c unused bounds single
      obtain rfl : own = judge := Option.some.inj (isOwn.symm.trans judges)
      rw [keys_eq_keysSent single |>.symm]
      exact ⟨fun valid => whole.trans (checkArguments_of_valid valid),
        fun invalid _ => whole.trans (checkArguments_of_invalid invalid), long, short⟩
  · obtain ⟨own, isOwn, refused⟩ := refuses_of_outOfRange out
    obtain rfl : own = judge := Option.some.inj (isOwn.symm.trans judges)
    exact refused
  · obtain ⟨done, judged⟩ := judgeLoadManifest_around (destination := destination) (hold := hold) (tag := tag) unused
      pass sized length few
    refine ⟨fun fails => judged.trans (checkItems_of_outOfRange _ (itemOf_eq_none ?_)), fun fits invalid => ?_⟩
    · by_contra passes
      simp only [not_or, not_lt, not_exists, not_and, not_not] at passes
      exact fails passes
    · obtain ⟨d, is, rfl⟩ := itemOf_rawItem (key := key) (tag := tag) fits.1 fits.2
      exact judged.trans (checkItems_of_badKey _ is invalid)
  · exact (judges_defineGroup unused bounds same).whole.trans (checkArguments_of_valid (by simp [HostCommand.keys]))

end Sys2Proof.Machine
end
